-- ==== Sys2Proof/Word.lean ====
section
/-! DEFINITION. The native word of the device (00_scope.md R7, R11; 01_architecture.md R34): 40 bits, and the
byte, link word and training-field widths beside it. Everything computed on them stands under Machine/. -/
namespace Sys2Proof

/-- A native word: 40 bits, bit 39 most significant (R7). -/
abbrev Word := BitVec 40

/-- A byte, as host buffers, datagrams and flash images hold it. -/
abbrev Byte := BitVec 8

/-- A link word of the forward lane: 42 bits (R74). -/
abbrev LinkWord := BitVec 42

/-- A PAM4 level: 0, 1, 2, 3 for −3, −1, +1, +3 (R48). -/
abbrev Pam4 := BitVec 2

end Sys2Proof
end

