-- ==== Sys2Proof/Syntax.lean ====
section
/-! DEFINITION. The commands of the block: one constructor for each of the 235 rows of spec/opcode_table.json,
in the table's order, with its operands. A mailbox command carries its message (12_mailbox_and_commands.md R366);
an event of a pin, a link, a drive or a timer carries what it brings from outside the device. -/
namespace Sys2Proof

/-- A mailbox message less its OPCODE, which the constructor names, and less LEN, the payload's length (R366). -/
structure Msg where
  /-- The door that posted it (R358): 0 host, 1 backbone, 2 board, 3 internal. -/
  door : Nat
  tag : BitVec 12
  flags : BitVec 8
  payload : List Word
  deriving DecidableEq, Repr

/-- The sender of a door datagram: its MAC address, its IP address and its UDP port (08 R259, R260). -/
structure Peer where
  mac : Nat
  v6 : Bool
  ip : Nat
  udp : Nat
  deriving DecidableEq, Repr

/-- What errors a run of reads met (01 R38, R39): the ranges that stayed poisoned, and the failures that a retry mended. -/
structure ReadErrors where
  poisoned : List (Nat × Nat)
  mended : Nat
  deriving DecidableEq, Repr

/-- What payload met on its way to a sealed segment (01 R38, R39): on the hops of the fabric to the Sillage writer, and when staging in external
memory was read. -/
structure StageErrors where
  hop : ReadErrors
  staging : ReadErrors
  deriving DecidableEq, Repr

/-- What parity finds on a line that a Facet takes (R38, Table 1-9, R39). -/
inductive LineFault where
  | none
  /-- The read of the ingest ring failed once; the re-read was good. -/
  | ingestRetried
  /-- The read of the ingest ring failed twice: INGEST_PARITY. -/
  | ingestFailed
  /-- Line memory failed; the replay from the ingest ring was good: FACET_PARITY. -/
  | memoryReplayed
  /-- Line memory failed, and so did the replay: FACET_PARITY, concealment. -/
  | memoryFailed
  /-- A fabric hop failed; a retransmission was good. -/
  | mended
  /-- A poisoned word reached the Facet. -/
  | poisoned
  /-- The line is good; payload of the frame's coding record met errors on its way to the segment, at ranges of the payload. -/
  | coding (errors : StageErrors)
  deriving DecidableEq, Repr

/-- How data came over the fabric or out of external memory (R38, Table 1-9). -/
inductive Delivery where
  | good
  /-- A failure that a retransmission, or a second read of the burst, mended. -/
  | mended
  /-- A failure that the retries did not mend: the failing words are marked poisoned. -/
  | poisoned
  deriving DecidableEq, Repr

/-- One run of the exposure and white-balance loops: the context, and how its statistics record was read (01 R38). -/
structure LoopRun where
  context : Nat
  read : Delivery
  deriving DecidableEq, Repr

/-- A Sync with its Follow_Up as the AS port has taken them (04 R107; 08 R243): Device Time of the Sync's reception, origin time with its correction, in ns, and
the rate of the source against the partner's, in units of 2^-41. -/
structure AsSync where
  received : Int
  origin : Int
  rateOffset : Int
  deriving DecidableEq, Repr

/-- The end of a frame's statistics: the context, and how the read part of the record's last, partial burst was read (01 R37). -/
structure FrameEnd where
  context : Nat
  merge : Delivery
  deriving DecidableEq, Repr

/-- One descriptor as a fetch returned it, with its scatter list (R330, R332). -/
structure Fetched where
  bits : BitVec 256
  /-- The scatter entries read where SG is set: address, length, flags (R332). -/
  sg : List (BitVec 128)
  deriving DecidableEq, Repr

/-- What a drive reports at detection (R263, R265). -/
structure DriveInfo where
  /-- NVMe version, major. -/
  nvmeMajor : Nat
  /-- Namespace 1 exists with 4096-byte LBAs and no metadata. -/
  ns1Ok : Bool
  nsBytes : Nat
  /-- Maximum Data Transfer Size in bytes; 0 for no limit. -/
  mdts : Nat
  width : Nat
  gen : Nat
  vwc : Bool
  deriving DecidableEq, Repr

/-- A slot of a drive as RING_START reads it: its 64 MiB image (R270, R291). -/
structure FoundSlot where
  drive : Nat
  slot : Nat
  image : List (BitVec 8)
  deriving DecidableEq, Repr

/-- What RING_START reads from the present members (R268, R275, R291, R308). -/
structure RingFound where
  /-- The copies A and B of a drive's label. -/
  labels : List (Nat × List (BitVec 8) × List (BitVec 8))
  /-- Records of the span directories, 20 480 bytes each. -/
  records : List (List (BitVec 8))
  slots : List FoundSlot
  /-- CAP_MEAS_UF of a HOLD measurement in the log tail, if one stands there (R308). -/
  holdCapUf : Option Nat
  deriving DecidableEq, Repr

/-- What the boot ROM reads from the flash in steps 1 to 3 of Table 13-8: for each slot its header (4096 bytes)
and whether the loader's digest matched; `none` for a flash error. -/
structure FlashRead where
  /-- Each copy of the boot record reads back with a good CRC (R402). -/
  recordA : Bool
  recordB : Bool
  slotA : Option (List Byte × Bool)
  slotB : Option (List Byte × Bool)
  deriving DecidableEq, Repr

/-- The configuration area as Phokel reads it (R402): which of its items read back with a good CRC. -/
structure Restored where
  /-- The commissioning values (R306). -/
  commission : Bool
  /-- The wrapped door secret and its check (R400). -/
  doorSecret : Bool
  /-- The last request SEQ values (R398). -/
  lastSeq : Bool
  deriving DecidableEq, Repr

/-- The causes of a security violation (R416, Table 14-2). -/
inductive SecCause where
  | fuseParity | supplyGlitch | clockGlitch | keyEngine | fuseWrite
  deriving DecidableEq, Repr

/-- A configuration write of the host (R318). -/
inductive ConfigWrite where
  | busMaster (on : Bool)
  | powerState (d3hot : Bool)
  /-- Max_Payload_Size in bytes. -/
  | maxPayload (bytes : Nat)
  /-- The completion timeout value of Device Control 2. -/
  | completionTimeout (v : BitVec 4)
  /-- Max_Read_Request_Size in bytes. -/
  | maxReadRequest (bytes : Nat)
  /-- ASPM L1 on or off. -/
  | aspmL1 (on : Bool)
  /-- Bits of the AER Uncorrectable Error Status to clear. -/
  | clearErrors (bits : BitVec 32)
  deriving DecidableEq, Repr

/-- The instructions of the IEEE 1149.1 port beside the three of R415 (R414). -/
inductive TapInstr where
  | idcode | bypass
  /-- Boundary scan: SAMPLE/PRELOAD, EXTEST. -/
  | sample | extest
  /-- The cluster's cores: halt them, let them run on, step them, reach their memory. -/
  | halt | run | step | clusterMemory
  /-- Read the trace buffer of chosen Facet lines. -/
  | trace
  deriving DecidableEq, Repr

/-- An access of the IEEE 1149.1 port (R414, R415). -/
inductive DebugAccess where
  /-- The CHALLENGE data register, for a scope. -/
  | challenge (scope : Nat)
  /-- The RESPONSE register, 320 bytes. -/
  | response (bytes : List Byte)
  /-- The CLOSE instruction. -/
  | close
  /-- Another instruction is shifted in. -/
  | instruction (i : TapInstr)
  deriving DecidableEq, Repr

/-- The commands of the block. -/
inductive Instr where
  /-- NOP, R377. -/
  | nop (m : Msg)
  /-- VERSION, R377. -/
  | version (m : Msg)
  /-- SYS_STATUS, R377. -/
  | sysStatus (m : Msg)
  /-- FENCE, R371. -/
  | fence (m : Msg)
  /-- EVENT_BARRIER, R372. -/
  | eventBarrier (m : Msg)
  /-- EVENT_BARRIER_DONE, R354: the oldest barrier whose T lies 2 µs back. -/
  | eventBarrierDone
  /-- DOOR_CFG, R377. -/
  | doorCfg (m : Msg)
  /-- SYS_RESET, R377. -/
  | sysReset (m : Msg)
  /-- CORE_RESET, R377. -/
  | coreReset (m : Msg)
  /-- PORT_CFG, R378. -/
  | portCfg (m : Msg)
  /-- PORT_BOND, R378. -/
  | portBond (m : Msg)
  /-- PORT_POWER, R379. -/
  | portPower (m : Msg)
  /-- PORT_TRAIN, R378. -/
  | portTrain (m : Msg)
  /-- PORT_STOP, R378. -/
  | portStop (m : Msg)
  /-- PORT_WAKE, R65. -/
  | portWake (m : Msg)
  /-- SENSOR_WRITE, R378. -/
  | sensorWrite (m : Msg)
  /-- SENSOR_READ, R378. -/
  | sensorRead (m : Msg)
  /-- TRIG_MAP_SET, R378. -/
  | trigMapSet (m : Msg)
  /-- EPOCH_MAP_SET, R378. -/
  | epochMapSet (m : Msg)
  /-- CAM_STATUS, R378. -/
  | camStatus (m : Msg)
  /-- TIME_CFG, R380. -/
  | timeCfg (m : Msg)
  /-- TIME_SET, R128. -/
  | timeSet (m : Msg)
  /-- TRAVEL_SET, R113. -/
  | travelSet (m : Msg)
  /-- AXIS_CFG, R380. -/
  | axisCfg (m : Msg)
  /-- FUSION_CFG, R380. -/
  | fusionCfg (m : Msg)
  /-- MARK_CFG, R380. -/
  | markCfg (m : Msg)
  /-- GATE_WRITE, R129. -/
  | gateWrite (m : Msg)
  /-- CUE_WRITE, R132. -/
  | cueWrite (m : Msg)
  /-- CUE_READ, R380. -/
  | cueRead (m : Msg)
  /-- EPOCH_DEFINE, R381. -/
  | epochDefine (m : Msg)
  /-- EPOCH_LAUNCH, R143. -/
  | epochLaunch (m : Msg)
  /-- EPOCH_LAUNCH_FROM_SYNC, R145: EPOCH_LAUNCH with FROM_SYNC set. -/
  | epochLaunchFromSync (m : Msg)
  /-- CTX_BIND, R152. -/
  | ctxBind (m : Msg)
  /-- CTX_UNBIND, R165. -/
  | ctxUnbind (m : Msg)
  /-- CTX_MOVE, R165. -/
  | ctxMove (m : Msg)
  /-- CTX_STAMP_CFG, R382. -/
  | ctxStampCfg (m : Msg)
  /-- CTX_PARAM_WRITE, R383: the inline form. -/
  | ctxParamWrite (m : Msg)
  /-- CTX_PARAM_WRITE_HOST, R383: HOST set; `host` is what the DMA read from host memory. -/
  | ctxParamWriteHost (m : Msg) (host : List Byte)
  /-- CTX_COMMIT, R196; `parityBad`: the shadow set fails its parity check (01 R38). -/
  | ctxCommit (m : Msg) (parityBad : Bool)
  /-- CTX_TABLE_LOAD, R194. -/
  | ctxTableLoad (m : Msg) (host : List Byte)
  /-- CTX_STATS_INFO, R382. -/
  | ctxStatsInfo (m : Msg)
  /-- CTX_STATS_HOST, R383. -/
  | ctxStatsHost (m : Msg)
  /-- CTX_LOOP_CFG, R384. -/
  | ctxLoopCfg (m : Msg)
  /-- OUT_CFG, R206. -/
  | outCfg (m : Msg)
  /-- OUT_COEF_LOAD, R385. -/
  | outCoefLoad (m : Msg) (host : List Byte)
  /-- OUT_HOST_RING, R385. -/
  | outHostRing (m : Msg)
  /-- ACCORD_CFG, R224. -/
  | accordCfg (m : Msg)
  /-- ACCORD_SOURCE, R224. -/
  | accordSource (m : Msg)
  /-- ACCORD_MESH_LOAD, R225. -/
  | accordMeshLoad (m : Msg) (host : List Byte)
  /-- ACCORD_OVERLAY, R227. -/
  | accordOverlay (m : Msg)
  /-- CHECK_ASSIGN, R234. -/
  | checkAssign (m : Msg)
  /-- STREAM_CFG, R250. -/
  | streamCfg (m : Msg)
  /-- BB_PORT_CFG, R385. -/
  | bbPortCfg (m : Msg)
  /-- BB_GCL_LOAD, R245. -/
  | bbGclLoad (m : Msg)
  /-- BB_GCL_SET, R247. -/
  | bbGclSet (m : Msg)
  /-- BB_SHAPER, R249. -/
  | bbShaper (m : Msg)
  /-- RING_FORMAT, R386. -/
  | ringFormat (m : Msg)
  /-- RING_START, R291; `found` is what the drives hold. -/
  | ringStart (m : Msg) (found : RingFound)
  /-- RING_STOP, R386. -/
  | ringStop (m : Msg)
  /-- RING_CFG, R283. -/
  | ringCfg (m : Msg)
  /-- RING_PLAN, R278. -/
  | ringPlan (m : Msg)
  /-- RING_FREEZE, R284. -/
  | ringFreeze (m : Msg)
  /-- RING_RELEASE, R285. -/
  | ringRelease (m : Msg)
  /-- RING_READ, R292. -/
  | ringRead (m : Msg)
  /-- RING_READ_END, R386: RING_READ with RR 0. -/
  | ringReadEnd (m : Msg)
  /-- RING_WINDOW, R386. -/
  | ringWindow (m : Msg)
  /-- LEDGER_CFG, R302. -/
  | ledgerCfg (m : Msg)
  /-- LEDGER_COMMISSION, R306. -/
  | ledgerCommission (m : Msg)
  /-- LEDGER_STATUS, R387. -/
  | ledgerStatus (m : Msg)
  /-- POWER_STATE_LOW, R298: TARGET LOW. -/
  | powerStateLow (m : Msg)
  /-- POWER_STATE_RUN, R300: TARGET RUN. -/
  | powerStateRun (m : Msg)
  /-- POWER_CAP, R312. -/
  | powerCap (m : Msg)
  /-- ATTEST_QUOTE, R408. -/
  | attestQuote (m : Msg)
  /-- FW_STAGE, R410. -/
  | fwStage (m : Msg) (host : List Byte)
  /-- FW_ACTIVATE, R411. -/
  | fwActivate (m : Msg)
  /-- FW_ACTIVATE_AT_RESET, R413. -/
  | fwActivateAtReset (m : Msg)
  /-- DEBUG_CHALLENGE, R415. -/
  | debugChallenge (m : Msg)
  /-- DEBUG_OPEN, R415. -/
  | debugOpen (m : Msg) (host : List Byte)
  /-- DEBUG_CLOSE, R414. -/
  | debugClose (m : Msg)
  /-- OWNER_KEY_INSTALL, R397. -/
  | ownerKeyInstall (m : Msg) (host : List Byte)
  /-- OWNER_KEY_REVOKE, R397: REVOKE set. -/
  | ownerKeyRevoke (m : Msg) (host : List Byte)
  /-- LIFECYCLE_SET, R392. -/
  | lifecycleSet (m : Msg) (host : List Byte)
  /-- DOOR_SECRET_SET, R399. -/
  | doorSecretSet (m : Msg) (host : List Byte)
  /-- UNIT_DRAIN, R451. -/
  | unitDrain (m : Msg)
  /-- UNIT_RESET, R434. -/
  | unitReset (m : Msg)
  /-- UNIT_READMIT, R452. -/
  | unitReadmit (m : Msg)
  /-- LOG_READ, R389; the indices whose entries fail their parity check (01 R38). -/
  | logRead (m : Msg) (bad : List Nat)
  /-- LOG_INFO, R389. -/
  | logInfo (m : Msg)
  /-- FACTORY_COMMAND, R390: opcodes 0xF00 to 0xFFF. -/
  | factoryCommand (opcode : BitVec 12) (m : Msg)
  /-- DOOR_PUSH, R359. -/
  | doorPush (door note : Nat) (w : Word)
  /-- MESSAGE_ACCEPT, R362; `host`, `found` and `bad` are what the command taken reads, where it reads host memory, the drives
  or memory that fails its parity check. -/
  | messageAccept (host : List Byte) (found : RingFound) (bad : List Nat)
  /-- DOOR_WORD_TIMEOUT, R363. -/
  | doorWordTimeout
  /-- RESPONSE_RING_RELEASE, R345. -/
  | responseRingRelease
  /-- SHED_LEVEL_RISE, R373. -/
  | shedLevelRise
  /-- SHED_LEVEL_FALL, R373. -/
  | shedLevelFall
  /-- DOOR_HELLO, R259, from `peer`. -/
  | doorHello (bb : Nat) (peer : Peer) (dgram : List Byte)
  /-- DOOR_OPEN, R259. -/
  | doorOpen (bb : Nat) (peer : Peer) (dgram : List Byte)
  /-- DOOR_MSG, R260. -/
  | doorMsg (bb : Nat) (peer : Peer) (dgram : List Byte)
  /-- DOOR_CLOSE, R259. -/
  | doorClose (bb : Nat) (peer : Peer) (dgram : List Byte)
  /-- DOOR_SESSION_IDLE, R259. -/
  | doorSessionIdle (session : Nat)
  /-- TW_ADDRESS_MATCH, R461; `pointer` is the pointer byte of a transaction that writes one. -/
  | twAddressMatch (addr : BitVec 7) (pointer : Option Byte)
  /-- TW_REGISTER_WRITE, R458: five data bytes for the register pointed at. -/
  | twRegisterWrite (w : Word)
  /-- BOARD_RESP_DATA_READ, R467. -/
  | boardRespDataRead
  /-- BOARD_RESP_PLACE, R467. -/
  | boardRespPlace
  /-- TW_STUCK_BUS, R465. -/
  | twStuckBus
  /-- ATTN_REQUEST, R464; `sclFell`: SCL fell during the 40 µs. -/
  | attnRequest (sclFell : Bool)
  /-- REG_WRITE, R9, R319: a BAR0 write of `size` bytes at byte offset `off`. -/
  | regWrite (off size : Nat) (v : BitVec 64)
  /-- RC_READ, R10, R319: a BAR0 read of `size` bytes at byte offset `off`. -/
  | rcRead (off size : Nat)
  /-- TIME_NOW_READ, R112. -/
  | timeNowRead
  /-- EVENT_RAISE, R355. -/
  | eventRaise (v : Word)
  /-- DOORBELL_RING, R331. -/
  | doorbellRing (e ch : Nat)
  /-- DOORBELL_STOP, R337. -/
  | doorbellStop (e ch : Nat)
  /-- ENGINE_RESUME, R342. -/
  | engineResume (e : Nat)
  /-- ENGINE_FORCE_HALT, R357. -/
  | engineForceHalt (e : Nat)
  /-- PATGEN_WRITE, R170: the value written to PatGen0. -/
  | patgenWrite (n : Nat) (v : Word)
  /-- PATGEN_CHANGE_APPLY, R169. -/
  | patgenChangeApply (n : Nat)
  /-- PATGEN_CHANGE_TIMEOUT, R169. -/
  | patgenChangeTimeout (n : Nat)
  /-- PATGEN_LINE, R170. -/
  | patgenLine (n : Nat)
  /-- STROBE_CFG_WRITE, R473. -/
  | strobeCfgWrite (s : Nat) (v : Word)
  /-- TRAINING_FRAME_RX, R60; the 256 symbols received (R50), and the receiver's measured eye figures (mV, 1/256 UI). -/
  | trainingFrameRx (n : Nat) (symbols : List Pam4) (eyeH eyeW : Byte)
  /-- TRAIN_STEP_TIMEOUT, R57. -/
  | trainStepTimeout (n : Nat)
  /-- TRAIN_RETRY, R58. -/
  | trainRetry (n : Nat)
  /-- LINE_SET_REPEAT, R61. -/
  | lineSetRepeat (n : Nat)
  /-- PORT_TRAINED, R57. -/
  | portTrained (n : Nat)
  /-- PORT_LOSS, R67. -/
  | portLoss (n : Nat)
  /-- IDLE_ENTRY, R63; the 64 symbols before the lane fell to mid-level. -/
  | idleEntry (n : Nat) (symbols : List Pam4)
  /-- WAKE_COMPLETE, R66. -/
  | wakeComplete (n : Nat)
  /-- WAKE_TIMEOUT, R66. -/
  | wakeTimeout (n : Nat)
  /-- BOND_IDLE_SKEW, R68. -/
  | bondIdleSkew (n : Nat)
  /-- BLOCK_RX, R81; the 693 PAM4 levels of a block as received (R45, R77). -/
  | blockRx (n : Nat) (levels : List Pam4)
  /-- REPLAY_DEADLINE, R81. -/
  | replayDeadline (n : Nat)
  /-- BLOCK_RELEASE, R82. -/
  | blockRelease (n : Nat)
  /-- REPLY_TIMEOUT, R93. -/
  | replyTimeout (n : Nat) (tag : Byte)
  /-- PORT_BOND_SKEW, R102. -/
  | portBondSkew (n : Nat)
  /-- TRIGGER_RUN_SEND, R94. -/
  | triggerRunSend (n : Nat)
  /-- EPOCH_MARK_SEND, R100. -/
  | epochMarkSend (n : Nat)
  /-- TIMEBASE_CYCLE, R106. -/
  | timebaseCycle
  /-- TRAVEL_DEGRADED, R118. -/
  | travelDegraded
  /-- AXIS_EXCLUDE, R118. -/
  | axisExclude (a : Nat)
  /-- AXIS_RESTORED, R118. -/
  | axisRestored (a : Nat)
  /-- TRAVEL_RECOVERED, R118. -/
  | travelRecovered
  /-- AXIS_STANDSTILL, R117. -/
  | axisStandstill (a : Nat)
  /-- ENCODER_EDGE, R114; the level taken by ENC_A or ENC_B, for how many timebase cycles it holds, and the Device Time in ns at which it crossed (R472). -/
  | encoderEdge (a : Nat) (inputB level : Bool) (held : Nat) (stamp : Nat)
  /-- ENCODER_INDEX, R115. -/
  | encoderIndex (a : Nat) (held : Nat) (stamp : Nat)
  /-- MARK_EDGE, R124. -/
  | markEdge (k : Nat) (falling : Bool) (held : Nat) (stamp : Nat)
  /-- PHASE_EDGE, R126. -/
  | phaseEdge (held : Nat) (stamp : Nat)
  /-- PHASE_LOST, R127. -/
  | phaseLost
  /-- PPS_EDGE, R109. -/
  | ppsEdge (held : Nat) (stamp : Nat)
  /-- AS_SYNC_RX, R243. -/
  | asSyncRx (bb : Nat) (sync : AsSync)
  /-- TIME_HOLDOVER, R109. -/
  | timeHoldover
  /-- SERVO_UPDATE, R108. -/
  | servoUpdate
  /-- SYNC_IN_EDGE, R145. -/
  | syncInEdge (held : Nat) (stamp : Nat)
  /-- GPIO_EDGE, R472. -/
  | gpioEdge (i : Nat) (level : Bool) (held : Nat) (stamp : Nat)
  /-- STROBE_PULSE_START, R138. -/
  | strobePulseStart (s : Nat)
  /-- SYNC_OUT_PULSE, R145. -/
  | syncOutPulse
  /-- EPOCH_EDGE, R143: the pending launch with the earliest edge. -/
  | epochEdge
  /-- FRAME_TIMEOUT, R162. -/
  | frameTimeout (x : Nat)
  /-- FACET_LINE_TAKE, R157; `fault` is what parity finds on the line (R38). -/
  | facetLineTake (f : Nat) (fault : LineFault)
  /-- REDUCTION_UNDO, R452. -/
  | reductionUndo
  /-- FACET_FRAME_END, R192. -/
  | facetFrameEnd (x : FrameEnd)
  /-- RAW_TAP_COPY, R150; of the line's bytes (offset, count) those that reached staging poisoned (R273). -/
  | rawTapCopy (x : Nat) (errors : StageErrors)
  /-- RATE_WINDOW_CHECK, R160; `readout`: the 1 ms window, otherwise the 1 s window. -/
  | rateWindowCheck (x : Nat) (readout : Bool)
  /-- AE_AWB_LOOP, R384. -/
  | aeAwbLoop (run : LoopRun)
  /-- DMA_SERVICE, R335; how the data served came (01 R38, R39). -/
  | dmaService (e : Nat) (data : Delivery)
  /-- DESCRIPTOR_FETCH_DONE, R331. -/
  | descriptorFetchDone (e ch : Nat) (descs : List Fetched)
  /-- DMA_DESCRIPTOR_COMPLETE, R340. -/
  | dmaDescriptorComplete (e ch : Nat)
  /-- READBACK_COMPLETE, R339. -/
  | readbackComplete (e : Nat)
  /-- DMA_BUS_ERROR, R341. -/
  | dmaBusError (e : Nat) (cause : BitVec 3)
  /-- DMA_AUTO_RESUME, R343. -/
  | dmaAutoResume (e : Nat)
  /-- EVENT_ROUTE, R352. -/
  | eventRoute
  /-- VECTOR_HOLDOFF_END, R353. -/
  | vectorHoldoffEnd (v : Nat)
  /-- CANVAS_FRAME_START, R228; the overlay lines read from host memory, `none` for one not in time (R227), and
  the source lines (slot, line) read with a poisoned word (01 R39). -/
  | canvasFrameStart (a : Nat) (overlay : List (Option (List (BitVec 32)))) (errors : ReadErrors)
  /-- ACCORD_LATE, R228. -/
  | accordLate (a : Nat)
  /-- GCL_ENTRY_ADVANCE, R245. -/
  | gclEntryAdvance (p : Nat)
  /-- GCL_CONFIG_CHANGE, R247. -/
  | gclConfigChange (p : Nat)
  /-- STREAM_PACKET_SEND, R244; how its data was read (01 R38, R39). -/
  | streamPacketSend (p : Nat) (data : Delivery)
  /-- STREAM_AGE_OUT, R254. -/
  | streamAgeOut (s : Nat)
  /-- BB_LINK_DOWN, R256. -/
  | bbLinkDown (p : Nat)
  /-- BB_LINK_UP, R256. -/
  | bbLinkUp (p : Nat)
  /-- BB_FRAME_RX, R242; `fecBad`: uncorrectable FEC codewords met with it. -/
  | bbFrameRx (p : Nat) (frame : List Byte) (fecBad : Nat)
  /-- PDELAY_REQ_SEND, R243. -/
  | pdelayReqSend
  /-- DRIVE_DETECT, R263. -/
  | driveDetect (d : Nat) (info : DriveInfo)
  /-- NVME_COMPLETION, R264. -/
  | nvmeCompletion (d : Nat) (cid : Nat) (ok : Bool)
  /-- NVME_TIMEOUT, R266. -/
  | nvmeTimeout (d : Nat)
  /-- DRIVE_LINK_DOWN, R266. -/
  | driveLinkDown (d : Nat)
  /-- SEGMENT_CLOSE, R270. -/
  | segmentClose
  /-- SEGMENT_DIGEST_DONE, R274. -/
  | segmentDigestDone
  /-- SPAN_SIGN_DONE, R276. -/
  | spanSignDone
  /-- WINDOW_HELD, R285. -/
  | windowHeld (w : Nat)
  /-- LABEL_WRITE, R268. -/
  | labelWrite
  /-- RETRIEVAL_ITEM, R292; the item's bytes as the drive returned them, `none` on a drive error. -/
  | retrievalItem (image : Option (List Byte))
  /-- LEDGER_COMPUTE, R303; the ten converter samples of the window (R301) and the measured draw. -/
  | ledgerCompute (codes : List (BitVec 12)) (drawMw : Nat)
  /-- LEDGER_SHORT_CLEAR, R305. -/
  | ledgerShortClear
  /-- HOLD_ENTER, R309; for how many µs PFAIL_N has been low. -/
  | holdEnter (lowUs : Nat)
  /-- SEAL_DONE, R309. -/
  | sealDone
  /-- HOLD_EXIT, R310; for how many ms PFAIL_N has stayed high. -/
  | holdExit (highMs : Nat)
  /-- LOW_WAKE, R297; the event ID raised, or none for a two-wire address match. -/
  | lowWake (event : Option (BitVec 12))
  /-- REHEARSAL_LEVEL_REACHED, R306. -/
  | rehearsalLevelReached
  /-- REHEARSAL_SEAL_DONE, R306; the measured time and mean draw of step 2. -/
  | rehearsalSealDone (us : Nat) (drawMw : Nat)
  /-- REHEARSAL_TIMEOUT, R306. -/
  | rehearsalTimeout
  /-- CAP_TEST_END, R307; the time run, the draw and the window means in mV. -/
  | capTestEnd (us : Nat) (drawMw : Nat) (v1 v2 : Nat)
  /-- POWER_CAP_CHECK, R313. -/
  | powerCapCheck (meanMw : Nat)
  /-- POWER_CAP_UNDO, R312. -/
  | powerCapUndo
  /-- THERMAL_SAMPLE, R485; the hottest sensing point in °C. -/
  | thermalSample (temp : Int)
  /-- THERMAL_STEP, R485. -/
  | thermalStep
  /-- HOST_FLR, R326. -/
  | hostFlr
  /-- HOST_HOT_RESET, R326. -/
  | hostHotReset
  /-- HOST_LINK_DOWN, R326. -/
  | hostLinkDown
  /-- HOST_LINK_RETRAINED, R327; lanes, and RATE of Table 11-3. -/
  | hostLinkRetrained (width rate : Nat)
  /-- POWER_ON_RESET, R423; the length of the PORST_N pulse. -/
  | powerOnReset (lowNs : Nat)
  /-- SYSRST_PIN, R423. -/
  | sysrstPin (lowNs : Nat)
  /-- MC_WATCHDOG, R425. -/
  | mcWatchdog
  /-- SYS_WATCHDOG, R425. -/
  | sysWatchdog
  /-- MC_PARITY, R38. -/
  | mcParity
  /-- SECURITY_VIOLATION, R416. -/
  | securityViolation (cause : SecCause)
  /-- SUPPLY_OFF, R481; the two rails, and for how long VDD has been below 0.65 V. -/
  | supplyOff (vddAonMv vddMv vddLowNs : Nat)
  /-- DOMAIN_RELEASE, R427; the domain's clock-good, RSTRAP as measured in ohms (none: open or shorted), and what the fuse parity check finds in step 4. -/
  | domainRelease (clockGood : Bool) (rstrap : Option Nat) (fuseParityOk : Bool)
  /-- CLOCK_GOOD, R428; the deferred step, or the unit (kind, index) of R434. -/
  | clockGood (unit : Option (Nat × Nat))
  /-- BOOT_LOADER_START, R405. -/
  | bootLoaderStart (flash : FlashRead)
  /-- PHOKEL_START, R405; whether every other component's digest matched. -/
  | phokelStart (componentsOk : Bool)
  /-- DOORS_OPEN, R433; what the configuration area holds (R306, R400, R402). -/
  | doorsOpen (restored : Restored)
  /-- POWER_CHAIN_FRAME, R468; bit k is sample k of PWR_FAULT (R469). -/
  | powerChainFrame (samples : BitVec 98)
  /-- PORT_RECOVERY, R449. -/
  | portRecovery (n : Nat)
  /-- ALWAYS_ON_UP, R435; ADDR[2:0] (R456). -/
  | alwaysOnUp (addr : BitVec 3)
  /-- HOST_LINK_UP, R326. -/
  | hostLinkUp (width rate : Nat)
  /-- CONFIGURATION_REQUEST, R318. -/
  | configurationRequest (w : ConfigWrite)
  /-- MSIX_TABLE_WRITE, R325. -/
  | msixTableWrite (entry dword : Nat) (v : BitVec 32)
  /-- DEBUG_PORT_ACCESS, R415. -/
  | debugPortAccess (a : DebugAccess)
  /-- DEBUG_DOMAINS_ACKNOWLEDGE, R417. -/
  | debugDomainsAcknowledge
  /-- DEBUG_ACK_TIMEOUT, R417. -/
  | debugAckTimeout
  /-- CONTROLLER_FATAL_STATUS, R266. -/
  | controllerFatalStatus (d : Nat)
  /-- CYCLE_OFF_MS_END, R379. -/
  | cycleOffMsEnd (n : Nat)
  /-- BACK_CHANNEL_SILENCE_END, R61. -/
  | backChannelSilenceEnd (n : Nat)
  /-- FLASH_OPERATION_DONE, R410. -/
  | flashOperationDone (ok : Bool)
  /-- LINE_MEMORY_TEST_END, R452. -/
  | lineMemoryTestEnd (f : Nat) (pass : Bool)
  deriving DecidableEq, Repr

end Sys2Proof
end

