-- ==== Sys2Proof/Decode.lean ====
section
/-! DEFINITION. The command that a word spells by the bits of spec/opcode_table.json. The table lists its rows without
bits: a command is an operation or an event, and no row has an encoding. -/
namespace Sys2Proof

/-- The command that the `nbits`-bit word `w` spells: none, since no row of the table has bits. (log 2 DESIGN CHOICE) -/
def decodeTableWord (_nbits _w : Nat) : Option Instr := none

end Sys2Proof
end

