-- ==== Sys2Proof/Config.lean ====
section
/-! DEFINITION. What an implementation fixes and the values the manual leaves open: constants without a body, so that
nothing can be proved of a value the manual does not give. -/
namespace Sys2Proof.Config

/-- A value the manual leaves open, drawn afresh: applied to State's counter of values drawn (notes/assumptions/1). (log 1 DESIGN CHOICE) -/
opaque freeValue : Nat → Nat

/-- The unique device secret of 13_security.md Table 13-3, 32 bytes. (log 40 DESIGN CHOICE) -/
opaque uds : Nat → BitVec 8

/-- VENDOR_ROOT, 64 bytes (13 Table 13-3). (log 40 DESIGN CHOICE) -/
opaque vendorRoot : Nat → BitVec 8

/-- M0: the digest of the boot ROM, fixed at manufacture (13 R407). (log 40 DESIGN CHOICE) -/
opaque bootRom : Nat → BitVec 8

/-- External-memory word address of statistics buffer b of context c (12 Table 12-8, CTX_STATS_INFO). (log 42 DESIGN CHOICE) -/
opaque statsAddress : Nat → Nat → Nat

/-- Phokel's default scaler coefficient of a phase and a tap (07 Table 7-2, R211), in 1/1024. (log 43 DESIGN CHOICE) -/
opaque scalerCoef : Nat → Nat → Int

/-- Where a mirrored row or column falls in a frame too small for the mirror of 06 R176: extent and index. (log 16 DESIGN CHOICE) -/
opaque mirrorIndex : Nat → Int → Nat

/-- A sample whose value the manual does not give: which case, column, row (notes/assumptions/16). (log 16 DESIGN CHOICE) -/
opaque openSample : Nat → Nat → Nat → Nat

/-- log2 of 0 in the local contrast of 06 R186, in 1/256: which operand. (log 16 DESIGN CHOICE) -/
opaque logOfZero : Nat → Int

/-- Exposure in ns (0) or gain in 1/256 (1) that an embedded value stands for: kind, EXP_SCALE or GAIN_SCALE, value. (log 35 DESIGN CHOICE) -/
opaque embScale : Nat → Nat → Nat → Nat

/-- Where a port's back-channel slots begin on local time, in 1/24 ns, modulo a slot (03 R95). (log 39 DESIGN CHOICE) -/
opaque slotPhase : Nat → Nat

/-- Speed in tu/s, or acceleration in tu/s², that ticks without time between them give: the net count (04 R117, R118). (log 38 DESIGN CHOICE) -/
opaque openSpeed : Int → Int

/-- Exposure in ns (0) or gain in 1/256 (1) that the exposure loop aims at: kind, mean Y of tap B, TARGET_Y, the value set last (12 R384). (log 37 DESIGN CHOICE) -/
opaque aeAim : Nat → Nat → Nat → Nat → Nat

/-- What a sensor register is given for an exposure in ns (0) or a gain in 1/256 (1): kind, EXP_SCALE or GAIN_SCALE, amount (12 R384). (log 35 DESIGN CHOICE) -/
opaque sensorValue : Nat → Nat → Nat → Nat

/-- WB0 to WB3 that the white-balance loop forms from the R, G and B sums of the zones without saturated samples: which one, and the sums
(12 R384). (log 37 DESIGN CHOICE) -/
opaque awbGain : Nat → Nat → Nat → Nat → Nat

/-- VENDOR_PUB and SIGNATURE of the identity certificate (13 Table 13-10), written at the maker's final test. (log 40 DESIGN CHOICE) -/
opaque vendorCert : Nat → BitVec 8

/-- Share in 1/1000 of a block's maximum figure that its admitted loads draw: the row of 17 Table 17-4 and the loads (10 R312, 17 R483). (log 41 DESIGN CHOICE) -/
opaque blockShare : Nat → List Nat → Nat

/-- Leakage in mW at a junction temperature in °C (10 R312, 17 R483). (log 41 DESIGN CHOICE) -/
opaque leakage : Int → Nat

/-- Bytes of the Phokel configuration area: identity certificate, commissioning values, wrapped door secret and its check, and last request
SEQ values, each with its CRC (13 R402). (log 169 DESIGN CHOICE) -/
opaque configArea : List (BitVec 8) → Option (Nat × Nat × Nat) → Option (List (BitVec 8) × List (BitVec 8)) → List Nat → List (BitVec 8)

end Sys2Proof.Config
end

