-- ==== Sys2Proof/Machine/Bits.lean ====
section
/-! DEFINITION. Bit fields of native words (00_scope.md R7, R11, R12), saturating counters, sparse banks in
canonical form, and the byte forms of words in host memory. -/
namespace Sys2Proof.Machine

/-- Bits hi to lo of a word, as an unsigned number (R12). -/
def fld (w : Word) (hi lo : Nat) : Nat := (w.toNat >>> lo) % 2 ^ (hi - lo + 1)

/-- Bit b of a word. -/
def bit (w : Word) (b : Nat) : Bool := w.toNat.testBit b

/-- Two's-complement reading of an n-bit number (R12). -/
def signed (n : Nat) (v : Nat) : Int := if v % 2 ^ n < 2 ^ (n - 1) then ((v % 2 ^ n : Nat) : Int) else ((v % 2 ^ n : Nat) : Int) - (2 ^ n : Nat)

/-- Bits hi to lo as a signed number (R12). -/
def sfld (w : Word) (hi lo : Nat) : Int := signed (hi - lo + 1) (fld w hi lo)

/-- An integer wrapped into n bits, as an unsigned number. -/
def wrap (n : Nat) (v : Int) : Nat := (v % (2 ^ n : Nat)).toNat

/-- An integer as a 40-bit word (R12). -/
def wordOfInt (v : Int) : Word := BitVec.ofNat 40 (wrap 40 v)

/-- Value v placed in bits hi to lo, zero elsewhere. -/
def put (hi lo v : Nat) : Nat := (v % 2 ^ (hi - lo + 1)) <<< lo

/-- A word of fields that do not overlap, each (hi, lo, value). -/
def mkWord (fs : List (Nat × Nat × Nat)) : Word := BitVec.ofNat 40 (fs.foldl (fun a f => a + put f.1 f.2.1 f.2.2) 0)

/-- A word with bits hi to lo replaced. -/
def setFld (w : Word) (hi lo v : Nat) : Word :=
  BitVec.ofNat 40 (w.toNat - put hi lo (fld w hi lo) + put hi lo v)

/-- 1 for true. -/
def b2n (b : Bool) : Nat := if b then 1 else 0

/-- Saturating addition of k to the count in bits hi to lo (R10, R357). (log 77 DEDUCED) -/
def bump (w : Word) (hi lo : Nat) (k : Nat := 1) : Word :=
  setFld w hi lo (min (2 ^ (hi - lo + 1) - 1) (fld w hi lo + k))

/-- Saturating addition below 2^n. (log 77 DEDUCED) -/
def satAdd (n a k : Nat) : Nat := min (2 ^ n - 1) (a + k)

/-- All of bits hi to lo zero: a reserved field as software must write it (R9). -/
def zeroFld (w : Word) (hi lo : Nat) : Bool := fld w hi lo == 0

/-- An integer kept within lo to hi. -/
def clampI (lo hi v : Int) : Int := max lo (min hi v)

/-- Integer division rounded to nearest, halves up. -/
def roundDiv (n : Int) (d : Nat) : Int := (2 * n + d).fdiv (2 * d)

/-- Smallest k with n ≤ d·k. -/
def ceilDiv (n d : Nat) : Nat := (n + d - 1) / d

/-! A bank: values by number, held only where they differ from the value `d` that an unlisted number has. -/

/-- Value of number k. -/
def bankGet (d : Nat → α) : List (Nat × α) → Nat → α
  | [], k => d k
  | (a, v) :: r, k => if a = k then v else bankGet d r k

/-- Put v at number k, keeping the numbers rising. -/
def bankPut (k : Nat) (v : α) : List (Nat × α) → List (Nat × α)
  | [] => [(k, v)]
  | (a, x) :: r => if k < a then (k, v) :: (a, x) :: r else if k = a then (k, v) :: r else (a, x) :: bankPut k v r

/-- Remove number k. -/
def bankDel (k : Nat) : List (Nat × α) → List (Nat × α)
  | [] => []
  | (a, x) :: r => if a = k then bankDel k r else (a, x) :: bankDel k r

/-- Give number k the value v: listed unless v is what an unlisted number has. -/
def bankSet [DecidableEq α] (d : Nat → α) (b : List (Nat × α)) (k : Nat) (v : α) : List (Nat × α) :=
  if v = d k then bankDel k b else bankPut k v b

/-- Numbers strictly rising, from at least lo, and no entry equal to the unlisted value: the canonical form. -/
def bankWf [DecidableEq α] (d : Nat → α) : Nat → List (Nat × α) → Bool
  | _, [] => true
  | lo, (a, v) :: r => decide (lo ≤ a) && decide (v ≠ d a) && bankWf d (a + 1) r

/-! Bytes. -/

/-- The n bytes of a number, least significant first. -/
def bytesLE : Nat → Nat → List Byte
  | 0, _ => []
  | n + 1, v => BitVec.ofNat 8 v :: bytesLE n (v / 256)

/-- The n bytes of a number, most significant first. -/
def bytesBE (n v : Nat) : List Byte := (bytesLE n v).reverse

/-- Bytes read as a number, least significant first. -/
def natLE : List Byte → Nat
  | [] => 0
  | b :: r => b.toNat + 256 * natLE r

/-- Bytes read as a number, most significant first. -/
def natBE (bs : List Byte) : Nat := natLE bs.reverse

/-- A word in the 8-byte host form: bits 39:0 little-endian, bits 63:40 zero (07 R216). -/
def hostForm (w : Word) : List Byte := bytesLE 8 w.toNat

/-- Words in host form. -/
def hostForms (ws : List Word) : List Byte := ws.flatMap hostForm

/-- Words read from host form; bits 63:40 of each slot are ignored. -/
def wordsOfHost : Nat → List Byte → List Word
  | 0, _ => []
  | n + 1, bs => BitVec.ofNat 40 (natLE (bs.take 8)) :: wordsOfHost n (bs.drop 8)

/-- Bytes packed five to a word, the first byte in bits 39:32, the last word filled with zeros (03 R86). -/
def packWords : Nat → List Byte → List Word
  | 0, _ => []
  | n + 1, bs => BitVec.ofNat 40 (natBE ((bs ++ List.replicate 5 0).take 5)) :: packWords n (bs.drop 5)

/-- Bytes packed five to a word, as many words as they need (03 R86). -/
def pack5 (bs : List Byte) : List Word := packWords (ceilDiv bs.length 5) bs

/-- The bytes of words packed five to a word (03 R86). -/
def unpack5 (ws : List Word) : List Byte := ws.flatMap fun w => bytesBE 5 w.toNat

/-- A value wider than a word as n words, bits 39:0 in the first (R11). -/
def wordsOfNat : Nat → Nat → List Word
  | 0, _ => []
  | n + 1, v => BitVec.ofNat 40 v :: wordsOfNat n (v / 2 ^ 40)

/-- Consecutive words read as one value, bits 39:0 in the first (R11). -/
def natOfWords : List Word → Nat
  | [] => 0
  | w :: r => w.toNat + 2 ^ 40 * natOfWords r

/-- Element i of a list, or a default. -/
def at0 [Inhabited α] (l : List α) (i : Nat) : α := l.getD i default

/-- Word i of a payload; 0 beyond its end. -/
def pw (l : List Word) (i : Nat) : Word := l.getD i 0

/-- Set element i of a list. -/
def setAt (l : List α) (i : Nat) (v : α) : List α := l.set i v

/-- Remove the first element that meets p. -/
def eraseFirst (p : α → Bool) : List α → List α
  | [] => []
  | a :: r => if p a then r else a :: eraseFirst p r

/-- Insert before the first element that is greater: order by key, arrival order among equals. -/
def insertBy (key : α → Nat) (v : α) : List α → List α
  | [] => [v]
  | a :: r => if key v < key a then v :: a :: r else a :: insertBy key v r

/-- Sort by key, keeping the order of equals. -/
def sortByKey (key : α → Nat) (l : List α) : List α := l.foldl (fun acc v => insertBy key v acc) []

end Sys2Proof.Machine
end

