-- ==== Sys2Proof/Machine/BaseState.lean ====
section
/-! DEFINITION. The device's identity and boot state, and the timebase (00_scope.md R3, R5; 04 R106, R107; 13, 14). -/
namespace Sys2Proof.Machine

/-- VARIANT (00 R5). -/
inductive Variant where
  | gv9640 | gv4840 | gv2440
  deriving DecidableEq, Repr

/-- A register of Table 11-2; k counts the slots of its block. -/
inductive Reg where
  | chipId | resetCause | timeNowLo | timeNowHi | timeStatus | travelNow | travelStatus | linkStatus
  | recRing (r k : Nat) | eventRaise | regFault | axisCounts (a : Nat) | syncCounts | strobe (s : Nat)
  | port (n k : Nat) | ctx (c k : Nat) | out (c o k : Nat) | facet (f k : Nat) | check (c k : Nat) | expected (c i : Nat)
  | accord (a k : Nat) | source (a s k : Nat) | bb (p k : Nat) | stream (s k : Nat) | ring (k : Nat) | trig (i : Nat) | plan (c : Nat)
  | drive (d k : Nat) | ledger (k : Nat) | engine (e k : Nat) | chan (e ch k : Nat) | route (id : Nat) | vector (v : Nat)
  deriving DecidableEq, Repr

/-- Power states (10 R296); OFF is not a state of the running block. -/
inductive PState where
  | run | low | hold
  deriving DecidableEq, Repr

/-- STATUS of a response (12 Table 12-4). -/
inductive Status where
  | ok | busy | late | badOpcode | badArg | state | denied | fault | noResource | timeout
  deriving DecidableEq, Repr

/-- A record accepted and not yet in force: the newest, the cycle in which it was accepted, and one accepted in an earlier cycle that it
replaced in that cycle and that a start of the same cycle still applies (01 R28). (log 47 DESIGN CHOICE) -/
structure Due (α : Type) where
  value : α
  cycle : Nat
  before : Option α
  deriving DecidableEq, Repr

/-- Bits of a w1c field that hardware has set in a cycle: a 1 written in that cycle does not clear them (00 R10). (log 47 DESIGN CHOICE) -/
structure Fresh where
  cycle : Nat
  bits : Word
  deriving DecidableEq, Repr

end Sys2Proof.Machine
end

