-- ==== Sys2Proof/Machine/BackboneState.lean ====
section
/-! DEFINITION. State of the backbone ports, their gate control lists, streams and door sessions (08_backbone.md). -/
namespace Sys2Proof.Machine

/-- A gate control list slot (R245). -/
structure GclSlot where
  /-- Entries that differ from their Reset value, by index. -/
  entries : List (Nat × Word)
  deriving DecidableEq, Repr

/-- A list in force or pending (R245, R247). -/
structure GclOper where
  slot : Nat
  enable : Bool
  listLen : Nat
  /-- In ns. -/
  cycleTime : Nat
  /-- In ns of Device Time. -/
  baseTime : Nat
  deriving DecidableEq, Repr

/-- A packet in staging or in transmission (R251 to R254). -/
structure TxPacket where
  stream : Nat
  /-- Frame it belongs to, by the order of admission. -/
  frame : Nat
  tc : Nat
  /-- The pixel data of a stream packet; a whole frame to be sent as it is (stream 65). -/
  bytes : List Byte
  /-- Line number and pixel offset of its RFC 4175 header (R251). -/
  line : Nat
  pixel : Nat
  /-- The tag block that the marker packet carries, word 13 not yet filled in (R253). -/
  tag : List Word
  /-- Bytes from the destination address to the FCS, with preamble and gap, as they load the wire. -/
  wire : Nat
  marker : Bool
  deriving DecidableEq, Repr

/-- A frame admitted to staging (R254). -/
structure StagedFrame where
  id : Nat
  stream : Nat
  tc : Nat
  /-- Wire size reserved. -/
  reserved : Nat
  /-- First row staged: timebase cycle. -/
  since : Nat
  /-- Its first packet has left. -/
  started : Bool
  /-- The record it was staged with, ten words. -/
  record : List Word
  /-- CAPTURE_TIME or, by TS_MODE, the first packet's send time; ns of Device Time. -/
  stamp : Nat
  deriving DecidableEq, Repr

/-- One backbone port. -/
structure Bb where
  link : Bool
  /-- Configuration of BB_PORT_CFG: payload words 0 to 8. -/
  cfg : List Word
  slotA : GclSlot
  slotB : GclSlot
  oper : GclOper
  /-- A BB_GCL_SET that awaits its config change time, ns of Device Time (R247). -/
  change : Option (GclOper × Nat)
  /-- Index of the entry in force, and the Device Time in ns at which it ends. -/
  index : Nat
  entryEnd : Nat
  /-- IDLE_SLOPE in kb/s by class, and credit in 10^-6 bits. -/
  slopes : List (Nat × Nat)
  credits : List (Nat × Int)
  /-- Device Time in ns to which the credits have been brought. -/
  creditAt : Nat
  /-- Frames staged and packets ready, in the order in which they became ready. -/
  staged : List StagedFrame
  packets : List TxPacket
  /-- The transmitter is busy until this Device Time in ns. -/
  busyUntil : Nat
  /-- Class of the frame in transmission, when its last FCS bit leaves, and whether it has been counted in TX_OVERRUN. -/
  txTc : Nat
  txEnd : Nat
  txOver : Bool
  /-- Cycle in which the link last went down (R261). -/
  downAt : Nat
  /-- Frames kept in the current second, and its start cycle (R242). -/
  kept : Nat
  keptSince : Nat
  /-- Counts and DoorCounts, rc. -/
  counts : Word
  doorCounts : Word
  /-- MODEL'S OWN: Ethernet frames sent, newest first. -/
  sent : List (List Byte)
  deriving DecidableEq, Repr

/-- One stream. -/
structure Stream where
  /-- Record in force, ten words (Table 8-3). -/
  cfg : List Word
  pending : Option (Due (List Word))
  counts : Word
  counts2 : Word
  rtpSeq : Nat
  /-- Frames dropped since the last one sent, for DEST_DROPS. -/
  drops : Nat
  /-- Bb of a stream whose sending waits for the next source frame start after a link-down. -/
  resume : Bool
  deriving DecidableEq, Repr

/-- A door session (R259, R260). -/
structure Session where
  no : Nat
  bb : Nat
  /-- Where the session opened from: RESP goes there (R260). -/
  peer : Peer
  keySlot : Nat
  nc : List Byte
  nd : List Byte
  /-- The owner's signature has been checked: OPENED. -/
  isOpen : Bool
  key : List Byte
  /-- Last SEQ accepted, and the device's own SEQ. -/
  lastSeq : Nat
  ownSeq : Nat
  /-- Cycle of the challenge, or of the last MSG. -/
  since : Nat
  deriving DecidableEq, Repr

/-- Peer delay measurement of the AS port (R243), times in ns: when the last Pdelay_Req left; the Pdelay_Resp to it (its sequence number, the
partner's time of the request, own time of the response); the partner's and own time of the response before; and the figures: the partner's rate
against the device's, and the path delay. -/
structure AsPeer where
  reqAt : Nat
  resp : Option (Nat × Nat × Nat)
  last : Option (Nat × Nat)
  rate : Rat
  delay : Rat
  deriving DecidableEq, Repr

/-- The backbone. -/
structure Backbone where
  bbs : List (Nat × Bb)
  streams : List (Nat × Stream)
  sessions : List Session
  nextSession : Nat
  /-- HELLO datagrams of the current second, and its start cycle. -/
  hellos : Nat
  helloSince : Nat
  /-- Number of the next staged frame. -/
  nextFrame : Nat
  /-- Cycle of the last Pdelay_Req (R243). -/
  pdelayAt : Nat
  /-- Its sequence number. -/
  pdelaySeq : Nat
  peer : AsPeer
  deriving DecidableEq, Repr

end Sys2Proof.Machine
end

