-- ==== Sys2Proof/Machine/ContextState.lean ====
section
/-! DEFINITION. State of contexts, Facets, outputs, Accords and check units (05_ingest_and_contexts.md,
06_facet_pipeline.md, 07_outputs_and_accord.md, 12 R382 to R384, 15 R443 to R448). -/
namespace Sys2Proof.Machine

/-- STATE of a context less MOVING, which a pending move shows (05 Table 5-7). -/
inductive CtxState where
  | unbound | waitStart | inFrame | between
  deriving DecidableEq, Repr

/-- A row stamp (04 R140): short stamp, travel, and whether the row is to be tagged DEGRADED_TRAVEL. -/
structure RowStamp where
  t : Word
  travel : Word
  degraded : Bool
  deriving DecidableEq, Repr

/-- A line in the ingest ring, or the place of one that was not stored (05 R147, R149). -/
structure Line where
  frame : Nat
  y : Nat
  bytes : List Byte
  /-- Words it occupies; 0 for a missing line. -/
  words : Nat
  missing : Bool
  /-- It found no room: what its cycle may still release is judged at the cycle's end (R149, R169). -/
  waits : Bool
  stamp : RowStamp
  /-- Released by the Facet, or shed (R150). -/
  taken : Bool
  /-- Copied by the raw tap (R150). -/
  tapped : Bool
  deriving DecidableEq, Repr

/-- Room of a partition for a line as its header found it: it is there; it is not, and the header's cycle is past, or not yet. -/
inductive Room where
  | free | full | soFar
  deriving DecidableEq, Repr

/-- A frame from its opening until its last output is delivered (05 R161; 06 R193; 07 R206). -/
structure Frame where
  no : Nat
  /-- The Facet that processes it; 0x1F: none (05 R165, R168). -/
  home : Nat
  isOpen : Bool
  /-- The cycle of its start. -/
  openedAt : Nat
  shed : Bool
  /-- Lines received so far, in the count of R161. -/
  lines : Nat
  /-- FLAGS of Table 7-8, bits 39:24 as bits 15:0. -/
  flags : BitVec 16
  /-- CTX_LONG or CTX_BAD_LINE_LEN has been raised for it. -/
  longSeen : Bool
  badLenSeen : Bool
  /-- Rows taken by the Facet, as line bytes, first row first. -/
  rows : List (List Byte)
  /-- Stamps of the rows received. -/
  stamps : List RowStamp
  /-- Lines concealed. -/
  concealed : Nat
  /-- Parameter set in force for it, as its words that differ from reset. -/
  params : List (Nat × Word)
  paramFrame : Nat
  shade : List Word
  defects : List Word
  /-- Output records in force for it, eight words each. -/
  outs : List (List Word)
  /-- By output: formed (R214), decided at its first row. -/
  formed : List Bool
  /-- By output: a host descriptor has been taken; false: dropped there. -/
  hostOk : List Bool
  /-- By output: the direction of a COMPAT check unit in force at its start (R234), and rows handed to the host so far. -/
  compat : List (Option Bool)
  hostSent : List Nat
  /-- Ranges of the coding payload that stayed poisoned on their way to the segment (01 R39). -/
  codingBad : List (Nat × Nat)
  /-- The ring has been asked for its coding record at its start (09 R281). -/
  ringAsked : Bool
  /-- t_eff of the frame's trigger (04 R142). -/
  trigger : Option Nat
  exposure : Nat
  gain : Nat
  reported : Bool
  emb : List (List Byte)
  /-- Display lines handed to streams (08 R254). -/
  sent : Nat
  /-- Its first row has been taken. -/
  begun : Bool
  /-- Outputs have been formed; the statistics record waits to be written (06 R192). -/
  done : Bool
  deriving DecidableEq, Repr

/-- Statistics of a finished frame (06 R190 to R192): the 6152 words of its record but for words 0 to 5. -/
structure StatsDue where
  frame : Nat
  sofStamp : Word
  paramFrame : Nat
  sumSat : Bool
  aValid : Bool
  bValid : Bool
  zonesX : Nat
  zonesY : Nat
  satTotal : Nat
  /-- Words 8 to 6151, as runs of non-zero words (index, word). -/
  body : List (Nat × Word)
  deriving DecidableEq, Repr

/-- A frame that the display output wrote into one of its source buffers (07 R223). -/
structure SourceFrame where
  seq : Nat
  /-- Cycle in which its last row was written. -/
  doneAt : Nat
  /-- Rows of pixels, each (R, G, B) in 10 bits (R226). -/
  rows : List (List (Nat × Nat × Nat))
  /-- DISP_CSC of the frame. -/
  csc : Nat
  width : Nat
  height : Nat
  flags : BitVec 16
  capture : Nat
  firstTravel : Word
  deriving DecidableEq, Repr

/-- The last row a resampled frame used (07 R220). -/
structure UsedRow where
  frame : Nat
  /-- Along-track position, in 1/256 tu. -/
  pos : Int
  stamp : Word
  pixels : List (Nat × Nat × Nat)
  forward : Bool
  deriving DecidableEq, Repr

/-- One output of a context (07). -/
structure Output where
  /-- Record in force, eight words (Table 7-2). -/
  cfg : List Word
  pending : Option (Due (List Word))
  /-- Counts: FRAMES, GATED, HOST_DROPS; rc. -/
  counts : Word
  /-- RsCounts: RS_SKIPPED, RS_OMITTED; rc. -/
  rsCounts : Word
  /-- Frames dropped since the last delivered one: host, backbone, Sillage (Table 7-7 word 13). -/
  dropsHost : Nat
  dropsRing : Nat
  /-- Coefficients loaded, 512 numbers (12 OUT_COEF_LOAD): horizontal, vertical. -/
  coefH : List Int
  coefV : List Int
  /-- Host ring: engine and channel (11 R329). -/
  ring : Option (Nat × Nat)
  /-- Resampler: frame number, position, stamp, pixels and direction of the last used row (07 R220). -/
  lastRow : Option UsedRow
  deriving DecidableEq, Repr

/-- AE and AWB loop settings (12 CTX_LOOP_CFG). -/
structure LoopCfg where
  aeEn : Bool
  awbEn : Bool
  div : Nat
  ahead : Nat
  targetY : Nat
  expMax : Nat
  expAddr : Nat
  expBytes : Nat
  gainAddr : Nat
  gainBytes : Nat
  target : Nat
  gainMax : Nat
  deriving DecidableEq, Repr

/-- Stamp settings (12 CTX_STAMP_CFG). -/
structure StampCfg where
  mode : Nat
  embExp : Bool
  embGain : Bool
  bigEndian : Bool
  exposure : Nat
  expOffset : Int
  readoutLat : Nat
  rowTime : Nat
  expByte : Nat
  expLen : Nat
  gainByte : Nat
  gainLen : Nat
  expScale : Nat
  gainScale : Nat
  deriving DecidableEq, Repr

/-- One context. -/
structure Context where
  -- Binding (05 Table 5-1)
  bind0 : Word
  bind1 : Word
  bind2 : Word
  bind3 : Word
  state : CtxState
  /-- RING_WORDS in effect (R148). -/
  ringWords : Nat
  /-- The Facet it lives in now; 0x1F: none. -/
  home : Nat
  /-- Slot of that Facet (06 Table 6-11). -/
  slot : Nat
  /-- Cycle in which CTX_BIND was accepted (05 R169). -/
  boundAt : Nat
  unbindPending : Bool
  /-- Cycle in which CTX_UNBIND was accepted (05 R169). -/
  unbindAt : Nat
  /-- A CTX_MOVE or re-homing move: Facet, and the earliest cycle (15 R446). -/
  movePending : Option (Nat × Nat)
  -- Frames (05)
  shedNow : Bool
  victim : Bool
  rateHigh : Bool
  lines : Nat
  frameNo : Nat
  /-- Number of the next frame to open. -/
  nextNo : Nat
  ring : List Line
  frames : List Frame
  counts0 : Word
  counts1 : Word
  /-- Cycle of the last line of the open frame. -/
  lastLine : Nat
  /-- Embedded lines that came before the next frame's start, and whether one of them was marked or failed its checksum (05 R166). -/
  embNext : List (List Byte)
  embBad : Bool
  -- Rate watch (05 R160)
  win1s : Nat
  win1ms : Nat
  /-- Device Time in 2^-32 ns at which the window of 1 s began. -/
  secFrom : Int
  /-- Cycles of readout that the window of 1 ms took from frames now closed, and the cycle of the line from which it runs in the open one. -/
  msRead : Nat
  msFrom : Option Nat
  rateOkSince : Nat
  deficit : Nat
  -- Parameters (06)
  inForce : List (Nat × Word)
  shadow : List (Nat × Word)
  shadeA : Option (List Word)
  shadeB : Option (List Word)
  defectA : Option (List Word)
  defectB : Option (List Word)
  target : Word
  commitPending : Bool
  /-- Cycle in which it was accepted (06 R203). -/
  commitAt : Nat
  atFrame : Bool
  result : Nat
  paramFrame : Word
  pipeCounts : Word
  statsSeq : Word
  statsAck : Word
  statsDue : List StatsDue
  /-- Mean L of the 32 × 32 zones of the previous frame, and the Facet that took them (06 R186). -/
  lc : Option (Nat × List Nat)
  /-- Statistics host ring: engine and channel (12 R383). -/
  statsRing : Option (Nat × Nat)
  outs : List (Nat × Output)
  /-- Complete frames in the set of three source buffers, newest first (07 R223). -/
  sources : List SourceFrame
  -- Phokel's settings (12)
  loop : LoopCfg
  /-- Records since the loop last acted. -/
  loopCount : Nat
  /-- Exposure in ns and gain in 1/256 that the exposure loop has set last (12 R384). -/
  loopSet : Option (Nat × Nat)
  stampCfg : StampCfg
  stampPending : Option (Due StampCfg)
  -- Service (15)
  /-- Reduction: 0 none, 1 half, 2 quarter, 3 eighth; by re-homing. -/
  reduction : Nat
  /-- Reduction by the cap or thermal limit: 0 to 3, 4 every frame. -/
  capReduction : Nat
  /-- A reduction by the cap or thermal limit that waits for a frame start (10 R312, R314). -/
  capDue : Option (Due Nat)
  /-- A reduction planned by re-homing or by the cap: halvings, and the earliest cycle (15 R446, R447). -/
  reductionPending : Option (Nat × Nat)
  deriving DecidableEq, Repr

/-- STATE of a Facet (06 Table 6-11). -/
inductive FacetState where
  | run | draining | drained | inReset | quarantined | readmitPending
  deriving DecidableEq, Repr

/-- One Facet. -/
structure Facet where
  state : FacetState
  /-- The edge of the launch that readmits it has passed: it runs from its first frame boundary (04 R143). -/
  launched : Bool
  reserve : Bool
  arb : Word
  counts : Word
  shedding : Bool
  /-- The context served last. -/
  last : Nat
  /-- The context whose visit is in progress (05 R157). -/
  visiting : Option Nat
  /-- Device-Time ns of its concealments after failed replays (15 R443). -/
  conceals : List Nat
  /-- Line-memory test: not begun, or its end in cycles (15 R452). -/
  testEnd : Option Nat
  /-- Lines taken lately: cycle and clocks (BUSY). -/
  busy : List (Nat × Nat)
  deriving DecidableEq, Repr

/-- STATE of an Accord (07 Table 7-12). -/
inductive AccordState where
  | off | run | draining | drained | inReset | readmitPending
  deriving DecidableEq, Repr

/-- One source slot of an Accord. -/
structure Source where
  /-- Record in force, three words (Table 7-6). -/
  cfg : List Word
  pending : Option (Due (List Word))
  meshA : Option (List Word)
  meshB : Option (List Word)
  /-- Sequence of the frame used last, and canvas frames since it was new. -/
  usedSeq : Nat
  age : Nat
  stale : Bool
  deriving DecidableEq, Repr

/-- One Accord. -/
structure Accord where
  state : AccordState
  /-- Record in force, five words (Table 7-5). -/
  canvas : List Word
  pending : Option (Due (List Word))
  sources : List (Nat × Source)
  overlay0 : Nat
  overlay1 : Nat
  overlayUse : Nat
  overlayPending : Option (Due (Nat × Nat × Nat))
  counts : Word
  frameNo : Nat
  /-- Start of the last canvas frame in 1/16 ns: of local time under FREE and SOURCE, of Device Time under TIME. -/
  lastStart : Int
  /-- Starts due under SOURCE, and the last completion of the lock source, in 1/16 ns of local time (R228). -/
  dueAt : List Int
  lockAt : Int
  /-- ACCORD_STALE has been raised for a silent lock source. -/
  lockStale : Bool
  ring : Option (Nat × Nat)
  dropsHost : Nat
  launched : Bool
  /-- The composition in progress has been counted late. -/
  late : Bool
  deriving DecidableEq, Repr

/-- A step of R447: a context's reduction by one half, or its parking out of a Facet. -/
inductive RoomStep where
  | reduce (c : Nat)
  | park (c facet : Nat)
  deriving DecidableEq, Repr

/-- Re-homing (15 R446, R447, R452). -/
structure Service where
  /-- Steps made and not undone, newest first. -/
  steps : List RoomStep
  /-- Cycle from which the next step may be undone, once a Facet has been readmitted. -/
  undoAt : Option Nat
  deriving DecidableEq, Repr

/-- One check unit (07 Table 7-9). -/
structure Check where
  cfg : Word
  pending : Option (Due Word)
  expected : List (BitVec 32)
  /-- Entries of EXPECTED written in one cycle, and what they held before it: a comparison of that cycle still uses it (07 R234). -/
  expectedWas : List (Nat × Nat × BitVec 32)
  seq : Nat
  lastCrc : BitVec 32
  counts : Word
  prev : Option (BitVec 32)
  frozenRaised : Bool
  /-- Frame number from which the assignment compares. -/
  firstFrame : Nat
  deriving DecidableEq, Repr

end Sys2Proof.Machine
end

