-- ==== Sys2Proof/Machine/HostState.lean ====
section
/-! DEFINITION. State of the host link, the DMA engines, the event router, the trouble log and the mailbox doors
(11_host_link_and_dma.md, 12_mailbox_and_commands.md, 15_service_and_faults.md R438 to R441). -/
namespace Sys2Proof.Machine

/-- One event occurrence on its way to the router (11 R349, R352). -/
structure Occ where
  /-- Event ID of Table 11-9. -/
  id : Nat
  /-- CODE of Table 11-10. -/
  code : Nat
  /-- DATA, 20 bits. -/
  data : Nat
  /-- Short stamp of the occurrence's instant (R349). -/
  stamp : Word
  /-- Route[id] as it stood for this occurrence (R352). -/
  route : Word
  /-- A rule requires a trouble-log entry, and it has been written (15 R440). -/
  logged : Bool
  deriving DecidableEq, Repr

/-- A trouble-log entry of Table 15-2: 128 bits; `cycle` is the timebase cycle of its arrival (15 R440). -/
structure LogEntry where
  bits : BitVec 128
  cycle : Nat
  deriving DecidableEq, Repr

/-- The trouble log (15 R438, R440). -/
structure TroubleLog where
  /-- Entries by index, 0 to 4095; an unlisted index has not been written. -/
  entries : List (Nat × BitVec 128)
  /-- NEXT, 12 bits. -/
  next : Nat
  /-- Entries held, 0 to 4096. -/
  fill : Nat
  /-- WRAPS, 15 bits, saturating. -/
  wraps : Nat
  /-- MODEL'S OWN: entries ever written into the SRAM, by which a log tail counts those after a snapshot (09 R290). -/
  written : Nat
  /-- The queue of 64 entries ahead of the SRAM. -/
  queue : List LogEntry
  /-- An entry has been lost since the last one accepted: the next one carries GAP. -/
  gap : Bool
  deriving DecidableEq, Repr

/-- A record ring: response ring or host event ring (R344, Table 11-8). -/
structure RecRing where
  /-- BaseLo: ADDR_LO. -/
  baseLo : Word
  /-- BaseHi: ENABLE, MSIX_EN, SIZE, VECTOR, ADDR_HI. -/
  baseHi : Word
  /-- Write count modulo 2^20. -/
  writeIdx : Nat
  /-- READ_IDX modulo 2^20. -/
  readIdx : Nat
  /-- Drops register: DROPS in 39:24, rc. -/
  drops : Word
  /-- Drop count of the index slot, 16 bits, saturating (R344). -/
  slotDrops : Nat
  deriving DecidableEq, Repr

/-- STATE of a channel (Table 11-16). -/
inductive ChanState where
  | disabled | empty | active | waitStart | waitFence | stopped | halted
  deriving DecidableEq, Repr

/-- One transfer that a channel has yet to make: a line of an output frame, a stamp table, or an internal block (R334). -/
structure Transfer where
  /-- Byte offset in the buffer of the descriptor in use. -/
  offset : Nat
  bytes : List Byte
  /-- Its data lie in external memory: a canvas, a stamp table, resampled rows (01 R19). -/
  ext : Bool
  deriving DecidableEq, Repr

/-- What an output channel knows of the frame that uses its descriptor (07 R216, R217). -/
structure FrameUse where
  /-- The frame's lines have all been handed over. -/
  whole : Bool
  /-- The tag block, once formed: 16 words. -/
  tag : List Word
  /-- A poisoned word passed: write-back POISONED (R39). -/
  poisoned : Bool
  deriving DecidableEq, Repr

/-- One DMA channel (Table 11-16, R330 to R340). -/
structure Channel where
  enable : Bool
  /-- DIR: 0 device to host, 1 host to device, 2 internal. -/
  dir : Nat
  ringMem : Bool
  /-- 2^SIZE descriptors. -/
  size : Nat
  readback : Bool
  paced : Bool
  prio : Nat
  /-- OUTPUT: an output channel (R334). -/
  output : Bool
  context : Nat
  out : Nat
  ringLo : Word
  ringHi : Word
  tagLo : Word
  tagHi : Word
  state : ChanState
  /-- HEAD, 16 bits. -/
  head : Nat
  /-- Counts: DESCS rc 39:20, MERGED rc 19:4. -/
  counts : Word
  /-- Descriptors fetched with OWN = 1, not yet completed, oldest at HEAD (R331). -/
  fetched : List Fetched
  /-- A doorbell has been given, and the fetch it asks for is not yet answered (R331). -/
  fetching : Bool
  /-- A doorbell met the fetch that read OWN = 0 (R356). -/
  again : Bool
  /-- One start kept (R336). -/
  kept : Bool
  /-- A start has released the descriptor at HEAD. -/
  released : Bool
  /-- Enter STOPPED after the descriptor in use (R337). -/
  stopPending : Bool
  /-- A descriptor is in flight. -/
  inFlight : Bool
  /-- Transfers waiting, in order (R334). -/
  transfers : List Transfer
  /-- Bytes transferred of the descriptor in use (DONE_LEN). -/
  done : Nat
  /-- The frame in the descriptor in use, for an output channel. -/
  frame : Option FrameUse
  /-- Last host address written, for READBACK and FENCE (R338, R339). -/
  lastAddr : Nat
  /-- A write of this channel is not yet acknowledged (R338). -/
  unacked : Bool
  /-- It had a descriptor in flight at a halt: at the next fetch, one that shows OWN = 0 at HEAD is skipped (R342). (log 11 DEDUCED) -/
  skipOwn : Bool
  /-- STATUS of a descriptor that has ended while the device may issue no request: its write-back waits (R318, R340). -/
  owed : Option Nat
  /-- A cycle with starts, and `fetching`, `again` and `released` before them: a STOP of that cycle keeps the start (R356). -/
  started : Option (Nat × Bool × Bool × Bool)
  deriving DecidableEq, Repr

/-- What a read-back is for (R338, R339, Table 11-5). -/
inductive ReadBackFor where
  /-- A tag block, and then the write-back of the channel's descriptor. -/
  | tag
  /-- The acknowledgement that a FENCE descriptor waits for. -/
  | fence
  /-- A span record, before the NVMe write that stores it. -/
  | spanRecord (no : Nat)
  /-- A retrieval image, before its verdict. -/
  | image
  /-- The trouble-log snapshot of a closing span, into staging (09 R277). -/
  | logPiece (ssn : Nat)
  deriving DecidableEq, Repr

/-- Work of a READBACK channel, waiting for its read to return (R339, Table 11-5). -/
structure ReadBack where
  kind : ReadBackFor
  /-- The engine has issued the read. -/
  issued : Bool
  /-- Channel of the engine it belongs to. -/
  ch : Nat
  /-- Address to write at, and the words in host form. -/
  addr : Nat
  bytes : List Byte
  deriving DecidableEq, Repr

/-- One DMA engine (Table 11-15). -/
structure Engine where
  halted : Bool
  cause : Nat
  activeCh : Nat
  outstanding : BitVec 32
  /-- Halt at the next descriptor boundary (FORCE). -/
  forcePending : Bool
  /-- READBACK work waiting on Channel 31, oldest first. -/
  readbacks : List ReadBack
  /-- Cycle at which it halted (R343). -/
  haltCycle : Nat
  /-- Drained by UNIT_DRAIN, in reset (15 R451). -/
  inReset : Bool
  deriving DecidableEq, Repr

/-- An MSI-X vector: its table entry and its Cfg register (R325, R353). -/
structure Vector where
  /-- The four dwords of the table entry: address low, address high, data, control (bit 0 mask). -/
  addrLo : BitVec 32
  addrHi : BitVec 32
  msgData : BitVec 32
  control : BitVec 32
  pendingBit : Bool
  /-- Cfg: HOLDOFF 39:24, MSGS rc 23:8. -/
  cfg : Word
  /-- End of the holdoff in timebase cycles, once a message has been sent. -/
  holdEnd : Nat
  /-- Stamps of the occurrences merged during the holdoff. -/
  merged : List Word
  deriving DecidableEq, Repr

/-- One posted write on the host link. -/
structure HostWrite where
  addr : Nat
  bytes : List Byte
  /-- No Snoop is set (R317). -/
  noSnoop : Bool := false
  deriving DecidableEq, Repr

/-- The host link (R316 to R327). -/
structure HostLink where
  up : Bool
  /-- Bus Master Enable. -/
  busMaster : Bool
  d3hot : Bool
  /-- Lanes negotiated. -/
  width : Nat
  /-- RATE of Table 11-3. -/
  rate : Nat
  /-- MPS of Table 11-3: 0, 1, 2 for 128, 256, 512 bytes. -/
  mps : Nat
  /-- Completion timeout value of Device Control 2. -/
  ctoValue : BitVec 4
  /-- Max_Read_Request_Size in bytes (Table 11-1). -/
  mrrs : Nat
  /-- ASPM L1 is enabled (Table 11-1). -/
  aspmL1 : Bool
  /-- AER Uncorrectable Error Status (Table 11-1). -/
  aer : BitVec 32
  /-- RETRAINS, rc, 16 bits. -/
  retrains : Nat
  /-- RegFault: OFFSET, KIND, COUNT rc (Table 11-17). -/
  regFault : Word
  /-- A cycle with refusals, and RegFault as it stood before them: what a read of that cycle returns (R321). -/
  regFaultWas : Option (Nat × Word)
  /-- Records of a cycle that found Rec[1] full, and its drop counts before them: a READ_IDX written in that cycle makes room for them
  (R356). -/
  turned : Option (Nat × Word × Nat × List Occ)
  rec0 : RecRing
  rec1 : RecRing
  /-- Responses held while Rec[0] cannot take them, oldest first, each header and payload (R345). -/
  held : List (List Word)
  /-- MODEL'S OWN: posted writes issued, newest first (R344). -/
  writes : List HostWrite
  /-- MODEL'S OWN: the value that the last register read returned. -/
  lastRead : BitVec 64
  deriving DecidableEq, Repr

/-- A word in a note queue: its arrival (timebase cycle) and, at Door 1, the session that sent it. -/
structure NoteWord where
  w : Word
  at_ : Nat
  session : Nat
  /-- A header whose message is torn, and how many of its payload words are stored (R360). -/
  torn : Option Nat
  deriving DecidableEq, Repr

/-- A word that found its queue full, and the queue before it: the stage that a taking of the same cycle frees counts (12 Table 12-14). (log 47 DESIGN CHOICE) -/
structure Turned where
  cycle : Nat
  word : NoteWord
  words : List NoteWord
  openLeft : Nat
  openStored : Nat
  deriving DecidableEq, Repr

/-- One note queue (12 R359 to R363, Table 12-2). -/
structure Note where
  words : List NoteWord
  /-- THRESH. -/
  thresh : Nat
  /-- REFUSED, modulo 256. -/
  refused : Nat
  /-- Words of the message being pushed that have not arrived yet (R359). -/
  openLeft : Nat
  /-- Payload words of that message that are stored. -/
  openStored : Nat
  /-- Later words of a torn message to be discarded as they arrive (R360). -/
  discard : Nat
  /-- Headers that were refused, and whose messages Phokel has yet to complete with FAULT (R360). -/
  lost : List NoteWord
  /-- The word pushed last, where it was refused. -/
  turned : Option Turned
  deriving DecidableEq, Repr

/-- What a long command waits for. -/
inductive Wait where
  | portPower (n action : Nat)
  | portTrain (n : Nat)
  /-- A back-channel command by its TAG on its port. -/
  | sensor (n : Nat) (tag : Nat)
  | epochLaunch (set : Nat)
  | ctxUnbind (c : Nat)
  | ctxMove (c : Nat)
  | ctxStamp (c : Nat)
  | commit (c : Nat)
  | gclSet (p : Nat)
  | ringFormat
  | ringStart
  | ringStop
  | ledgerCommission
  | powerLow
  | powerCap
  | flash
  | fwActivate
  | debugOpen
  | unitDrain (kind idx : Nat)
  /-- UNIT_RESET, and the cycle at which it times out (14 R434). -/
  | unitReset (kind idx due : Nat)
  | unitReadmit (kind idx : Nat)
  | coreReset
  /-- EVENT_BARRIER for its T, full Device Time in ns. -/
  | barrier (t : Nat)
  | fence
  /-- TIME_SET or TRAVEL_SET of a cycle: its response reports the value that its jump replaces (04 R128). -/
  | timeJump (cycle : Nat)
  | travelJump (cycle : Nat)
  deriving DecidableEq, Repr

/-- An accepted message that is not complete (R369, R370). -/
structure Inflight where
  door : Nat
  opcode : BitVec 12
  tag : BitVec 12
  flags : BitVec 8
  session : Nat
  wait : Wait
  /-- Payload words the completion needs again. -/
  payload : List Word
  /-- A reset of the host link has passed since it was accepted: its response is discarded (11 R326). -/
  mute : Bool
  deriving DecidableEq, Repr

/-- A message being taken before its last word has arrived (R363). -/
structure Taking where
  door : Nat
  note : Nat
  header : Word
  words : List Word
  session : Nat
  /-- Cycle at which the last word was taken. -/
  since : Nat
  /-- Device Time in ns at which the header was taken: the message was accepted (R362). -/
  accepted : Nat
  /-- Its response is discarded (11 R326). -/
  mute : Bool
  deriving DecidableEq, Repr

/-- The mailbox (12). -/
structure Mailbox where
  /-- Note queues, number 3·door + note. -/
  notes : List (Nat × Note)
  taking : Option Taking
  /-- The log of accepted, incomplete messages, oldest first (R370). -/
  inflight : List Inflight
  /-- Shed level 0 to 3 (R373). -/
  shed : Nat
  /-- Cycle since which the heart wait has stayed below 1 ms, or of the last fall. -/
  shedSince : Nat
  /-- Session of the Door 1 message being executed (08 R260). -/
  curSession : Nat
  /-- Device Time in ns at which the message being executed was accepted, where that lies before its last word (R362, R363). -/
  accepted : Option Nat
  /-- The response of the message being executed is discarded (11 R326). -/
  mute : Bool
  /-- MC_RESTARTS since system reset (Table 12-5). -/
  mcRestarts : Nat
  /-- Classes whose loops run slower at level 2, in steps of one half each: bulk, surveillance, operational, safety (R374). -/
  loopHalvings : List Nat
  /-- Cycle of the last step of level 2. -/
  loopSince : Nat
  deriving DecidableEq, Repr

/-- The event router (11 R348 to R354). -/
structure Router where
  /-- Route[id] by id. -/
  routes : List (Nat × Word)
  /-- Routes as they stood before writes of the current timebase cycle (R352). -/
  oldRoutes : List (Nat × Word)
  vectors : List (Nat × Vector)
  /-- Occurrences on their way to the router, oldest first. -/
  queue : List Occ
  deriving DecidableEq, Repr

end Sys2Proof.Machine
end

