-- ==== Sys2Proof/Machine/PortState.lean ====
section
/-! DEFINITION. State of a Ray port: line, blocks, packets, back channel, ingest ring and test pattern
(02_ray_line.md, 03_ray_words.md, 05_ingest_and_contexts.md R146, R164, R169, R170, R172). -/
namespace Sys2Proof.Machine

/-- STATE of LineStatus (02 Table 2-8). -/
inductive LineState where
  | off | bcAlign | baseLock | adapt | data | idle | waking | down
  deriving DecidableEq, Repr

/-- Where a training stands (02 Table 2-5). -/
inductive TrainStep where
  /-- 100 µs of back-channel silence before the attempt (R61). -/
  | silence
  /-- Steps 1 and 2: waiting for ANNOUNCE frames. -/
  | announce
  /-- Steps 3 and 4: a LINE_SET ADAPT at the rate under trial. -/
  | adapt
  /-- Step 5: COMMIT. -/
  | commit
  /-- Between attempts, 10 ms (R58). -/
  | retryWait
  deriving DecidableEq, Repr

/-- A back-channel code group: a special symbol K<x>.<y> or a data byte (02 R51, R52). -/
inductive CodeGroup where
  | k28_5 | k27_7 | k29_7 | k28_1 | k28_6 | k23_7 | k28_0
  | data (b : Byte)
  deriving DecidableEq, Repr

/-- A training in progress (02 R57 to R61). -/
structure Training where
  step : TrainStep
  /-- Deadline of the step, in timebase cycles; while `waiting`, it does not run. -/
  deadline : Nat
  /-- The K29.7 of the step's LINE_SET has not gone out yet; the step's limit in cycles, which runs from it (R57). -/
  waiting : Bool
  limit : Nat
  /-- Rate under trial, coded as RATE of LINE_SET. -/
  rate : Nat
  /-- Consecutive ANNOUNCE frames with good CRC. -/
  announces : Nat
  /-- A frame with good CRC has arrived in this attempt. -/
  seen : Bool
  /-- A frame with failing CRC has arrived since then. -/
  crcBad : Bool
  /-- SEQ of the last LINE_SET. -/
  seq : Nat
  /-- That LINE_SET as it went out, for its repetitions (R61), and the PRECODE and IDLE_OK that it carried (R49, R63). -/
  frame : List CodeGroup
  precode : Bool
  idleOk : Bool
  /-- The last LINE_SET is acknowledged. -/
  acked : Bool
  /-- Cycle of its next repetition. -/
  repeatAt : Nat
  /-- The rate under trial has passed (02 R57). -/
  adapted : Bool
  /-- READY frames carrying the SEQ of the COMMIT, and whether the end marker has followed. -/
  readies : Nat
  ended : Bool
  /-- SEED of the COMMIT. -/
  seed : Nat
  /-- Further attempts left. -/
  left : Nat
  /-- Capabilities of the last ANNOUNCE: RATES, PRECODE_CAP, IDLE_CAP. -/
  capRates : Nat
  capPrecode : Bool
  capIdle : Bool
  /-- Line parameters of this training: RATE_MAX, PRECODE_POLICY, IDLE_OK, ANNOUNCE_WAIT as it found them (12 R378). -/
  rateMax : Nat
  precodePolicy : Nat
  idlePolicy : Bool
  announceWait : Nat
  deriving DecidableEq, Repr

/-- A trigger or an epoch mark placed in reserved slots (03 R94, R95, R100). -/
structure Run where
  /-- Start of the run's first slot, in 1/24 ns of local time (a slot lasts 1280). -/
  start : Int
  /-- Slots reserved. -/
  slots : Nat
  /-- It has gone out; its slots stay its own until they have passed. -/
  gone : Bool
  epochMark : Bool
  groups : List CodeGroup
  /-- TRIG_ID and t_eff (ns) of each trigger, in order. -/
  trigs : List (Nat × Nat)
  deriving DecidableEq, Repr

/-- A back-channel command waiting for its reply (03 R91 to R93). -/
structure BcCommand where
  tag : Nat
  /-- CMD of Table 3-8. -/
  cmd : Nat
  body : List Byte
  /-- Cycle of the end of its last sending; none while its frame waits or is on the line. -/
  sent : Option Nat
  resent : Bool
  /-- Reply data so far. -/
  reply : List Byte
  deriving DecidableEq, Repr

/-- What a command frame carries: a command with its TAG, or a LINE_SET with its SEQ. -/
inductive TxFor where
  | command (tag : Nat)
  | lineSet (seq : Nat)
  deriving DecidableEq, Repr

/-- A command frame that waits for its slots, or is on the line (03 R89, R90). -/
structure TxFrame where
  /-- Code groups not yet sent. -/
  groups : List CodeGroup
  for_ : TxFor
  deriving DecidableEq, Repr

/-- Status of a slot of a block: parity good, or marked bad. -/
structure RxWord where
  w : LinkWord
  good : Bool
  deriving DecidableEq, Repr

/-- A block in the reorder buffer (03 R79 to R82). -/
structure Block where
  bsn : Nat
  words : List RxWord
  /-- FRAME_COUNT and FHP of its marker, once a good marker has given them. -/
  marker : Option (Nat × Nat)
  /-- It awaits replay until this cycle. -/
  deadline : Option Nat
  /-- It holds marked words. -/
  marked : Bool
  /-- Cycle of its first reception. -/
  arrived : Nat
  /-- Device Time of its first reception, in 2^-32 ns (04 R140). -/
  arrivedAt : Int
  deriving DecidableEq, Repr

/-- A long packet being reassembled (03 R85 to R88). -/
structure Packet where
  vc : Nat
  dt : Nat
  wc : Nat
  words : List Word
  /-- Words still due, the footer included. -/
  due : Nat
  marked : Bool
  /-- Arrival of the header: Device Time in 2^-32 ns (04 R140), and the cycle in which it was judged. -/
  arrival : Int
  headAt : Nat
  /-- Its context's partition had room for the line when the header arrived (05 R149). -/
  room : Bool
  deriving DecidableEq, Repr

/-- One port. -/
structure Port where
  -- Line parameters (Table 2-4).
  rateMax : Nat
  precodePolicy : Nat
  idleOk : Bool
  trainRetries : Nat
  /-- In ms. -/
  announceWait : Nat
  -- Line state (Table 2-8).
  state : LineState
  rate : Nat
  precode : Bool
  announced : Bool
  eyeH : Byte
  eyeW : Byte
  trains : Nat
  txPreset : Nat
  lastFail : Nat
  /-- LineEvents (Table 2-9), rc. -/
  lineEvents : Word
  training : Option Training
  /-- SEED of the last completed full training; 0: none. -/
  seed : BitVec 58
  scram : BitVec 58
  prevP : Pam4
  /-- IDLE_CAP and IDLE_OK hold in this session (R63). -/
  idleAllowed : Bool
  /-- Start of a wake: cycle of the K28.0, for the bound of R66. -/
  wakeAt : Option Nat
  /-- Code groups since the last K28.5 (R53). -/
  sinceFill : Nat
  /-- MODEL'S OWN: back-channel code groups sent, newest first. -/
  sent : List CodeGroup
  /-- Positive running disparity, and the code group last sent as it stands on the line (R51). -/
  disparity : Bool
  txCode : BitVec 10
  /-- Start of the next slot, in 1/24 ns of local time. -/
  txAt : Int
  /-- What waits for a slot (03 Table 3-7): the rest of a replay request on the line, a K28.0, blocks to be requested again, frames. -/
  txItem : List CodeGroup
  wakeDue : Bool
  replayDue : List Nat
  txFrames : List TxFrame
  /-- The group has come up, and Phokel has yet to make its launch (01 R22). -/
  launchDue : Bool
  /-- The back channel keeps silent until this cycle, for the camera end to lose alignment (R58, R61). -/
  quietUntil : Nat
  /-- Cycle since which the idle states of the group's members disagree, held at member 0 (R68). -/
  idleSkew : Option Nat
  -- Blocks (03).
  bond : Nat
  bondPos : Nat
  wordLock : Bool
  nextBsn : Nat
  /-- FRAME_COUNT of the last good marker. -/
  frameCount : Nat
  /-- The device's own count of frame starts. -/
  ownCount : Nat
  /-- Adopt the next good marker's FRAME_COUNT (R100). -/
  adopt : Bool
  /-- Adopt the next good marker's BSN and FRAME_COUNT: the pattern generator has just stopped (05 R170). -/
  resync : Bool
  lockFaults : Nat
  unplaced : Nat
  /-- Reorder buffer, in BSN order of arrival. -/
  blocks : List Block
  /-- RxCounts (Table 3-13), rc. -/
  rxCounts : Word
  /-- TrigCfg (Table 3-14). -/
  trigCfg : Word
  /-- HdrCounts (Table 3-15), rc. -/
  hdrCounts : Word
  -- Packets.
  packet : Option Packet
  /-- Discard words up to the next slot that an FHP names (R83). -/
  seekFhp : Bool
  -- Back channel.
  runs : List Run
  nextTag : Nat
  commands : List BcCommand
  /-- Triggers acknowledged and not yet matched: TRIG_ID and t_eff; `seen` arrives later (04 R142). -/
  trigSent : List (Nat × Nat)
  trigSeen : List (Nat × Nat)
  /-- Maps in force: TRIG_MAP_SET by TRIG_ID (ACTION, ARG0, ARG1) and EPOCH_MAP_SET (15 R449). -/
  trigMaps : List (Nat × Nat × Nat × Nat)
  epochMap : Option Nat
  -- Ingest (05).
  /-- IngestCounts (Table 5-9), rc. -/
  ingestCounts : Word
  /-- PORT_UNBOUND has been raised since IngestCounts was last read (R164). -/
  unboundRaised : Bool
  /-- PEAK_WORDS, rc. -/
  peak : Nat
  /-- LineSig: SEQ, CRC. -/
  lineSigSeq : Nat
  lineSigCrc : BitVec 32
  -- Test pattern (R169, R170).
  patGen0 : Word
  patGen1 : Word
  patGen2 : Word
  /-- MODE and VC of a change asked for and not in force, and the cycle it was asked. -/
  patPending : Option (Word × Nat)
  patGen0Used : Word
  /-- HEIGHT and VALUE of the frame that the generator sends. -/
  patHeight : Nat
  patValue : Nat
  patK : Nat
  patY : Nat
  /-- Local time at which the generator's next line begins, in 2^-32 ns (05 R170). -/
  patNext : Rat
  -- Service (15).
  /-- Cycle of Phokel's last recovery (R449). -/
  recovered : Option Nat
  /-- Phokel's recovery: 0 none; 1 the camera is being power-cycled; 2 the port trains; from 3, the map to be sent next (R449). -/
  recovering : Nat
  /-- Cycle at which OFF_MS of a power cycle ends. -/
  cycleEnd : Option Nat
  /-- It trains as soon as its supply is on again, after a wake from LOW (10 R300). -/
  trainDue : Bool
  /-- Phokel has stopped its camera's streaming (10 R312). -/
  streamStopped : Bool
  /-- Cycle at which the port's own EPOCH_MAP is sent again after Phokel's (10 R312). -/
  mapDue : Option Nat
  /-- UNIT_DRAIN waits for open frames to close until this cycle (15 Table 15-4). -/
  drainBy : Option Nat
  /-- Drained by UNIT_DRAIN, reset, waiting for readmission. -/
  inReset : Bool
  deriving DecidableEq, Repr

end Sys2Proof.Machine
end

