-- ==== Sys2Proof/Machine/RingState.lean ====
section
/-! DEFINITION. State of the Sillage ring and its drives (09_sillage_ring.md). Segments hold their pieces; what a
drive holds once a segment is sealed lies outside the block, so that the ring keeps only where it lies. -/
namespace Sys2Proof.Machine

/-- STATE of Ring.Status (Table 9-11). -/
inductive RingState where
  | off | recovering | run | stopped | sealed | noDrive
  deriving DecidableEq, Repr

/-- STATE of a drive (Table 9-12). -/
inductive DriveState where
  | absent | init | member | lost | spare
  deriving DecidableEq, Repr

/-- A piece of a segment body (Table 9-4). -/
structure Piece where
  /-- 1 DATA, 2 TAG, 3 LOG. -/
  kind : Nat
  flags : Nat
  context : Nat
  dt : Nat
  frameNo : Nat
  recOffset : Nat
  data : List Byte
  deriving DecidableEq, Repr

/-- An entry of RANGES (Table 9-3): KIND 1 POISONED, 2 MISSING. -/
structure SegRange where
  off : Nat
  len : Nat
  kind : Nat
  context : Nat
  /-- The record's frame, and where the range begins in its payload: by these a range that crosses pieces is one entry (R273). -/
  frame : Nat
  src : Nat
  deriving DecidableEq, Repr

/-- A frame that the ring has not taken in this cycle so far (R281, R294). -/
structure Skipped where
  context : Nat
  frame : Nat
  raw : Bool
  dt : Nat
  reserve : Nat
  cls : Nat
  deriving DecidableEq, Repr

/-- Where a segment of the ring lies (R269, Table 9-6), while its slot has not been overwritten; `lost`: with its drive (R288), or a drive that has
been re-admitted with its slots taken as empty (R289). -/
structure LiveSeg where
  ssn : Nat
  span : Nat
  drive : Nat
  slot : Nat
  capMin : Nat
  capMax : Nat
  lost : Bool
  deriving DecidableEq, Repr

/-- A segment from its opening until it is sealed (R269, R270, R282). -/
structure Segment where
  ssn : Nat
  drive : Nat
  slot : Nat
  span : Nat
  index : Nat
  /-- Device Time, 80 bits of R14. -/
  openTime : Nat
  pieces : List Piece
  /-- Body bytes holding pieces. -/
  used : Nat
  ranges : List SegRange
  /-- CAP_MIN and CAP_MAX, in ns of Device Time, once a piece lies here. -/
  capMin : Option Nat
  capMax : Option Nat
  cut : Bool
  /-- No further piece fits (R271), or it is to be closed short. -/
  full : Bool
  closed : Bool
  /-- Body bytes whose Write has been submitted (R270). -/
  sent : Nat
  /-- Its LOG piece waits for the READBACK channel (R277). -/
  awaitsLog : Bool
  /-- D_n and C_n, once formed. -/
  digest : Option (List Byte)
  chain : Option (List Byte)
  /-- The close block is written; a Flush after it has completed, where R265 requires one. -/
  closeWritten : Bool
  flushed : Bool
  /-- Its drive is lost before it was sealed (R288). -/
  lost : Bool
  /-- U has fallen by its bytes. -/
  sealed : Bool
  /-- Cycle of its opening, and what its slot held until then (R294). -/
  openedAt : Nat
  overwritten : List LiveSeg
  deriving DecidableEq, Repr

/-- A frame that the ring has taken and that has not ended (R272, R281). -/
structure OpenRec where
  context : Nat
  frame : Nat
  raw : Bool
  dt : Nat
  /-- F of R280. -/
  reserve : Nat
  /-- Bytes of its pieces, headers and padding included. -/
  used : Nat
  /-- Payload bytes placed in pieces. -/
  offset : Nat
  /-- Payload bytes staged and not yet placed. -/
  buf : List Byte
  /-- CRC-32C register over the payload so far (07 R233). -/
  crc : BitVec 32
  /-- POISONED and MISSING ranges of the payload: offset, length, KIND (R273). -/
  ranges : List (Nat × Nat × Nat)
  /-- SSN and body offset of its first piece header. -/
  first : Option (Nat × Nat)
  /-- CAPTURE_TIME in ns, once its first row has come. -/
  capture : Option Nat
  /-- Cycle in which the ring took it, and its class (R294). -/
  takenAt : Nat
  cls : Nat
  deriving DecidableEq, Repr

/-- The span being filled (R275). -/
structure OpenSpan where
  no : Nat
  firstSsn : Nat
  members : List Nat
  openTime : Nat
  /-- C of the segment before its first. -/
  prevChain : List Byte
  /-- FLAGS bit 0: debug open in OWNED-SEALED at any time in the span. -/
  debugOpen : Bool
  deriving DecidableEq, Repr

/-- One segment of a closed span, as far as it is known. -/
structure SpanSeg where
  drive : Nat
  slot : Nat
  lost : Bool
  digest : Option (List Byte)
  chain : Option (List Byte)
  deriving DecidableEq, Repr

/-- A closed span on its way to its signature (Table 9-6). -/
structure ClosedSpan where
  no : Nat
  reason : Nat
  members : List Nat
  firstSsn : Nat
  count : Nat
  dirSlot : Nat
  openTime : Nat
  closeTime : Nat
  /-- Cycle of its close (R294). -/
  closedAt : Nat
  prevChain : List Byte
  debugOpen : Bool
  segs : List SpanSeg
  deriving DecidableEq, Repr

/-- A signed span record and its directory slot (R275). -/
structure SpanRec where
  no : Nat
  dirSlot : Nat
  firstSsn : Nat
  count : Nat
  reason : Nat
  /-- Its record, 20 480 bytes. -/
  image : List Byte
  deriving DecidableEq, Repr

/-- STATE of a window (Table 9-2). -/
inductive WindowState where
  | pending | held
  deriving DecidableEq, Repr

/-- A protected window (R284 to R286): START and END in ns of Device Time; TRIGGER. -/
structure Window where
  state : WindowState
  start : Nat
  stop : Nat
  trigger : Nat
  /-- The last trigger that extended it: its cycle, and the window that it asked for (R294). -/
  ext : Option (Nat × Nat × Nat)
  deriving DecidableEq, Repr

/-- The NVMe commands of Table 9-1 that the writer has outstanding. -/
inductive NvmeOp where
  /-- An admin command, by its opcode. -/
  | admin (opcode : Nat)
  | write | read | flush | writeZeroes
  deriving DecidableEq, Repr

/-- What an NVMe command is for. -/
inductive NvmeFor where
  /-- The queues of a drive that has been accepted. -/
  | queues
  /-- Identify, of a drive that has been found (R263). -/
  | identify
  /-- The labels, directories, log tails and slots that RING_START reads (R291). -/
  | start
  /-- LBAs 18 to 255 of slot 0, at RING_FORMAT. -/
  | format
  /-- Open block and body of a segment. -/
  | body (ssn : Nat)
  | close (ssn : Nat)
  | flush (ssn : Nat)
  | label
  | span (no : Nat)
  | logTail
  /-- The item of a retrieval. -/
  | item (no : Nat)
  deriving DecidableEq, Repr

/-- An NVMe command (R264, R266, R267). -/
structure NvmeCmd where
  drive : Nat
  /-- 0 the admin queue, 1 to 8 the I/O queues; 0 while it waits for a place in one. -/
  queue : Nat
  cid : Nat
  op : NvmeOp
  lba : Nat
  blocks : Nat
  data : List Byte
  for_ : NvmeFor
  /-- Timebase cycle of its submission. -/
  at_ : Nat
  /-- It has completed with an error once for this range. -/
  retried : Bool
  deriving DecidableEq, Repr

/-- A drive. -/
structure Drive where
  state : DriveState
  width : Nat
  gen : Nat
  vwc : Bool
  slots : Nat
  writeSlot : Nat
  /-- CMD_ERRORS, rc, 15 bits. -/
  cmdErrors : Nat
  /-- What Identify reported, and the label found. -/
  info : Option DriveInfo
  /-- Outside service by UNIT_DRAIN (15 R454). -/
  drained : Bool
  /-- Reset by UNIT_RESET and not readmitted since (15 R451). -/
  inReset : Bool
  /-- The copies A and B of the label as last written to it (Table 9-2), and whether B comes next. -/
  labelA : List Byte
  labelB : List Byte
  labelNext : Bool
  deriving DecidableEq, Repr

/-- A retrieval in progress (R292). -/
structure Retrieval where
  bySpan : Bool
  rate : Nat
  next : Nat
  last : Nat
  dataAddr : Nat
  dataSize : Nat
  /-- The verdict ring: address, size, verdicts written. -/
  verdictAddr : Nat
  verdictSize : Nat
  verdictWritten : Nat
  /-- Verdict of the item whose image awaits its READBACK commit. -/
  awaiting : Option (Nat × Nat)
  /-- The Reads of the next item have been submitted, and whether one has failed. -/
  reading : Bool
  failed : Bool
  deriving DecidableEq, Repr

/-- A RING_START whose Reads are under way: what they return, and STATE before it (R291). -/
structure Starting where
  found : RingFound
  was : RingState
  deriving DecidableEq, Repr

/-- The ring. -/
structure Ring where
  state : RingState
  ringId : BitVec 128
  formatted : Bool
  /-- Ring sealing seed's public key, SEAL_PUB. -/
  sealPub : List Byte
  labelSeq : Nat
  /-- The label is to be rewritten (R268). -/
  labelDue : Bool
  /-- The window table changed in LOW: the label waits for RING_START (10 R299). -/
  labelHeld : Bool
  slots : Nat
  drives : List (Nat × Drive)
  members : List Nat
  nextSsn : Nat
  /-- C of the last segment chained. -/
  chain : List Byte
  span : Option OpenSpan
  /-- Number of the next span to open. -/
  nextSpan : Nat
  segments : List Segment
  openRecs : List OpenRec
  live : List LiveSeg
  closedSpans : List ClosedSpan
  spanRecs : List SpanRec
  windows : List (Nat × Window)
  plans : List (Nat × Word)
  planPending : List (Nat × Due Word)
  trig : List (Nat × Word)
  /-- UNSEALED_MAX in bytes. -/
  unsealedMax : Nat
  /-- U of R282. -/
  u : Nat
  /-- Counts: FRAMES_SKIPPED, LOST_SEGS, SPANS; rc. -/
  counts : Word
  /-- Cycle of the last RING_SKIP of a context. -/
  skipAt : List (Nat × Nat)
  retrieval : Option Retrieval
  starting : Option Starting
  /-- Frames that this cycle's starts have not brought into the ring: they count as skipped when the cycle ends (R294). -/
  skipped : List Skipped
  nvme : List NvmeCmd
  /-- Commands that wait for a place in a queue of their drive (R264). -/
  nvmeWait : List NvmeCmd
  nextCid : Nat
  /-- A drive re-admitted, to join at the next span (R289). -/
  joining : Option Nat
  /-- The ring was in RUN when its last member was lost (R287). -/
  resumeRun : Bool
  /-- Entries that the log had written at the snapshot of the last LOG piece, for the log tail (R290). -/
  snapshot : Nat
  /-- The log tail as last written to the drives. -/
  logTail : List Byte
  deriving DecidableEq, Repr

end Sys2Proof.Machine
end

