-- ==== Sys2Proof/Machine/SystemState.lean ====
section
/-! DEFINITION. State of security, reset and start-up, the energy ledger and power states, the board interfaces and
the thermal sensor (10_energy_ledger.md, 13_security.md, 14_reset_and_boot.md, 16_board_interfaces.md,
17_electrical_and_package.md). Times are timebase cycles (4 ns). -/
namespace Sys2Proof.Machine

/-! Security (13). -/

/-- Lifecycle states (13 Table 13-1). -/
inductive Lifecycle where
  | factory | ownedOpen | ownedSealed | retired
  deriving DecidableEq, Repr

/-- A firmware slot of the boot flash (13 R401, R403, R410). -/
structure FwSlot where
  /-- The image as staged so far, header first. -/
  image : List Byte
  /-- Complete and acceptable: STAGED (R410). -/
  staged : Bool
  deriving DecidableEq, Repr

/-- A copy of the boot record: SEQ, ACTIVE, TRY (13 R402). -/
structure BootRecord where
  seq : Nat
  active : Nat
  tryByte : Nat
  deriving DecidableEq, Repr

/-- A run of the ROLLBACK fuses (13 R412): the count to reach, and the cycle by which the fuse being written is complete. -/
structure FuseRun where
  target : Nat
  doneAt : Nat
  deriving DecidableEq, Repr

/-- An outstanding debug challenge (13 R415). -/
structure Challenge where
  scope : Nat
  bytes : List Byte
  issued : Nat
  deriving DecidableEq, Repr

/-- A good debug response held in LOW until Phokel acknowledges (13 Table 13-14). -/
structure HeldOpening where
  scope : Nat
  /-- SIGNER of the response, which Table 13-13 judges again at the opening. -/
  signer : Nat
  deadline : Nat
  deriving DecidableEq, Repr

/-- An activation in progress (13 Table 13-11). -/
structure Activation where
  /-- The slot activated. -/
  slot : Nat
  start : Nat
  deriving DecidableEq, Repr

/-- Fuses, keys, firmware and debug (13). -/
structure Security where
  lifecycle : Lifecycle
  /-- OWNER_HASH[s]: 32 bytes, or none while empty (Table 13-3). -/
  ownerHash : List (Option (List Byte))
  ownerRevoked : List Bool
  /-- MODEL'S OWN: public key of each installed slot, as its request carried it (notes/assumptions/44). -/
  ownerPub : List (Option (List Byte))
  /-- ROLLBACK, 0 to 63. -/
  rollback : Nat
  /-- ROLLBACK fuses being written (R412). -/
  fuses : Option FuseRun
  /-- Last SEQ accepted for KIND 1 to 4 (R398). -/
  lastSeq : List Nat
  /-- DOOR_SECRET as the configuration area holds it: S ⊕ W, and its check (R400). -/
  doorSecretStored : Option (List Byte × List Byte)
  /-- DOOR_SECRET as unwrapped at this start. -/
  doorSecret : Option (List Byte)
  /-- DEV_SEAL_MW, SEAL_RATE and CAP_MEAS_UF of commissioning as the configuration area holds them (R402; 10 R306). -/
  commissionStored : Option (Nat × Nat × Nat)
  /-- The two copies of the boot record in the flash (R402). -/
  bootA : BootRecord
  bootB : BootRecord
  /-- The boot record in force: SEQ, ACTIVE, TRY (R402). -/
  bootSeq : Nat
  active : Nat
  tryByte : Nat
  slots : List FwSlot
  /-- Running release: MAJOR, MINOR, PATCH (Table 12-5). -/
  major : Nat
  minor : Nat
  patch : Nat
  /-- SVN of the running image. -/
  svn : Nat
  /-- Slot booted. -/
  booted : Nat
  /-- Slot of the other choice was booted (R405). -/
  slotFallback : Bool
  /-- Slot that step 1 of Table 13-8 chose. -/
  chosen : Nat
  /-- TRY, as the boot record held it at this boot. -/
  bootTry : Nat
  /-- M0 to M5, 64 bytes each (R407). -/
  measLog : List (List Byte)
  /-- What the boot ROM reads of the flash at this boot (Table 13-8). -/
  bootFlash : Option FlashRead
  /-- C5. -/
  chain : List Byte
  /-- Scopes open: 0 management cluster, 1 Facet trace, 2 boundary scan (R414). -/
  debugOpen : List Nat
  debugSinceBoot : Bool
  challenge : Option Challenge
  /-- Cycles of the failed responses of the last 60 s, newest first (R419). -/
  debugFails : List Nat
  /-- Failed responses since the last refusal (R415). -/
  failRun : Nat
  /-- Challenges are refused until this cycle. -/
  refuseUntil : Nat
  heldOpening : Option HeldOpening
  /-- The instruction in force in the IEEE 1149.1 port, and whether the last one was refused (R414). -/
  tap : TapInstr
  tapRefused : Bool
  /-- The port has halted the cores of the cluster (R414, Table 13-14). -/
  halted : Bool
  activation : Option Activation
  /-- Violations that are raised once Phokel runs again, oldest first (R416). -/
  violations : List Nat
  deriving DecidableEq, Repr

/-! Reset and start-up (14). -/

/-- BOOT_STATE (14 Table 14-3). -/
inductive BootState where
  | releasing | booting | running | held | failSlots | failFlash | failOptions
  deriving DecidableEq, Repr

/-- Reset control (14). -/
structure ResetCtl where
  /-- RSTRAP as last measured, in ohms; none: open or shorted (R432). -/
  rstrap : Option Nat
  strapCode : Nat
  strapInvalid : Bool
  bootState : BootState
  /-- RELEASED: bit k − 1 for step k. -/
  released : BitVec 12
  /-- DEFERRED: bit k − 1 for step k. -/
  deferred : BitVec 12
  /-- CAUSE (Table 14-2). -/
  cause : BitVec 8
  /-- The step due next, 1 to 12; 13 when all are released. -/
  nextStep : Nat
  /-- Cycle before which the step due next does not begin (R427). -/
  stepAt : Nat
  /-- The step due next waits for its clock-good (R428). -/
  stepWaits : Bool
  /-- Option loading has failed once (R431). -/
  optionRetried : Bool
  /-- The always-on domain is up (R435), and since which cycle (R461). -/
  alwaysOn : Bool
  alwaysOnSince : Nat
  /-- The supplies have fallen below their OFF levels: the chip is OFF until power-on (17 R481). -/
  off : Bool
  /-- Phokel has been started since the last reset. -/
  phokel : Bool
  /-- Expiry of the management watchdog, where it runs (R425). -/
  mcWatch : Option Nat
  /-- Expiry of the system watchdog, where it runs (R425). -/
  sysWatch : Option Nat
  /-- A system-level cause deferred in HOLD until SEAL_DONE (R422). -/
  deferredCause : Option Nat
  /-- Units, by kind and index, whose release waits for clock-good after UNIT_RESET (R434). -/
  unitsWaiting : List (Nat × Nat)
  /-- A system reset that waits for a fuse to be complete, by its cause (13 R412). -/
  resetWaits : Option Nat
  /-- Cycle of the last system reset: a second cause of that cycle resets no more (R436). -/
  resetAt : Option Nat
  /-- A core reset runs: the cluster restarts with the units outside it running (R406). -/
  coreReset : Bool
  deriving DecidableEq, Repr

/-! Energy ledger and power states (10). -/

/-- LSTATE (10 Table 10-6). -/
inductive LState where
  | unconfigured | uncommissioned | commissioned | degraded
  deriving DecidableEq, Repr

/-- A commissioning run (10 R306, R307). -/
inductive Commission where
  /-- HOLDUP_TEST is driven: the cycle of its start, and V_1 in mV. -/
  | capTest (start v1 : Nat)
  /-- Step 1: U grows to the level, in bytes. -/
  | grow (level : Nat) (start : Nat)
  /-- Step 2: the backlog is sealed: its bytes, the SSNs of its segments, the cycle of its start. -/
  | seal (bytes : Nat) (ssns : List Nat) (start : Nat)
  deriving DecidableEq, Repr

/-- The energy ledger and the power states. -/
structure Ledger where
  capUf : Nat
  vFloorMv : Nat
  senseScale : Nat
  etaPm : Nat
  boardSealMw : Nat
  boardRunMw : Nat
  eShutUj : Nat
  marginPct : Nat
  capTolPct : Nat
  /-- PF_FILTER in µs. -/
  pfFilter : Nat
  /-- HOLD_EXIT in ms. -/
  holdExit : Nat
  devSealMw : Nat
  /-- SEAL_RATE in MB/s as commissioned; none: 8000 per member drive. -/
  sealRate : Option Nat
  capMeasUf : Nat
  pstate : PState
  /-- A DEGRADED result stands (R308). -/
  degraded : Bool
  /-- Commissioned by a rehearsal. -/
  commissioned : Bool
  short : Bool
  /-- Cycle since which E_NEED ≤ E_USE has held while SHORT is set. -/
  clearSince : Option Nat
  sealDone : Bool
  /-- Step 4 of Table 10-4 has begun: the log tail is on its way. -/
  tailSent : Bool
  /-- LOW_ACTIONS, rc. -/
  lowActions : Nat
  /-- The last 10 window means, newest first, in 0.1 µV (R301). -/
  means : List Nat
  code : Nat
  vL : Nat
  eAvail : Nat
  eNeed : Nat
  eUse : Nat
  allow : Nat
  measMw : Nat
  capDw : Nat
  planDw : Nat
  /-- Events that wake from LOW (12 POWER_STATE). -/
  wakeEvents : List Nat
  commission : Option Commission
  /-- Reduction steps applied under the cap, oldest first: contexts in the order of their steps (R312). -/
  capSteps : List Nat
  /-- Steps applied under the thermal limit (17 R485). -/
  thermalSteps : List Nat
  /-- Cycle of the last step done or undone. -/
  capSince : Nat
  /-- Entry to LOW in progress: units still to stop (R298). -/
  enteringLow : Bool
  /-- V_1 of a HOLD measurement, in mV, U, and the cycle, all at its start (R308). -/
  holdStart : Option (Nat × Nat × Nat)
  /-- Ports (member 0) that were powered when LOW was entered, and whether each ran or trained (R298, R300). -/
  lowPorts : List (Nat × Bool)
  /-- Steps of R312 are being undone, since a cap has been raised or removed. -/
  capUndo : Bool
  /-- Cycle of the last step done or undone under the thermal limit; 0: none yet (17 R485). -/
  thermalSince : Nat
  deriving DecidableEq, Repr

/-! Board interfaces (16) and the thermal sensor (17 R485). -/

/-- A GPIO (16 Table 16-2). -/
structure Gpio where
  cfg : Word
  /-- A cycle with writes of the register, and its value before them, by which an edge of that cycle is judged (16 R478). -/
  was : Option (Nat × Word)
  /-- Filtered level. -/
  level : Bool
  deriving DecidableEq, Repr

/-- A port's supply on the power chain (16 R468 to R470). -/
structure Supply where
  /-- Commanded supply bit. -/
  want : Bool
  /-- Bit latched in the frame before. -/
  latched : Bool
  /-- Cycle of the latch that switched it on. -/
  onSince : Nat
  /-- The flag read 0 in the last frame, which met the conditions of R470. -/
  suspect : Bool
  deriving DecidableEq, Repr

/-- The two-wire target, the power chain, the GPIOs and the board's signals (16). -/
structure Board where
  /-- ADDR[2:0] as sampled. -/
  addr : BitVec 3
  pointer : Byte
  /-- A transaction is open, and addressed to the target. -/
  twOpen : Bool
  /-- Attn, w1c. -/
  attn : Word
  /-- TwCfg in force: FILTER, ATTN_MASK (rws). -/
  twCfg : Word
  /-- A FILTER written, in force from the next STOP (R463). -/
  filterPending : Option Nat
  /-- Bits that hardware has set in the cycle of the last setting (00 R10): of Attn, and of PwrFault0 to 2. -/
  attnNew : Fresh
  pwrNew : List Fresh
  pwrFault0 : Word
  pwrFault1 : Word
  pwrFault2 : Word
  /-- BoardResp: words held, oldest first, and the word counts of the responses that are held whole. -/
  respWords : List Word
  respLens : List Nat
  /-- Responses that wait for room (R467). -/
  respHeld : List (List Word)
  gpio : List (Nat × Gpio)
  supplies : List (Nat × Supply)
  /-- CHAIN_ERR, consecutive bad frames and consecutive good frames (R470). -/
  chainErr : Bool
  badRun : Nat
  goodRun : Nat
  /-- MODEL'S OWN: the pattern that the last frame latched. -/
  pattern : BitVec 96
  /-- Cycle of the last attention request; none: one is due as soon as the bus is idle (R464). -/
  attnAt : Option Nat
  /-- MODEL'S OWN: attention requests signalled. -/
  attnCount : Nat
  holdupTest : Bool
  /-- BoardStatus.TEMP in °C. -/
  temp : Int
  thermalWarn : Bool
  thermalLimit : Bool
  /-- MODEL'S OWN: the answer of the last two-wire access: acknowledged. -/
  twAck : Bool
  /-- The word fetched for a two-wire read: the register pointed at, or what a read of BoardResp.Data has returned (16 R461). -/
  twRead : Word
  deriving DecidableEq, Repr

end Sys2Proof.Machine
end

