-- ==== Sys2Proof/Machine/TimeState.lean ====
section
/-! DEFINITION. State of Device Time, travel, marks, lighting phase, gates, cues, strobes, the travel history and the
epoch launches (04_travel_and_time.md). Internal travel, speed and phase are exact rationals: the manual keeps
fractions and gives no precision (R106). Instants are counted in 2^-32 ns, the unit of INCREMENT's adjustment (R107). -/
namespace Sys2Proof.Machine

/-- SOURCE of TIME_CFG (Table 4-2). -/
inductive TimeSource where
  | free | pps | as
  deriving DecidableEq, Repr

/-- Discipline states (R109). -/
inductive DiscState where
  | free | acquiring | locked | holdover
  deriving DecidableEq, Repr

/-- Device Time and its discipline (R107 to R112). -/
structure TimeBase where
  /-- Timebase cycles begun since the model's power-on. -/
  cycle : Nat
  /-- Local time at the start of the cycle: the sum of every INCREMENT, in 2^-32 ns. -/
  mono : Nat
  /-- Device Time less local time, in 2^-32 ns: the sum of every step. -/
  stepSum : Int
  /-- INCREMENT less 4 ns, in 2^-32 ns. -/
  adj : Int
  /-- A servo step in ns, and the cycle in which it was written (R128). -/
  stepPending : Option (Int × Nat)
  /-- New Device Times of TIME_SETs in ns, oldest first, each with the cycle in which it executed. -/
  setPending : List (Nat × Nat)
  source : TimeSource
  asPort : Nat
  /-- In ns. -/
  stepThresh : Nat
  /-- In ppm. -/
  slewMax : Nat
  lockThresh : Nat
  ppsDelay : Nat
  /-- In µs. -/
  ppsWindow : Nat
  ppsOutWidth : Nat
  ppsOutEn : Bool
  disc : DiscState
  /-- OFFSET of TimeStatus, 32-bit signed, saturating. -/
  offset : Int
  /-- A measured offset that the servo has not used yet. -/
  newOffset : Option Int
  lockRun : Nat
  /-- Cycle of the last edge or Sync of the source. -/
  lastEdge : Nat
  /-- Local time at which PPS_OUT falls, while it is high (R111). -/
  ppsOutUntil : Option Nat
  /-- Values latched by a read of TimeNowLo: TimeNowHi, TravelNow, TravelStatus (R112). -/
  latchHi : Option Word
  latchTravel : Option Word
  latchStatus : Option Word
  /-- SyncCounts: SYNC_IGNORED rc 39:24, PPS_REJECTED rc 23:8 (R116). -/
  syncCounts : Word
  deriving DecidableEq, Repr

/-- One encoder axis (R114 to R118). -/
structure Axis where
  enable : Bool
  invert : Bool
  pitch : Nat
  wear : Nat
  glitch : Nat
  avg : Nat
  ticksPerRev : Nat
  levelA : Bool
  levelB : Bool
  /-- Local time of the last accepted edge of each input. -/
  lastA : Option Nat
  lastB : Option Nat
  /-- Ticks, newest first: local time and sign; as many as speed and acceleration need. -/
  ticks : List (Nat × Int)
  /-- n of R117. -/
  n : Nat
  /-- Ticks since the speed was last 0, the tick that found it 0 included (R118). -/
  since0 : Nat
  /-- Ticks not yet seen by the travel engine, oldest first. -/
  fresh : List (Nat × Int)
  /-- Sign of the latest tick; 0 before the first. -/
  lastSign : Int
  /-- Net count of ticks since the last ENC_Z edge. -/
  net : Int
  /-- Direction of the last ENC_Z edge; 0 before the first. -/
  lastZ : Int
  /-- Excluded by the index check, and the good revolutions since. -/
  indexExcl : Bool
  indexGood : Nat
  /-- Excluded by fusion. -/
  excluded : Bool
  /-- Local time since which the axis has been outside, or inside, the reference's tolerance. -/
  outSince : Option Nat
  inSince : Option Nat
  /-- Axis[a].Counts (Table 4-12), rc. -/
  counts : Word
  deriving DecidableEq, Repr

/-- Engine states (Table 4-5). -/
inductive TravelState where
  | unconfigured | track | coast | degraded
  deriving DecidableEq, Repr

inductive Hint where
  | none | traction | braking
  deriving DecidableEq, Repr

/-- Direction (R120). -/
inductive Dir where
  | standstill | forward | reverse
  deriving DecidableEq, Repr

/-- One sample of the travel history (R141): Device Time in 2^-32 ns, internal travel, STATE was DEGRADED. -/
structure Sample where
  t : Int
  v : Rat
  degraded : Bool
  deriving DecidableEq, Repr

/-- A mark slew in progress (R124). -/
structure Slew where
  /-- Correction not yet applied, in tu. -/
  rest : Rat
  pct : Nat
  /-- Interrupted by a standstill: the rest is a jump when motion resumes. -/
  waiting : Bool
  deriving DecidableEq, Repr

/-- The travel engine (R113, R118 to R122, R141). -/
structure Travel where
  tolPm : Nat
  /-- In mm/s. -/
  tolFloor : Nat
  excludeTime : Nat
  restoreTime : Nat
  minAgree : Nat
  /-- In 0.01 m/s². -/
  brakeDecel : Nat
  hint : Hint
  coastLimit : Nat
  coastErr : Nat
  aLim : Nat
  revHyst : Nat
  standstill : Nat
  state : TravelState
  braking : Bool
  ref : Nat
  /-- Axes that agree with the reference. -/
  agree : BitVec 4
  /-- Internal travel in tu. -/
  tr : Rat
  /-- Value at the last reference tick or change of reference, and its local time (R121). -/
  anchor : Rat
  anchorT : Nat
  /-- Local time of the last reference tick (R122). -/
  tickT : Nat
  /-- The engine follows the ticks of `ref`. -/
  following : Bool
  /-- Fused speed (tu/s) and acceleration (tu/s²). -/
  speed : Rat
  accel : Rat
  /-- v0, a0 of the last TRACK cycle and its local time (R119). -/
  v0 : Rat
  a0 : Rat
  coastT : Nat
  /-- Distance since the last TRACK cycle, in tu. -/
  coast : Rat
  /-- Local time since which an eligible reference has held, outside TRACK. -/
  agreeSince : Option Nat
  dir : Dir
  extreme : Rat
  /-- Accumulated part of ERR_BOUND. -/
  errAcc : Rat
  slew : Option Slew
  /-- A stepped mark correction of this cycle. -/
  jump : Rat
  /-- Values of TRAVEL_SETs, oldest first, each with the cycle in which it executed (R128). -/
  setPending : List (Int × Nat)
  /-- The limit has been reached (R113). -/
  atLimit : Bool
  /-- Newest first, at most 65 536. -/
  history : List Sample
  /-- Travel at the start of the latest cycles, newest first: local time, and internal travel as jumps since have moved it (R123). -/
  recent : List (Nat × Rat)
  deriving DecidableEq, Repr

/-- USE of a mark (Table 4-8). -/
inductive MarkUse where
  | off | snap | eventOnly
  deriving DecidableEq, Repr

/-- One mark (Table 4-8). -/
structure Mark where
  use : MarkUse
  falling : Bool
  glitch : Nat
  /-- DIR: 0 FORWARD, 1 REVERSE, 2 EITHER. -/
  dir : Nat
  pos : Word
  win : Nat
  tol : Nat
  slewMax : Nat
  slewPct : Nat
  deriving DecidableEq, Repr

/-- Lighting phase (R126, R127), 65 536 units to a period. -/
structure Phase where
  phase : Rat
  /-- The last 8 periods, newest first, in 2^-32 ns. -/
  periods : List Nat
  lastEdge : Option Nat
  lost : Bool
  /-- An edge taken in step 1 of this cycle (R128). -/
  edge : Bool
  deriving DecidableEq, Repr

/-- One gate (R129, Table 4-9). -/
structure Gate where
  w0 : Word
  w1 : Word
  w2 : Word
  isOpen : Bool
  /-- Records written and not yet in effect, oldest first, each with the cycle of its write. -/
  pending : List (Word × Word × Word × Nat)
  /-- MODEs written by cue actions, oldest first, each with its cycle. -/
  pendingMode : List (Nat × Nat)
  deriving DecidableEq, Repr

/-- One cue (R132, Table 4-10). -/
structure Cue where
  /-- The record as CUE_WRITE last wrote it: words 0 to 4. -/
  w0 : Word
  w1 : Word
  w2 : Word
  w3 : Word
  w4 : Word
  /-- Next point: travel or unwrapped, in tu, ns or phase units. -/
  point : Int
  count : Nat
  armed : Bool
  /-- CATCH_UP: the first point passed, which fires in the next cycle (R135). -/
  catchUp : Option Int
  /-- The points that have just fired, locked out under R134. -/
  locked : List Int
  /-- No lattice point lies ahead: a jump under RELATTICE has passed the one point of a cue with PITCH 0 (R128). -/
  spent : Bool
  /-- Points fired since arming by a cue with RELATTICE, as runs of the lattice: lowest and highest (R128, CUE_REFIRED). -/
  fired : List (Int × Int)
  skipped : Nat
  gated : Nat
  /-- A record written by command in this cycle (step 6 of Table 4-1). -/
  written : Option (List Word)
  /-- Arming by the router or an epoch launch in this cycle; by a launch, with its edge E in ns. -/
  arm : Bool
  armEdge : Option Nat
  deriving DecidableEq, Repr

/-- One strobe output (R138, 16 R473). -/
structure Strobe where
  /-- Cfg in force (Table 16-5); PULSES rc. -/
  cfg : Word
  /-- A write that waits for the pulse in progress to end. -/
  cfgPending : Option Word
  /-- Pulses planned: start in Device Time ns, width in ns; earliest first. -/
  planned : List (Nat × Nat)
  /-- Device Time in ns at which the output falls, while a pulse is in progress. -/
  highUntil : Option Nat
  deriving DecidableEq, Repr

/-- One epoch set (R143). -/
structure EpochSet where
  defined : Bool
  /-- In ns. -/
  lead : Nat
  syncLead : Nat
  syncOut : Bool
  syncLag : Nat
  members : List Word
  /-- Armed from SYNC_IN (R145). -/
  armed : Bool
  deriving DecidableEq, Repr

/-- A launch on its way to its edge (R143, R144). -/
structure Launch where
  set : Nat
  /-- E, Device Time in ns. -/
  edge : Nat
  epoch : Nat
  members : List Word
  /-- By member: not excluded at planning. -/
  planned : List Bool
  /-- The SYNC_OUT pulse has been planned. -/
  syncOut : Bool
  /-- The command that waits for EPOCH_DONE (Wait.epochLaunch), if there is one. -/
  ticket : Option Nat
  /-- A launch of Phokel's own, for units that it readmits: kind and index (15 R451, R453). -/
  own : Option (Nat × Nat)
  deriving DecidableEq, Repr

/-- A trigger that a cue has asked of a port and that waits to be planned (03 R95). -/
structure TrigReq where
  port : Nat
  trigId : Nat
  /-- The fire instant in ns of Device Time: TRIG_LEAD joins it when it is planned (03 R95, R105). -/
  fire : Nat
  /-- Cue number, for the order within a run (R28). -/
  cue : Nat
  deriving DecidableEq, Repr

/-- Everything of chapter 4. -/
structure TimeUnits where
  axes : List (Nat × Axis)
  travel : Travel
  marks : List (Nat × Mark)
  phase : Phase
  gates : List (Nat × Gate)
  cues : List (Nat × Cue)
  strobes : List (Nat × Strobe)
  sets : List (Nat × EpochSet)
  /-- EPOCH, 8 bits. -/
  epoch : Nat
  launches : List Launch
  /-- SYNC_OUT pulses planned: start in ns of Device Time. -/
  syncPlanned : List Nat
  /-- SYNC_OUT is high until this Device Time in ns. -/
  syncHigh : Option Nat
  trigReqs : List TrigReq
  deriving DecidableEq, Repr

end Sys2Proof.Machine
end

