-- ==== Sys2Proof/Machine/State.lean ====
section
/-! DEFINITION. The state of the block, its faults and refusals, and the state right after power-on reset. Numbered
units stand in sparse banks: a number that is not listed has the unit's reset value (the `reset` of its kind). -/
namespace Sys2Proof.Machine

/-- Faults. -/
inductive Fault where
  /-- An access of external memory beyond the installed payload (01 R36, Table 0-1). Safe: the machine stops. No
  command of the model forms such an address, since every address it forms is one that the device allots itself. -/
  | extMemHole (addr : Nat)
  deriving DecidableEq, Repr

/-- Refusals: the model does not perform the command. -/
inductive Refusal where
  /-- The command has no meaning in the model. -/
  | notModelled (mnemonic : String)
  /-- The operands are not those of the form that the constructor names (a selector bit of the payload says
  otherwise), or no sender can form them. Raised by the mailbox meanings of commands with several forms. Safe. (log 93 DEDUCED) -/
  | illFormed (what : String)
  /-- A factory test command in lifecycle state FACTORY: 12 R390 does not define it further. Safe. (log 95 DEDUCED) -/
  | factoryTest (opcode : Nat)
  deriving DecidableEq, Repr

/-- The state of the block. -/
structure State where
  variant : Variant
  time : TimeBase
  tu : TimeUnits
  ports : List (Nat × Port)
  ctxs : List (Nat × Context)
  facets : List (Nat × Facet)
  accords : List (Nat × Accord)
  checks : List (Nat × Check)
  service : Service
  bb : Backbone
  ring : Ring
  ledger : Ledger
  board : Board
  sec : Security
  rst : ResetCtl
  host : HostLink
  engines : List (Nat × Engine)
  /-- Channel ch of Engine e at number 32·e + ch. -/
  chans : List (Nat × Channel)
  router : Router
  log : TroubleLog
  mail : Mailbox
  /-- External memory by word address (01 R36), where it differs from 0. -/
  extMem : List (Nat × Word)
  /-- Parity error counters by the failing unit's ID of Table 11-9, each 40 bits, saturating (01 R38). -/
  errors : List (Nat × Nat)
  /-- Fields that a read clears, by register, as they stood when the timebase cycle in progress began (00 R10). -/
  rcOld : List (Reg × Word)
  /-- MODEL'S OWN: free values drawn so far. (log 1 DESIGN CHOICE) -/
  freeCount : Nat
  /-- MODEL'S OWN: commands that wait, first in, first out. (log 2 DESIGN CHOICE) -/
  pending : List Instr
  deriving DecidableEq, Repr

/-! Reset values of the numbered units. -/

/-- Device Time and its discipline after power-on reset (Tables 4-2 to 4-4, R107). -/
def TimeBase.reset : TimeBase :=
  { cycle := 0, mono := 0, stepSum := 0, adj := 0, stepPending := none, setPending := [], source := .free, asPort := 0
    stepThresh := 1000000, slewMax := 100, lockThresh := 100, ppsDelay := 0, ppsWindow := 100, ppsOutWidth := 100000
    ppsOutEn := false, disc := .free, offset := 0, newOffset := none, lockRun := 0, lastEdge := 0, ppsOutUntil := none
    latchHi := none, latchTravel := none, latchStatus := none, syncCounts := 0 }

/-- An axis after system reset (Table 4-6, Table 4-12): Axis 0 enabled. -/
def Axis.reset (a : Nat) : Axis :=
  { enable := a == 0, invert := false, pitch := 0, wear := 0x800000, glitch := 4, avg := 4, ticksPerRev := 0
    levelA := false, levelB := false, lastA := none, lastB := none, ticks := [], n := 0, since0 := 0, fresh := [], lastSign := 0
    net := 0, lastZ := 0, indexExcl := false, indexGood := 0, excluded := false, outSince := none, inSince := none
    counts := 0 }

/-- The travel engine after power-on reset (Tables 4-5, 4-7, R113). -/
def Travel.reset : Travel :=
  { tolPm := 20, tolFloor := 140, excludeTime := 20, restoreTime := 500, minAgree := 2, brakeDecel := 10, hint := .none
    coastLimit := 3200000, coastErr := 20, aLim := 250, revHyst := 64, standstill := 500, state := .unconfigured
    braking := false, ref := 0, agree := 0, tr := 0, anchor := 0, anchorT := 0, tickT := 0, following := false
    speed := 0, accel := 0, v0 := 0, a0 := 0, coastT := 0, coast := 0, agreeSince := none, dir := .standstill
    extreme := 0, errAcc := 0, slew := none, jump := 0, setPending := [], atLimit := false, history := [], recent := [] }

/-- A mark after system reset (Table 4-8). -/
def Mark.reset (_ : Nat) : Mark :=
  { use := .off, falling := false, glitch := 25, dir := 2, pos := 0, win := 128000, tol := 640, slewMax := 6400, slewPct := 10 }

def Phase.reset : Phase := { phase := 0, periods := [], lastEdge := none, lost := false, edge := false }

/-- A gate after system reset (Table 4-9): forced closed. -/
def Gate.reset (_ : Nat) : Gate :=
  { w0 := 0, w1 := 0, w2 := 0x2000000000, isOpen := false, pending := [], pendingMode := [] }

/-- A cue after system reset (Table 4-10). -/
def Cue.reset (_ : Nat) : Cue :=
  { w0 := 0, w1 := 0, w2 := 0, w3 := 0, w4 := 0, point := 0, count := 0, armed := false, catchUp := none, locked := [], spent := false
    fired := [], skipped := 0, gated := 0, written := none, arm := false, armEdge := none }

/-- A strobe after system reset (16 Table 16-5): ROUTER_WIDTH 1. -/
def Strobe.reset (_ : Nat) : Strobe := { cfg := 0x400000, cfgPending := none, planned := [], highUntil := none }

def EpochSet.reset (_ : Nat) : EpochSet :=
  { defined := false, lead := 0, syncLead := 0, syncOut := false, syncLag := 0, members := [], armed := false }

def TimeUnits.reset : TimeUnits :=
  { axes := [], travel := .reset, marks := [], phase := .reset, gates := [], cues := [], strobes := [], sets := []
    epoch := 0, launches := [], syncPlanned := [], syncHigh := none, trigReqs := [] }

/-- A port after system reset (Tables 2-4, 2-8, 2-9, 3-12 to 3-15, 5-9, 5-10). -/
def Port.reset (_ : Nat) : Port :=
  { rateMax := 2, precodePolicy := 1, idleOk := true, trainRetries := 3, announceWait := 200
    state := .off, rate := 0, precode := false, announced := false, eyeH := 0, eyeW := 0, trains := 0, txPreset := 0
    lastFail := 0, lineEvents := 0, training := none, seed := 0, scram := 0, prevP := 0, idleAllowed := false
    wakeAt := none, sinceFill := 0, sent := [], disparity := false, txCode := 0, txAt := 0, txItem := [], wakeDue := false, replayDue := []
    txFrames := [], launchDue := false, quietUntil := 0, idleSkew := none, bond := 0, bondPos := 0, wordLock := false, nextBsn := 0
    frameCount := 0, ownCount := 0, adopt := false, resync := false, lockFaults := 0, unplaced := 0, blocks := []
    rxCounts := 0, trigCfg := 0x07D0000000, hdrCounts := 0, packet := none, seekFhp := false
    runs := [], nextTag := 0, commands := [], trigSent := [], trigSeen := [], trigMaps := []
    epochMap := none, ingestCounts := 0, unboundRaised := false, peak := 0, lineSigSeq := 0, lineSigCrc := 0
    patGen0 := 0x02C1E00000, patGen1 := 0x08701FA400, patGen2 := 0, patPending := none
    patGen0Used := 0x02C1E00000, patHeight := 0x870, patValue := 0, patK := 0, patY := 0, patNext := 0, recovered := none, recovering := 0, cycleEnd := none, trainDue := false
    streamStopped := false, mapDue := none, drainBy := none, inReset := false }

/-- Loops before their first setting: off. (log 60 DESIGN CHOICE) -/
def LoopCfg.reset : LoopCfg :=
  { aeEn := false, awbEn := false, div := 0, ahead := 1, targetY := 0, expMax := 0, expAddr := 0, expBytes := 0
    gainAddr := 0, gainBytes := 0, target := 0, gainMax := 0 }

/-- Stamp settings of a new binding: ARRIVAL. (log 60 DESIGN CHOICE) -/
def StampCfg.reset : StampCfg :=
  { mode := 3, embExp := false, embGain := false, bigEndian := false, exposure := 0, expOffset := 0, readoutLat := 0
    rowTime := 0, expByte := 0, expLen := 0, gainByte := 0, gainLen := 0, expScale := 0, gainScale := 0 }

/-- An output after system reset and after CTX_BIND (07 Tables 7-2, 7-11). -/
def Output.reset (_ : Nat) : Output :=
  { cfg := List.replicate 8 0, pending := none, counts := 0, rsCounts := 0, dropsHost := 0, dropsRing := 0
    coefH := [], coefV := [], ring := none, lastRow := none }

/-- A context after system reset (05 Tables 5-1, 5-7, 5-8; 06 Table 6-12). -/
def Context.reset (_ : Nat) : Context :=
  { bind0 := 0, bind1 := 0, bind2 := 0, bind3 := 0, state := .unbound, ringWords := 0, home := 0x1F, slot := 0
    boundAt := 0, unbindPending := false, unbindAt := 0, movePending := none, shedNow := false, victim := false, rateHigh := false, lines := 0
    frameNo := 0, nextNo := 0, ring := [], frames := [], counts0 := 0, counts1 := 0, lastLine := 0, embNext := [], embBad := false
    win1s := 0, win1ms := 0, secFrom := 0, msRead := 0, msFrom := none, rateOkSince := 0, deficit := 0, inForce := [], shadow := [], shadeA := none, shadeB := none
    defectA := none, defectB := none, target := 0, commitPending := false, commitAt := 0, atFrame := false, result := 0
    paramFrame := 0, pipeCounts := 0, statsSeq := 0, statsAck := 0, statsDue := [], lc := none
    statsRing := none, outs := [], sources := [], loop := .reset, loopCount := 0, loopSet := none, stampCfg := .reset
    stampPending := none, reduction := 0, capReduction := 0, capDue := none, reductionPending := none }

/-- A Facet after system reset (05 Table 5-10, 06 Table 6-11): weights 8, 4, 2, 1. (log 137 DESIGN CHOICE) -/
def Facet.reset (_ : Nat) : Facet :=
  { state := .run, launched := false, reserve := false, arb := 0x8421000000, counts := 0, shedding := false, last := 0, visiting := none
    conceals := [], testEnd := none, busy := [] }

/-- A source slot after system reset (07 Table 7-6): ALPHA 0xFF. -/
def Source.reset (_ : Nat) : Source :=
  { cfg := [0x0007F80000, 0, 0], pending := none, meshA := none, meshB := none, usedSeq := 0, age := 0, stale := false }

/-- An Accord after system reset (07 Tables 7-5, 7-12): STALE_FRAMES 3. -/
def Accord.reset (_ : Nat) : Accord :=
  { state := .off, canvas := [0x6000, 0, 0, 0, 0], pending := none, sources := [], overlay0 := 0, overlay1 := 0
    overlayUse := 0, overlayPending := none, counts := 0, frameNo := 0, lastStart := 0, dueAt := [], lockAt := 0, lockStale := false, ring := none
    dropsHost := 0, launched := false, late := false }

/-- A check unit after system reset (07 Table 7-9): FROZEN_N 3. -/
def Check.reset (_ : Nat) : Check :=
  { cfg := 0x18000, pending := none, expected := List.replicate 16 0, expectedWas := [], seq := 0, lastCrc := 0, counts := 0, prev := none
    frozenRaised := false, firstFrame := 0 }

/-- BB_PORT_CFG as the model presumes it before the first one (08 R244, R254, R258; notes/assumptions/3): DOOR_TC 1,
STAGE_BYTES 32 MiB, DOOR_UDP 48640, the default PCP map, everything else 0. (log 3 DESIGN CHOICE) -/
def bbCfgReset : List Word := [0x0020020000, 0, 0x00BE000000, 0x2139770000, 0, 0, 0, 0, 0]

/-- Gate lists before BB_GCL_SET: none in force. (log 60 DESIGN CHOICE) -/
def GclOper.reset : GclOper := { slot := 0, enable := false, listLen := 1, cycleTime := 1000, baseTime := 0 }

/-- A backbone port before BB_PORT_CFG (R244, R254, R258). (log 3 DESIGN CHOICE) -/
def Bb.reset (_ : Nat) : Bb :=
  { link := false, cfg := bbCfgReset, slotA := { entries := [] }, slotB := { entries := [] }, oper := .reset, change := none
    index := 0, entryEnd := 0, slopes := [], credits := [], creditAt := 0, staged := [], packets := [], busyUntil := 0, txTc := 0
    txEnd := 0, txOver := false, downAt := 0
    kept := 0, keptSince := 0, counts := 0, doorCounts := 0, sent := [] }

/-- A stream after system reset (08 Table 8-3). -/
def Stream.reset (_ : Nat) : Stream :=
  { cfg := [0, 0x40C1011770, 0, 0, 0, 0, 0, 0, 0, 0x09C4000000], pending := none, counts := 0, counts2 := 0, rtpSeq := 0
    drops := 0, resume := false }

/-- The backbone after system reset. (log 60 DESIGN CHOICE) -/
def Backbone.reset : Backbone :=
  { bbs := [], streams := [], sessions := [], nextSession := 1, hellos := 0, helloSince := 0, nextFrame := 0, pdelayAt := 0, pdelaySeq := 0
    peer := { reqAt := 0, resp := none, last := none, rate := 1, delay := 0 } }

def Drive.reset (_ : Nat) : Drive :=
  { state := .absent, width := 0, gen := 0, vwc := false, slots := 0, writeSlot := 0, cmdErrors := 0, info := none, drained := false, inReset := false
    labelA := [], labelB := [], labelNext := false }

/-- The ring after system reset (09 Table 9-11, R282). -/
def Ring.reset : Ring :=
  { state := .off, ringId := 0, formatted := false, sealPub := [], labelSeq := 0, labelDue := false, labelHeld := false, slots := 0, drives := []
    members := [], nextSsn := 0, chain := [], span := none, nextSpan := 0, segments := [], openRecs := []
    live := [], closedSpans := [], spanRecs := [], windows := [], plans := [], planPending := [], trig := []
    unsealedMax := 512 * 1048576, u := 0, counts := 0, skipAt := [], retrieval := none, starting := none, skipped := [], nvme := [], nvmeWait := [], nextCid := 0
    joining := none, resumeRun := false, snapshot := 0, logTail := [] }

/-- The ledger after system reset (10 Tables 10-3, 10-6). -/
def Ledger.reset : Ledger :=
  { capUf := 0, vFloorMv := 0, senseScale := 0, etaPm := 900, boardSealMw := 0, boardRunMw := 0, eShutUj := 100000
    marginPct := 25, capTolPct := 10, pfFilter := 5, holdExit := 100, devSealMw := 24000, sealRate := none, capMeasUf := 0
    pstate := .run, degraded := false, commissioned := false, short := false, clearSince := none, sealDone := false, tailSent := false
    lowActions := 0, means := [], code := 0, vL := 0, eAvail := 0, eNeed := 0, eUse := 0, allow := 0, measMw := 0
    capDw := 0, planDw := 0, wakeEvents := [], commission := none, capSteps := [], thermalSteps := [], capSince := 0
    enteringLow := false, holdStart := none, lowPorts := [], capUndo := false, thermalSince := 0 }

/-- A GPIO after system reset (16 Table 16-2): GLITCH 25. -/
def Gpio.reset (_ : Nat) : Gpio := { cfg := 0x0032000000, was := none, level := false }

def Supply.reset (_ : Nat) : Supply := { want := false, latched := false, onSince := 0, suspect := false }

/-- The board interfaces after power-on reset (16 Table 16-2): FILTER 3, every Attn bit enabled. (log 61 DESIGN CHOICE) -/
def Board.reset : Board :=
  { addr := 0, pointer := 0, twOpen := false, attn := 0, twCfg := 0x1BFF000000, filterPending := none
    attnNew := { cycle := 0, bits := 0 }, pwrNew := List.replicate 3 { cycle := 0, bits := 0 }, pwrFault0 := 0
    pwrFault1 := 0, pwrFault2 := 0, respWords := [], respLens := [], respHeld := [], gpio := [], supplies := []
    chainErr := false, badRun := 0, goodRun := 0, pattern := 0, attnAt := none, attnCount := 0
    holdupTest := false, temp := 0, thermalWarn := false, thermalLimit := false
    twAck := false, twRead := 0 }

/-- Security at power-on as a device leaves Tarino (13 R392): OWNED-OPEN, no owner key; release 3.0.0 in slot A
(notes/assumptions/4). (log 4 DESIGN CHOICE) -/
def Security.reset : Security :=
  { lifecycle := .ownedOpen, ownerHash := [none, none, none, none], ownerRevoked := [false, false, false, false], ownerPub := [none, none, none, none]
    rollback := 0, lastSeq := [0, 0, 0, 0], doorSecretStored := none, doorSecret := none, fuses := none, commissionStored := none
    bootA := { seq := 0, active := 0, tryByte := 0xFF }, bootB := { seq := 0, active := 0, tryByte := 0xFF }, bootSeq := 0, active := 0
    tryByte := 0xFF, slots := [{ image := [], staged := false }, { image := [], staged := false }], major := 3, minor := 0
    patch := 0, svn := 0, booted := 0, slotFallback := false, chosen := 0, bootTry := 0xFF, measLog := [], bootFlash := none
    chain := List.replicate 64 0, debugOpen := [], debugSinceBoot := false, challenge := none, debugFails := [], failRun := 0
    refuseUntil := 0, heldOpening := none, tap := .idcode, tapRefused := false, halted := false, activation := none, violations := [] }

/-- Reset control at power-on (14 Tables 14-2, 14-3): CAUSE POWER_ON, nothing released. (log 61 DESIGN CHOICE) -/
def ResetCtl.reset : ResetCtl :=
  { rstrap := some 1000, strapCode := 0, strapInvalid := false, bootState := .releasing, released := 0, deferred := 0
    cause := 0x01, nextStep := 1, stepAt := 0, stepWaits := false, optionRetried := false, alwaysOn := false, alwaysOnSince := 0
    off := false, phokel := false, mcWatch := none, sysWatch := none, deferredCause := none, unitsWaiting := []
    resetWaits := none, resetAt := none, coreReset := false }

/-- A record ring after a reset (11 Table 11-8): SIZE 4. -/
def RecRing.reset : RecRing :=
  { baseLo := 0, baseHi := 0x1000000000, writeIdx := 0, readIdx := 0, drops := 0, slotDrops := 0 }

/-- The host link after a reset (11 Tables 11-3, 11-8, 11-17). (log 172 PRESUMED) -/
def HostLink.reset : HostLink :=
  { up := false, busMaster := false, d3hot := false, width := 0, rate := 0, mps := 0, ctoValue := 0, mrrs := 512, aspmL1 := false, aer := 0, retrains := 0
    regFault := 0, regFaultWas := none, turned := none, rec0 := .reset, rec1 := .reset, held := [], writes := [], lastRead := 0 }

def Engine.reset (_ : Nat) : Engine :=
  { halted := false, cause := 0, activeCh := 0, outstanding := 0, forcePending := false, readbacks := []
    haltCycle := 0, inReset := false }

/-- A channel after a reset (11 Table 11-16): SIZE 2; READBACK 1 on Channel 31 only. -/
def Channel.reset (k : Nat) : Channel :=
  { enable := false, dir := 0, ringMem := false, size := 2, readback := k % 32 == 31, paced := false, prio := 0
    output := false, context := 0, out := 0, ringLo := 0, ringHi := 0, tagLo := 0, tagHi := 0, state := .disabled
    head := 0, counts := 0, fetched := [], fetching := false, again := false, kept := false, released := false
    stopPending := false, inFlight := false, transfers := [], done := 0, frame := none, lastAddr := 0, unacked := false
    skipOwn := false, owed := none, started := none }

/-- A vector after a reset (11 R325, Table 11-13): masked, as the PCIe specification resets it. (log 8 DESIGN CHOICE) -/
def Vector.reset (_ : Nat) : Vector :=
  { addrLo := 0, addrHi := 0, msgData := 0, control := 1, pendingBit := false, cfg := 0, holdEnd := 0, merged := [] }

def Router.reset : Router := { routes := [], oldRoutes := [], vectors := [], queue := [] }

def TroubleLog.reset : TroubleLog := { entries := [], next := 0, fill := 0, wraps := 0, written := 0, queue := [], gap := false }

/-- A note queue after system reset (12 Table 12-2): THRESH 0x20. -/
def Note.reset (_ : Nat) : Note :=
  { words := [], thresh := 0x20, refused := 0, openLeft := 0, openStored := 0, discard := 0, lost := [], turned := none }

def Mailbox.reset : Mailbox :=
  { notes := [], taking := none, inflight := [], shed := 0, shedSince := 0, curSession := 0, accepted := none, mute := false, mcRestarts := 0
    loopHalvings := [0, 0, 0, 0], loopSince := 0 }

/-- The block at the moment of power-on reset. (log 61 DESIGN CHOICE) -/
def State.reset : State :=
  { variant := .gv9640, time := .reset, tu := .reset, ports := [], ctxs := [], facets := [], accords := [], checks := [], service := { steps := [], undoAt := none }
    bb := .reset, ring := .reset, ledger := .reset, board := .reset, sec := .reset, rst := .reset, host := .reset
    engines := [], chans := [], router := .reset, log := .reset, mail := .reset, extMem := [], errors := [], rcOld := [], freeCount := 0
    pending := [] }

end Sys2Proof.Machine
end

