-- ==== Sys2Proof/Machine/Ops.lean ====
section
/-! DEFINITION. The named operations over the state: numbered units and their limits by variant (00_scope.md R3, R4),
the clock and its stamps (R14, R15), values left open, external memory (01_architecture.md R36), and the posted
writes of the host link (11_host_link_and_dma.md R318). -/
namespace Sys2Proof.Machine

/-! Limits of Table 0-1. -/

def Variant.ports : Variant → Nat
  | .gv9640 => 96 | .gv4840 => 48 | .gv2440 => 24
def Variant.facets : Variant → Nat
  | .gv9640 => 24 | .gv4840 => 12 | .gv2440 => 6
def Variant.contexts : Variant → Nat
  | .gv9640 => 144 | .gv4840 => 72 | .gv2440 => 36
def Variant.accords : Variant → Nat
  | .gv9640 => 4 | .gv4840 => 2 | .gv2440 => 1
def Variant.backbone : Variant → Nat
  | .gv9640 => 4 | .gv4840 => 2 | .gv2440 => 2
def Variant.drives : Variant → Nat
  | .gv9640 => 4 | .gv4840 => 2 | .gv2440 => 2
/-- VARIANT of ChipId (Table 0-2). -/
def Variant.code : Variant → Nat
  | .gv9640 => 1 | .gv4840 => 2 | .gv2440 => 3
/-- External-memory budget in MB/s (R32). -/
def Variant.memBudget : Variant → Nat
  | .gv9640 => 191000 | .gv4840 => 95500 | .gv2440 => 95500

/-- Words of external memory (R3, R36): 12 to a 64-byte burst of the 128 or 64 GiB that the variant takes at most. -/
def Variant.extWords : Variant → Nat
  | .gv9640 => 2 ^ 31 * 12 | .gv4840 => 2 ^ 30 * 12 | .gv2440 => 2 ^ 30 * 12

/-- A backbone or management port that the die has: Bb 4 is present in every variant. -/
def Variant.hasBb (v : Variant) (p : Nat) : Bool := decide (p < v.backbone) || p == 4

/-- ChipId (Table 0-2). -/
def State.chipId (s : State) : Word := mkWord [(39, 24, 0x9640), (23, 16, s.variant.code), (15, 8, 1)]

/-! Records accepted and not yet in force. -/

/-- A record is accepted. (log 20 DEDUCED) -/
def Due.accept (now : Nat) (old : Option (Due α)) (v : α) : Due α :=
  { value := v, cycle := now, before := old.bind fun d => if d.cycle = now then d.before else some d.value }

/-- The record that a start of this cycle applies: one accepted in the cycle of the start waits for the next (01 R28). -/
def Due.ready (now : Nat) (d : Due α) : Option α := if d.cycle = now then d.before else some d.value

/-- What still waits after a start of this cycle. -/
def Due.rest (now : Nat) (d : Due α) : Option (Due α) := if d.cycle = now then some { d with before := none } else none

/-- The record that counts for admission: accepted, else in force. -/
def Due.planned (d : Option (Due α)) (cfg : α) : α := match d with | some d => d.value | none => cfg

/-- Every record that waits. -/
def Due.waiting (d : Option (Due α)) : List α := match d with | some d => d.value :: d.before.toList | none => []

/-! Units by number. -/

def State.port (s : State) (n : Nat) : Port := bankGet Port.reset s.ports n
def State.setPort (s : State) (n : Nat) (p : Port) : State := { s with ports := bankSet Port.reset s.ports n p }
def State.modPort (s : State) (n : Nat) (f : Port → Port) : State := s.setPort n (f (s.port n))

def State.ctx (s : State) (c : Nat) : Context := bankGet Context.reset s.ctxs c
def State.setCtx (s : State) (c : Nat) (x : Context) : State := { s with ctxs := bankSet Context.reset s.ctxs c x }
def State.modCtx (s : State) (c : Nat) (f : Context → Context) : State := s.setCtx c (f (s.ctx c))

def State.facet (s : State) (f : Nat) : Facet := bankGet Facet.reset s.facets f
def State.setFacet (s : State) (f : Nat) (x : Facet) : State := { s with facets := bankSet Facet.reset s.facets f x }
def State.modFacet (s : State) (f : Nat) (g : Facet → Facet) : State := s.setFacet f (g (s.facet f))

def State.accord (s : State) (a : Nat) : Accord := bankGet Accord.reset s.accords a
def State.setAccord (s : State) (a : Nat) (x : Accord) : State := { s with accords := bankSet Accord.reset s.accords a x }
def State.modAccord (s : State) (a : Nat) (f : Accord → Accord) : State := s.setAccord a (f (s.accord a))
/-- A write of EXPECTED[i]. -/
def Check.expect (now i : Nat) (v : BitVec 32) (x : Check) : Check :=
  let was := x.expectedWas.filter fun e => e.1 == now
  { x with expected := x.expected.set i v
           expectedWas := if was.any fun e => e.2.1 == i then was else was ++ [(now, i, x.expected.getD i 0)] }

/-- EXPECTED[i] as a comparison of this cycle uses it (07 R234, R238). -/
def Check.expectedAt (x : Check) (now i : Nat) : BitVec 32 :=
  match x.expectedWas.find? fun e => e.1 == now && e.2.1 == i with | some e => e.2.2 | none => x.expected.getD i 0

def Accord.source (a : Accord) (k : Nat) : Source := bankGet Source.reset a.sources k
def Accord.setSource (a : Accord) (k : Nat) (x : Source) : Accord := { a with sources := bankSet Source.reset a.sources k x }

def State.check (s : State) (k : Nat) : Check := bankGet Check.reset s.checks k
def State.setCheck (s : State) (k : Nat) (x : Check) : State := { s with checks := bankSet Check.reset s.checks k x }
def State.modCheck (s : State) (k : Nat) (f : Check → Check) : State := s.setCheck k (f (s.check k))

def Context.out (x : Context) (o : Nat) : Output := bankGet Output.reset x.outs o
def Context.setOut (x : Context) (o : Nat) (v : Output) : Context := { x with outs := bankSet Output.reset x.outs o v }
def Context.modOut (x : Context) (o : Nat) (f : Output → Output) : Context := x.setOut o (f (x.out o))

def State.bbp (s : State) (p : Nat) : Bb := bankGet Bb.reset s.bb.bbs p
def State.setBb (s : State) (p : Nat) (x : Bb) : State := { s with bb := { s.bb with bbs := bankSet Bb.reset s.bb.bbs p x } }
def State.modBb (s : State) (p : Nat) (f : Bb → Bb) : State := s.setBb p (f (s.bbp p))
def State.stream (s : State) (k : Nat) : Stream := bankGet Stream.reset s.bb.streams k
def State.setStream (s : State) (k : Nat) (x : Stream) : State :=
  { s with bb := { s.bb with streams := bankSet Stream.reset s.bb.streams k x } }
def State.modStream (s : State) (k : Nat) (f : Stream → Stream) : State := s.setStream k (f (s.stream k))

def Ring.drive (r : Ring) (d : Nat) : Drive := bankGet Drive.reset r.drives d
def Ring.setDrive (r : Ring) (d : Nat) (x : Drive) : Ring := { r with drives := bankSet Drive.reset r.drives d x }
def State.modRing (s : State) (f : Ring → Ring) : State := { s with ring := f s.ring }
def State.modDrive (s : State) (d : Nat) (f : Drive → Drive) : State := s.modRing fun r => r.setDrive d (f (r.drive d))
def Ring.plan (r : Ring) (c : Nat) : Word := bankGet (fun _ => 0) r.plans c
def Ring.trigOf (r : Ring) (i : Nat) : Word := bankGet (fun _ => 0) r.trig i

def State.axis (s : State) (a : Nat) : Axis := bankGet Axis.reset s.tu.axes a
def State.setAxis (s : State) (a : Nat) (x : Axis) : State := { s with tu := { s.tu with axes := bankSet Axis.reset s.tu.axes a x } }
def State.modAxis (s : State) (a : Nat) (f : Axis → Axis) : State := s.setAxis a (f (s.axis a))
def State.mark (s : State) (k : Nat) : Mark := bankGet Mark.reset s.tu.marks k
def State.setMark (s : State) (k : Nat) (x : Mark) : State := { s with tu := { s.tu with marks := bankSet Mark.reset s.tu.marks k x } }
def State.gate (s : State) (g : Nat) : Gate := bankGet Gate.reset s.tu.gates g
def State.setGate (s : State) (g : Nat) (x : Gate) : State := { s with tu := { s.tu with gates := bankSet Gate.reset s.tu.gates g x } }
def State.modGate (s : State) (g : Nat) (f : Gate → Gate) : State := s.setGate g (f (s.gate g))
def State.cue (s : State) (c : Nat) : Cue := bankGet Cue.reset s.tu.cues c
def State.setCue (s : State) (c : Nat) (x : Cue) : State := { s with tu := { s.tu with cues := bankSet Cue.reset s.tu.cues c x } }
def State.modCue (s : State) (c : Nat) (f : Cue → Cue) : State := s.setCue c (f (s.cue c))
def State.strobe (s : State) (k : Nat) : Strobe := bankGet Strobe.reset s.tu.strobes k
def State.setStrobe (s : State) (k : Nat) (x : Strobe) : State :=
  { s with tu := { s.tu with strobes := bankSet Strobe.reset s.tu.strobes k x } }
def State.modStrobe (s : State) (k : Nat) (f : Strobe → Strobe) : State := s.setStrobe k (f (s.strobe k))
def State.epochSet (s : State) (k : Nat) : EpochSet := bankGet EpochSet.reset s.tu.sets k
def State.setEpochSet (s : State) (k : Nat) (x : EpochSet) : State :=
  { s with tu := { s.tu with sets := bankSet EpochSet.reset s.tu.sets k x } }

def State.engine (s : State) (e : Nat) : Engine := bankGet Engine.reset s.engines e
def State.setEngine (s : State) (e : Nat) (x : Engine) : State := { s with engines := bankSet Engine.reset s.engines e x }
def State.modEngine (s : State) (e : Nat) (f : Engine → Engine) : State := s.setEngine e (f (s.engine e))
def State.chan (s : State) (e ch : Nat) : Channel := bankGet Channel.reset s.chans (32 * e + ch)
def State.setChan (s : State) (e ch : Nat) (x : Channel) : State :=
  { s with chans := bankSet Channel.reset s.chans (32 * e + ch) x }
def State.modChan (s : State) (e ch : Nat) (f : Channel → Channel) : State := s.setChan e ch (f (s.chan e ch))

def Router.route (r : Router) (id : Nat) : Word := bankGet (fun _ => 0) r.routes id
def State.vector (s : State) (v : Nat) : Vector := bankGet Vector.reset s.router.vectors v
def State.setVector (s : State) (v : Nat) (x : Vector) : State :=
  { s with router := { s.router with vectors := bankSet Vector.reset s.router.vectors v x } }
def State.modVector (s : State) (v : Nat) (f : Vector → Vector) : State := s.setVector v (f (s.vector v))

def State.note (s : State) (door note : Nat) : Note := bankGet Note.reset s.mail.notes (3 * door + note)
def State.setNote (s : State) (door note : Nat) (x : Note) : State :=
  { s with mail := { s.mail with notes := bankSet Note.reset s.mail.notes (3 * door + note) x } }

/-- The fresh bits of a w1c field after hardware has set some. -/
def Fresh.add (x : Fresh) (now : Nat) (m : Word) : Fresh := { cycle := now, bits := if x.cycle = now then x.bits ||| m else m }
/-- A w1c field after software has written ones: what hardware set in the same cycle stays (00 R10). -/
def Fresh.clear (x : Fresh) (now : Nat) (v w : Word) : Word := v &&& ~~~(if x.cycle = now then w &&& ~~~x.bits else w)

def State.gpio (s : State) (i : Nat) : Gpio := bankGet Gpio.reset s.board.gpio i
def State.setGpio (s : State) (i : Nat) (x : Gpio) : State := { s with board := { s.board with gpio := bankSet Gpio.reset s.board.gpio i x } }
/-- Gpio[i].Cfg as an edge of this cycle is judged (16 R478). -/
def Gpio.cfgAt (g : Gpio) (now : Nat) : Word := match g.was with | some (t, w) => if t = now then w else g.cfg | none => g.cfg
/-- A write of Gpio[i].Cfg. -/
def Gpio.write (g : Gpio) (now : Nat) (w : Word) : Gpio := { g with cfg := w, was := some (now, g.cfgAt now) }
def State.supply (s : State) (n : Nat) : Supply := bankGet Supply.reset s.board.supplies n
def State.setSupply (s : State) (n : Nat) (x : Supply) : State :=
  { s with board := { s.board with supplies := bankSet Supply.reset s.board.supplies n x } }
def State.modSupply (s : State) (n : Nat) (f : Supply → Supply) : State := s.setSupply n (f (s.supply n))

def State.modTime (s : State) (f : TimeBase → TimeBase) : State := { s with time := f s.time }
def State.modTravel (s : State) (f : Travel → Travel) : State := { s with tu := { s.tu with travel := f s.tu.travel } }
def State.modHost (s : State) (f : HostLink → HostLink) : State := { s with host := f s.host }
def State.modBoard (s : State) (f : Board → Board) : State := { s with board := f s.board }
def State.modSec (s : State) (f : Security → Security) : State := { s with sec := f s.sec }
def State.modLedger (s : State) (f : Ledger → Ledger) : State := { s with ledger := f s.ledger }
def State.modRst (s : State) (f : ResetCtl → ResetCtl) : State := { s with rst := f s.rst }
def State.modMail (s : State) (f : Mailbox → Mailbox) : State := { s with mail := f s.mail }

/-- The meaning of an event or a register write of unit n out of `limit`: its effect t, or none at all where the die has no
such instance, whose registers ignore writes and which never raises an event (00 R4). (log 94 DEDUCED) -/
def onUnit (limit n : Nat) (s t : State) : Host.Outcome State Fault Refusal := .next (if n < limit then t else s)

/-! Time. -/

def cyclesPerUs : Nat := 250
def cyclesPerMs : Nat := 250000
def cyclesPerS : Nat := 250000000
/-- 2^-32 ns in a ns. -/
def fracPerNs : Nat := 2 ^ 32

/-- Timebase cycles begun. -/
def State.now (s : State) : Nat := s.time.cycle

/-- Device Time at the start of the cycle in progress, in 2^-32 ns (R107). -/
def State.dt (s : State) : Int := s.time.mono + s.time.stepSum

/-- Device Time at the start of the cycle in progress, in whole ns. -/
def State.dtNs (s : State) : Nat := (s.dt / fracPerNs).toNat

/-- 2^-32 ns in a second. -/
def unitsPerS : Nat := 1000000000 * fracPerNs

/-- INCREMENT in 2^-32 ns (04 R106). -/
def State.increment (s : State) : Int := 4 * fracPerNs + s.time.adj

/-- Short stamp of an instant in ns (R15). -/
def shortStamp (ns : Nat) : Word := BitVec.ofNat 40 ns

/-- Short stamp of the start of the cycle in progress (R349). (log 78 DEDUCED) -/
def State.stamp (s : State) : Word := shortStamp s.dtNs

/-- Signed difference a − b of two short stamps (R15). -/
def stampDiff (a b : Word) : Int := signed 40 (a - b).toNat

/-- Device Time in 80-bit form (R14). -/
def ptp80 (ns : Nat) : Nat := (ns / 1000000000) * 2 ^ 32 + ns % 1000000000

/-- Device Time as two words (R11, R14). -/
def ptpWords (ns : Nat) : List Word := wordsOfNat 2 (ptp80 ns)

/-- Two words read as Device Time in ns (R14); none where the nanoseconds exceed 999 999 999. -/
def ptpNs (lo hi : Word) : Option Nat :=
  let v := natOfWords [lo, hi]
  let ns := v % 2 ^ 32
  if ns < 1000000000 then some (v / 2 ^ 32 * 1000000000 + ns) else none

/-! Values that the manual leaves open (notes/assumptions/1). -/

/-- Draw one value. (log 1 DESIGN CHOICE) -/
def State.draw (s : State) : Nat × State := (Config.freeValue s.freeCount, { s with freeCount := s.freeCount + 1 })

/-- Draw n bytes. (log 1 DESIGN CHOICE) -/
def State.drawBytes : Nat → State → List Byte × State
  | 0, s => ([], s)
  | n + 1, s =>
    let d := s.draw
    let r := State.drawBytes n d.2
    (BitVec.ofNat 8 d.1 :: r.1, r.2)

/-! External memory. -/

/-- A word of external memory (R36). (log 46 DESIGN CHOICE) -/
def memRead (m : List (Nat × Word)) (a : Nat) : Word := bankGet (fun _ => 0) m a

/-- Write one word; a word equal to what an unlisted address reads as is not listed. (log 46 DESIGN CHOICE) -/
def memWrite (m : List (Nat × Word)) (a : Nat) (w : Word) : List (Nat × Word) := bankSet (fun _ => 0) m a w

/-- Write consecutive words. -/
def memWrites (m : List (Nat × Word)) (a : Nat) : List Word → List (Nat × Word)
  | [] => m
  | w :: r => memWrites (memWrite m a w) (a + 1) r

/-- The canonical form of the memory. (log 46 DESIGN CHOICE) -/
def Memory.wf (m : List (Nat × Word)) : Bool := bankWf (fun _ => (0 : Word)) 0 m

/-! Host link. -/

/-- Phokel does not run: the cluster restarts, or a debug session has halted its cores (R406; 13 R414). (log 178 PRESUMED) -/
def State.phokelStops (s : State) : Bool := s.rst.coreReset || s.sec.halted

/-- Boundary scan is open: the balls are not the device's own (13 R418). (log 179 DEDUCED) -/
def State.scanOpen (s : State) : Bool := s.sec.debugOpen.contains 2

/-- What an edge or a transfer at the balls comes to: nothing while boundary scan has them. (log 179 DEDUCED) -/
def State.onBall (s t : State) : State := if s.scanOpen then s else t

/-- BAR0 reads return the registers: Phokel has started (R24, 14 R433). -/
def State.bar0Up (s : State) : Bool := s.rst.phokel

/-- The host reaches the registers of BAR0. -/
def State.hostRegs (s : State) : Bool := s.host.up && s.bar0Up

/-- The device may issue requests on the host link (R318). -/
def State.hostOpen (s : State) : Bool := s.host.up && s.host.busMaster && !s.host.d3hot

/-- A posted write; none while the device may issue no request (R318, R344). -/
def State.hostWrite (s : State) (addr : Nat) (bytes : List Byte) (noSnoop : Bool := false) : State :=
  if s.hostOpen then { s with host := { s.host with writes := { addr := addr, bytes := bytes, noSnoop := noSnoop } :: s.host.writes } } else s

/-- Host-bound output budget in bytes per second for a link (Table 1-7, R33). (log 96 DEDUCED) -/
def linkBudget (width rate mps : Nat) : Nat :=
  let full := match width, mps with
    | 16, 2 => 560 | 16, 1 => 530 | 16, 0 => 490
    | 8, 2 => 280 | 8, 1 => 265 | 8, 0 => 245
    | 4, 2 => 140 | 4, 1 => 130 | 4, 0 => 120
    | 1, 2 => 35 | 1, 1 => 33 | 1, 0 => 30
    | _, _ => 0
  let tenths := match rate with | 5 => 320 | 4 => 160 | 3 => 80 | 2 => 50 | 1 => 25 | _ => 0
  full * 100000000 * tenths / 320

/-- The budget of the link as it stands, in bytes per second. (log 96 DEDUCED) -/
def State.budget (s : State) : Nat := linkBudget s.host.width s.host.rate s.host.mps

/-! Ethernet addressing of a backbone port (08 R240 to R244). -/

def Bb.speed25 (b : Bb) : Bool := bit (pw b.cfg 0) 36
def Bb.doorEn (b : Bb) : Bool := bit (pw b.cfg 0) 33
def Bb.echoEn (b : Bb) : Bool := bit (pw b.cfg 0) 32
def Bb.doorTc (b : Bb) : Nat := fld (pw b.cfg 0) 31 29
def Bb.lockMask (b : Bb) : Nat := fld (pw b.cfg 0) 28 21
/-- STAGE_BYTES in bytes. -/
def Bb.stageBytes (b : Bb) : Nat := fld (pw b.cfg 0) 20 12 * 1048576
def Bb.mac (b : Bb) : Nat := fld (pw b.cfg 2) 39 32 * 2 ^ 40 + (pw b.cfg 1).toNat
def Bb.doorUdp (b : Bb) : Nat := fld (pw b.cfg 2) 31 16
def Bb.tcOfPcp (b : Bb) (k : Nat) : Nat := fld (pw b.cfg 3) (39 - 3 * k) (37 - 3 * k)
def Bb.ipv4 (b : Bb) : Nat := fld (pw b.cfg 4) 31 0
def Bb.ipv6 (b : Bb) : Nat := natOfWords [pw b.cfg 5, pw b.cfg 6, pw b.cfg 7] + fld (pw b.cfg 8) 7 0 * 2 ^ 120

/-- Port rate in bits per µs (R240). -/
def bbRate (p : Nat) (b : Bb) : Nat := if p = 4 then 1000 else if b.speed25 then 25000 else 10000

/-- Sum of the 16-bit words of some bytes, most significant byte first, folded to 16 bits (the Internet checksum). -/
def onesSum : List Byte → Nat → Nat
  | a :: b :: r, acc => onesSum r (acc + a.toNat * 256 + b.toNat)
  | [a], acc => acc + a.toNat * 256
  | [], acc => acc

def inetChecksum (acc : Nat) : Nat :=
  let f := acc % 65536 + acc / 65536
  let f := f % 65536 + f / 65536
  65535 - (f % 65536 + f / 65536)

/-- The FCS is left to the MAC: frames are held from the destination address to the end of the payload. -/
def ethHeader (dst src : Nat) (vlan : Option (Nat × Nat)) (etherType : Nat) : List Byte :=
  bytesBE 6 dst ++ bytesBE 6 src ++
    (match vlan with | some (pcp, vid) => bytesBE 2 0x8100 ++ bytesBE 2 (pcp * 8192 + vid) | none => []) ++ bytesBE 2 etherType

/-- An IPv4 header without options: DF set, identification 0 (R252). -/
def ipv4Header (src dst proto ttl dscp len : Nat) : List Byte :=
  let h := fun ck => [0x45, BitVec.ofNat 8 (dscp * 4)] ++ bytesBE 2 (20 + len) ++ bytesBE 2 0 ++ bytesBE 2 0x4000 ++
    [BitVec.ofNat 8 ttl, BitVec.ofNat 8 proto] ++ bytesBE 2 ck ++ bytesBE 4 src ++ bytesBE 4 dst
  h (inetChecksum (onesSum (h 0) 0))

/-- An IPv6 header. -/
def ipv6Header (src dst next hop tclass flow len : Nat) : List Byte :=
  bytesBE 4 (6 * 2 ^ 28 + tclass * 2 ^ 20 + flow) ++ bytesBE 2 len ++ [BitVec.ofNat 8 next, BitVec.ofNat 8 hop] ++ bytesBE 16 src ++ bytesBE 16 dst

/-- A UDP datagram over either protocol, its checksum computed (R252). -/
def udpDatagram (v6 : Bool) (src dst sport dport : Nat) (body : List Byte) : List Byte :=
  let n := 8 + body.length
  let pseudo := if v6 then bytesBE 16 src ++ bytesBE 16 dst ++ bytesBE 4 n ++ bytesBE 4 17
    else bytesBE 4 src ++ bytesBE 4 dst ++ bytesBE 2 17 ++ bytesBE 2 n
  let h := fun ck => bytesBE 2 sport ++ bytesBE 2 dport ++ bytesBE 2 n ++ bytesBE 2 ck
  let ck := inetChecksum (onesSum (h 0 ++ body) (onesSum pseudo 0))
  h (if ck = 0 then 65535 else ck) ++ body

end Sys2Proof.Machine
end

