-- ==== Sys2Proof/Machine/Flags.lean ====
section
/-! DEFINITION. What makes a happening visible: event occurrences and their stamps (11_host_link_and_dma.md R348 to
R352), trouble-log entries (15_service_and_faults.md R438 to R441), MSI-X messages (R325, R353), record rings (R344,
R351), Attn bits of the two-wire target (16_board_interfaces.md Table 16-2), and the latched register faults (R321). -/
namespace Sys2Proof.Machine

/-! Event IDs of Table 11-9. -/

def evCompletion (e ch : Nat) : Nat := 0x600 + 32 * e + ch
def evPort (n : Nat) : Nat := 0xA00 + n
def evCtx (c : Nat) : Nat := 0xA60 + c
def evFacet (f : Nat) : Nat := 0xAF0 + f
def evCheck (k : Nat) : Nat := 0xB08 + k
def evAccord (a : Nat) : Nat := 0xB28 + a
def evBb (p : Nat) : Nat := 0xB2C + p
def evStream (k : Nat) : Nat := 0xB40 + k
def evDrive (d : Nat) : Nat := 0xB80 + d
def evRing : Nat := 0xB84
def evTime : Nat := 0xB88
def evTravel : Nat := 0xB89
def evAxis (a : Nat) : Nat := 0xB8A + a
def evMark (m : Nat) : Nat := 0xB90 + m
def evPhase : Nat := 0xB98
def evEpoch : Nat := 0xB99
def evGpio (i : Nat) : Nat := 0xBA0 + i
def evPower : Nat := 0xBB0
def evThermal : Nat := 0xBB1
def evSecurity : Nat := 0xBB2
def evFabric : Nat := 0xBB3
def evMc : Nat := 0xBB4
def evRegs : Nat := 0xBB5
def evHost : Nat := 0xBB6
def evEngine (e : Nat) : Nat := 0xBD0 + e

/-! The trouble log. -/

/-- Bits of an entry (Table 15-2), GAP clear. -/
def logBits (stamp : Word) (source code : Nat) (phokel : Bool) (data : Nat) : BitVec 128 :=
  BitVec.ofNat 128 (stamp.toNat * 2 ^ 88 + source % 4096 * 2 ^ 76 + code % 256 * 2 ^ 68 + b2n phokel * 2 ^ 67 + data % 2 ^ 64)

/-- SOURCE of an entry. -/
def logSource (b : BitVec 128) : Nat := b.toNat / 2 ^ 76 % 4096

/-- Queue an entry: entries of one cycle in increasing SOURCE order (R440). -/
def logInsert (e : LogEntry) : List LogEntry → List LogEntry
  | [] => [e]
  | a :: r => if a.cycle = e.cycle && decide (logSource e.bits < logSource a.bits) then e :: a :: r else a :: logInsert e r

/-- An entry reaches the queue of 64; a full queue loses it, and the next one accepted carries GAP (R440). (log 118 DEDUCED) -/
def State.logPush (s : State) (bits : BitVec 128) : State :=
  if 64 ≤ s.log.queue.length then { s with log := { s.log with gap := true } }
  else
    let bits := if s.log.gap then bits ||| BitVec.ofNat 128 (2 ^ 66) else bits
    { s with log := { s.log with queue := logInsert { bits := bits, cycle := s.now } s.log.queue, gap := false } }

/-- An entry by Phokel, stamped at its writing (Table 15-2). -/
def State.logPhokel (s : State) (source code data : Nat) : State := s.logPush (logBits s.stamp source code true data)

/-- An entry by hardware that belongs to no event. -/
def State.logHw (s : State) (source code data : Nat) : State := s.logPush (logBits s.stamp source code false data)

/-- The log SRAM takes the oldest queued entry (R438, R440): one per timebase cycle. -/
def TroubleLog.drain (l : TroubleLog) : TroubleLog :=
  match l.queue with
  | [] => l
  | e :: r =>
    { l with entries := bankPut l.next e.bits l.entries, next := (l.next + 1) % 4096, fill := min 4096 (l.fill + 1)
             wraps := if l.next = 4095 then min 32767 (l.wraps + 1) else l.wraps, written := l.written + 1, queue := r }

/-! Events. -/

/-- Route[id] for an occurrence raised now: a write of this cycle does not count yet (R352). -/
def Router.routeNow (r : Router) (id : Nat) : Word :=
  match r.oldRoutes.lookup id with | some w => w | none => r.route id

/-- Raise an event with a stamp (R349). -/
def State.raiseAt (s : State) (id code data : Nat) (stamp : Word) (logged : Bool := false) : State :=
  let o : Occ := { id := id, code := code, data := data % 2 ^ 20, stamp := stamp, route := s.router.routeNow id, logged := logged }
  { s with router := { s.router with queue := s.router.queue ++ [o] } }

/-- Raise an event, stamped at the start of the cycle (R349). -/
def State.raise (s : State) (id code : Nat) (data : Nat := 0) : State := s.raiseAt id code data s.stamp

/-- Raise an event for which a rule requires a trouble-log entry (R440, Table 15-3). (log 118 DEDUCED) -/
def State.raiseLog (s : State) (id code data logData : Nat) (phokel : Bool := false) : State :=
  (s.logPush (logBits s.stamp id code phokel logData)).raiseAt id code data s.stamp true

/-! MSI-X. -/

/-- Issue a vector's message, or set its pending bit (R318, R325, R353). (log 8 DESIGN CHOICE) -/
def State.msixEmit (s : State) (v : Nat) : State :=
  let x := s.vector v
  if !s.hostOpen || x.control.getLsbD 0 then s.setVector v { x with pendingBit := true, merged := [] }
  else
    let s := s.hostWrite (x.addrHi.toNat * 2 ^ 32 + x.addrLo.toNat) (bytesLE 4 x.msgData.toNat)
    s.setVector v { x with pendingBit := false, merged := [], cfg := bump x.cfg 23 8, holdEnd := s.now + fld x.cfg 39 24 * cyclesPerUs }

/-- An occurrence on a vector: during the holdoff it is merged (R353). -/
def State.msix (s : State) (v : Nat) (stamp : Word) : State :=
  let x := s.vector v
  if fld x.cfg 39 24 ≠ 0 && decide (s.now < x.holdEnd) then s.setVector v { x with merged := x.merged ++ [stamp] } else s.msixEmit v

/-! Record rings. -/

def RecRing.enabled (r : RecRing) : Bool := bit r.baseHi 39
def RecRing.sizeLog (r : RecRing) : Nat := fld r.baseHi 37 34
def RecRing.base (r : RecRing) : Nat := fld r.baseHi 23 0 * 2 ^ 40 + r.baseLo.toNat / 64 * 64
/-- Entries not yet released. -/
def RecRing.used (r : RecRing) : Nat := (r.writeIdx + 2 ^ 20 - r.readIdx) % 2 ^ 20
def RecRing.full (r : RecRing) : Bool := r.used == 2 ^ r.sizeLog
/-- Address of entry n, entries of `size` bytes (R344). -/
def RecRing.entryAddr (r : RecRing) (size n : Nat) : Nat := r.base + size * (n % 2 ^ r.sizeLog)
/-- The index slot's 8 bytes. -/
def RecRing.slotBytes (r : RecRing) : List Byte := bytesLE 8 (r.writeIdx + r.slotDrops * 2 ^ 32)

/-- Write an entry and then the index slot (R344); the ring must be enabled and not full. -/
def recWrite (size : Nat) (r : RecRing) (entry : List Byte) : RecRing × List HostWrite :=
  let r' := { r with writeIdx := (r.writeIdx + 1) % 2 ^ 20 }
  (r', [{ addr := r.entryAddr size r.writeIdx, bytes := entry }, { addr := r.base + size * 2 ^ r.sizeLog, bytes := r'.slotBytes }])

/-- The engine runs no transfer: halted, or in reset (R341; 15 R451). -/
def Engine.stopped (x : Engine) : Bool := x.halted || x.inReset

/-- A record for the host event ring (R350, R351, R318); one that meets a halted Engine 29 is dropped as at a full ring. (log 173 DESIGN CHOICE) -/
def State.eventRecord (s : State) (o : Occ) : State :=
  let r := s.host.rec1
  if !r.enabled || !s.hostOpen then s
  else if (s.engine 29).stopped then
    { s with host := { s.host with rec1 := { r with drops := bump r.drops 39 24, slotDrops := satAdd 16 r.slotDrops 1 } } }
  else if r.full then
    let t := match s.host.turned with
      | some (at_, d, n, l) => if at_ = s.now then (at_, d, n, l ++ [o]) else (s.now, r.drops, r.slotDrops, [o])
      | none => (s.now, r.drops, r.slotDrops, [o])
    { s with host := { s.host with rec1 := { r with drops := bump r.drops 39 24, slotDrops := satAdd 16 r.slotDrops 1 }, turned := some t } }
  else
    let w1 := mkWord [(39, 28, o.id), (27, 20, o.code), (19, 0, o.data)]
    let (r', ws) := recWrite 16 r (hostForms [o.stamp, w1])
    let s := { s with host := { s.host with rec1 := r' } }
    ws.foldl (fun s w => s.hostWrite w.addr w.bytes) s

/-- Rec[0] can take a response now: Engine 29 carries it (R328). (log 7 DEDUCED, 173 DESIGN CHOICE) -/
def State.rec0Open (s : State) : Bool := s.host.rec0.enabled && !s.host.rec0.full && s.hostOpen && !(s.engine 29).stopped

/-- Write a response to Rec[0], then its MSI-X message (R344, R367, Table 11-8). -/
def State.rec0Write (s : State) (words : List Word) : State :=
  let (r', ws) := recWrite 512 s.host.rec0 (hostForms words)
  let s := { s with host := { s.host with rec0 := r' } }
  let s := ws.foldl (fun s w => s.hostWrite w.addr w.bytes) s
  if bit r'.baseHi 38 then s.msix (fld r'.baseHi 31 24) s.stamp else s

/-- Held responses go out in order while the ring takes them (R345). -/
def State.rec0Release : Nat → State → State
  | 0, s => s
  | n + 1, s =>
    match s.host.held with
    | [] => s
    | w :: r => if s.rec0Open then State.rec0Release n ({ s with host := { s.host with held := r } }.rec0Write w) else s

/-! Registers' faults and attention. -/

/-- RegFault as a read returns it, but for COUNT: without the refusals of the same cycle (R321). -/
def State.regFaultRead (s : State) : Word :=
  match s.host.regFaultWas with
  | some (t, w) => if t = s.now then w else s.host.regFault
  | none => s.host.regFault

/-- A refused BAR0 write: RegFault and its event (R321). -/
def State.regRefused (s : State) (off : Nat) (partialWrite : Bool) : State :=
  let w := mkWord [(39, 14, off), (13, 13, b2n partialWrite), (12, 5, satAdd 8 (fld s.host.regFault 12 5) 1)]
  ({ s with host := { s.host with regFault := w, regFaultWas := some (s.now, s.regFaultRead) } }).raise evRegs (if partialWrite then 2 else 1) (off / 64)

/-- Set a bit of Attn (Table 16-2), given by its number; one that becomes set asks for attention at once (16 R464). -/
def State.attn (s : State) (b : Nat) : State :=
  s.modBoard fun x => { x with attn := x.attn ||| BitVec.ofNat 40 (2 ^ b), attnNew := x.attnNew.add s.now (BitVec.ofNat 40 (2 ^ b)), attnAt := if bit x.attn b || !bit x.twCfg (b - 6) then x.attnAt else none }

def attnDeferred : Nat := 39
def attnBootFail : Nat := 38
def attnRunning : Nat := 37
def attnHold : Nat := 36
def attnSealDone : Nat := 35
def attnPwrFault : Nat := 34
def attnChainErr : Nat := 33
def attnLedger : Nat := 32
def attnThermal : Nat := 31
def attnBoardResp : Nat := 30

/-- An enabled Attn bit is set: ATTN_PENDING. -/
def Board.attnPending (b : Board) : Bool := fld b.attn 39 30 &&& fld b.twCfg 33 24 != 0

/-- A parity failure of a unit: its error counter and the event of its row (01 R38). (log 28 DEDUCED) -/
def State.parityError (s : State) (unit id code data : Nat) : State :=
  ({ s with errors := bankPut unit (satAdd 40 ((s.errors.lookup unit).getD 0) 1) s.errors }).raise id code data

/-- What a transfer met: a failed hop of the fabric (code 1) or a failed read of external memory (code 2) raises its event and counts,
whether or not a retry mended it (Table 1-9). (log 28 DEDUCED) -/
def State.delivered (s : State) (code : Nat) (d : Delivery) : State := if d = .good then s else s.parityError evFabric evFabric code 0

/-- A security event of Table 13-15, written to the log as well (13 R419). -/
def State.raiseSec (s : State) (code data : Nat) : State := s.raiseLog evSecurity code data data

end Sys2Proof.Machine
end

