-- ==== Sys2Proof/Machine/Operands.lean ====
section
/-! DEFINITION. Operand forms: the payload conventions of 12_mailbox_and_commands.md R375, unit numbers and their
limits (R4, R389), bonded groups (03_ray_words.md R102), host buffers, and the tables that arrive in payloads. -/
namespace Sys2Proof

/-- Payload word i; 0 beyond the end. -/
def Msg.w (m : Msg) (i : Nat) : Word := Machine.pw m.payload i

end Sys2Proof

namespace Sys2Proof.Machine

/-- lo ≤ v ≤ hi. -/
def within (lo hi v : Nat) : Bool := decide (lo ≤ v) && decide (v ≤ hi)

/-- A payload of n words. -/
def lenIs (m : Msg) (n : Nat) : Bool := m.payload.length == n

/-- A host address occupies two words, laid out as RingLo and RingHi (R375). -/
def hostAddrOk (hi : Word) : Bool := zeroFld hi 39 24
def hostAddr (lo hi : Word) : Nat := fld hi 23 0 * 2 ^ 40 + lo.toNat

/-- Ports of a bonded group, member 0 first (03 R102). -/
def groupPorts (n bond : Nat) : List Nat := if bond = 1 then [n, n + 1] else if bond = 2 then [n, n + 1, n + 2, n + 3] else [n]

/-- PORT names a present port that is not a member other than member 0 (R378). (log 94 DEDUCED) -/
def portArg (s : State) (n : Nat) : Bool := decide (n < s.variant.ports) && (s.port n).bondPos == 0

/-- Ports that a command naming n acts on. -/
def State.group (s : State) (n : Nat) : List Nat := groupPorts n (s.port n).bond

/-- Member 0 of the group that port n belongs to. -/
def State.head (s : State) (n : Nat) : Nat := n - (s.port n).bondPos

def ctxArg (s : State) (c : Nat) : Bool := decide (c < s.variant.contexts)

/-- UNIT_KIND and INDEX of R389: present on the die. -/
def unitArg (s : State) (kind idx : Nat) : Bool :=
  match kind with
  | 1 => decide (idx < s.variant.facets)
  | 2 => decide (idx < s.variant.accords)
  | 3 => portArg s idx
  | 4 => decide (idx < 32)
  | 5 => decide (idx < s.variant.drives)
  | _ => false

/-- A unit's own ID (15 R441). -/
def unitId (kind idx : Nat) : Nat :=
  match kind with
  | 1 => evFacet idx | 2 => evAccord idx | 3 => evPort idx | 4 => evEngine idx | _ => evDrive idx

/-- Bytes of a mailbox payload packed as R86. -/
def payloadBytes (m : Msg) (first n : Nat) : List Byte := (unpack5 (m.payload.drop first)).take n

/-- Number of ones. -/
def popCount (n v : Nat) : Nat := ((List.range n).filter fun i => v.testBit i).length

/-- Indices of the ones of an n-bit mask. -/
def bitsOf (n v : Nat) : List Nat := (List.range n).filter fun i => v.testBit i

/-- A mask with these bits set. -/
def maskOf (l : List Nat) : Nat := l.foldl (fun a i => a ||| 2 ^ i) 0

/-- Elements of a list that occur in it before. -/
def nodup : List Nat → Bool
  | [] => true
  | a :: r => !r.contains a && nodup r

/-- STATUS code (Table 12-4). -/
def Status.code : Status → Nat
  | .ok => 0 | .busy => 1 | .late => 2 | .badOpcode => 3 | .badArg => 4 | .state => 5 | .denied => 6 | .fault => 7
  | .noResource => 8 | .timeout => 9

/-- PSTATE (Ledger.Status). -/
def PState.code : PState → Nat
  | .run => 0 | .low => 1 | .hold => 2

/-- LIFECYCLE (SYS_STATUS). -/
def Lifecycle.code : Lifecycle → Nat
  | .factory => 0 | .ownedOpen => 1 | .ownedSealed => 2 | .retired => 3

/-- BOOT_STATE (14 Table 14-3). -/
def BootState.code : BootState → Nat
  | .releasing => 0 | .booting => 1 | .running => 2 | .held => 3 | .failSlots => 4 | .failFlash => 5 | .failOptions => 6

/-- STATE of Facet[f].Status (06 Table 6-11). -/
def FacetState.code : FacetState → Nat
  | .run => 0 | .draining => 1 | .drained => 2 | .inReset => 3 | .quarantined => 4 | .readmitPending => 5

/-- STATE of Accord[a].Status (07 Table 7-12). -/
def AccordState.code : AccordState → Nat
  | .off => 0 | .run => 1 | .draining => 2 | .drained => 3 | .inReset => 4 | .readmitPending => 5

/-- STATE of LineStatus (02 Table 2-8). -/
def LineState.code : LineState → Nat
  | .off => 0 | .bcAlign => 1 | .baseLock => 2 | .adapt => 3 | .data => 4 | .idle => 5 | .waking => 6 | .down => 7

/-- A UNIT_STATE entry with the new STATE of the unit's status register (15 Table 15-3). An engine's status register has no STATE:
its value is open (notes/assumptions/1). Drives write theirs where their state changes. (log 54 DESIGN CHOICE) -/
def State.logUnitState (s : State) (kind idx : Nat) : State :=
  match kind with
  | 1 => s.logPhokel (evFacet idx) 0x81 (s.facet idx).state.code
  | 2 => s.logPhokel (evAccord idx) 0x81 (s.accord idx).state.code
  | 3 => s.logPhokel (evPort idx) 0x81 (s.port idx).state.code
  | 4 => let d := s.draw; d.2.logPhokel (evEngine idx) 0x81 (d.1 % 8)
  | _ => s

end Sys2Proof.Machine
end

