-- ==== Sys2Proof/Machine/ReadClear.lean ====
section
/-! DEFINITION. Fields that a read clears (00_scope.md R10, Table 0-5). The state of a unit holds what the timebase cycle in progress has added to
its rc fields; `State.rcOld` holds what stood in them when the cycle began, which is what a read of this cycle returns and clears; the end of the
cycle adds the one to the other, so that no occurrence is lost, at a saturated count neither. (log 148 DEDUCED) -/
namespace Sys2Proof.Machine

/-- The rc fields of a register, as bits hi to lo. -/
def rcFields : Reg → List (Nat × Nat)
  | .linkStatus => [(19, 4)] | .recRing _ 3 => [(39, 24)] | .regFault => [(12, 5)] | .axisCounts _ => [(39, 24), (23, 16), (15, 0)]
  | .syncCounts => [(39, 24), (23, 8)] | .strobe _ => [(21, 6)]
  | .port _ 1 => [(39, 24), (23, 8), (7, 0)] | .port _ 3 => [(39, 28), (27, 18), (17, 10), (9, 4), (3, 0)]
  | .port _ 5 => [(39, 24), (23, 8), (7, 0)] | .port _ 6 => [(21, 4)] | .port _ 10 => [(15, 0)] | .port _ 11 => [(39, 24), (23, 16)]
  | .ctx _ 6 => [(39, 24), (23, 16), (15, 8), (7, 0)] | .ctx _ 7 => [(39, 24), (23, 8), (7, 0)] | .ctx _ 11 => [(39, 24), (23, 8), (7, 4), (3, 0)]
  | .out _ _ 8 => [(39, 24), (23, 16), (15, 0)] | .out _ _ 9 => [(39, 20), (19, 0)]
  | .facet _ 2 => [(39, 20), (19, 10), (9, 0)] | .check _ 2 => [(39, 24), (15, 0)] | .accord _ 6 => [(39, 24), (23, 16), (15, 0)]
  | .bb _ 1 => [(39, 24), (23, 12), (11, 0)] | .bb _ 2 => [(39, 24), (23, 8)]
  | .stream _ 10 => [(39, 24), (23, 12), (11, 0)] | .stream _ 11 => [(39, 28)]
  | .ring 4 => [(39, 24), (23, 12), (11, 0)] | .drive _ 1 => [(22, 8)] | .ledger 0 => [(29, 14)]
  | .chan _ _ 7 => [(39, 20), (19, 4)] | .vector _ => [(23, 8)]
  | _ => []

/-- A word that holds what the cycle in progress has added to a register's rc fields. -/
def State.rcAdded (s : State) : Reg → Word
  | .linkStatus => mkWord [(19, 4, s.host.retrains)]
  | .recRing r _ => (if r = 0 then s.host.rec0 else s.host.rec1).drops
  | .regFault => s.host.regFault
  | .axisCounts a => (s.axis a).counts
  | .syncCounts => s.time.syncCounts
  | .strobe k => (s.strobe k).cfg
  | .port n k =>
    let p := s.port n
    match k with
    | 1 => p.lineEvents | 3 => p.rxCounts | 5 => p.ingestCounts | 6 => mkWord [(21, 4, p.peak)] | 10 => p.patGen2 | _ => p.hdrCounts
  | .ctx c k =>
    let x := s.ctx c
    match k with
    | 6 => x.counts0 | 7 => x.counts1 | _ => x.pipeCounts
  | .out c o k =>
    let y := (s.ctx c).out o
    if k = 8 then y.counts else y.rsCounts
  | .facet f _ => (s.facet f).counts
  | .check c _ => (s.check c).counts
  | .accord a _ => (s.accord a).counts
  | .bb p k => if k = 1 then (s.bbp p).counts else (s.bbp p).doorCounts
  | .stream k j => if j = 10 then (s.stream k).counts else (s.stream k).counts2
  | .ring _ => s.ring.counts
  | .drive d _ => mkWord [(22, 8, (s.ring.drive d).cmdErrors)]
  | .ledger _ => mkWord [(29, 14, s.ledger.lowActions)]
  | .chan e ch _ => (s.chan e ch).counts
  | .vector v => (s.vector v).cfg
  | _ => 0

/-- Fields hi to lo of a word cleared. -/
def clearFlds (w : Word) (l : List (Nat × Nat)) : Word := l.foldl (fun w x => setFld w x.1 x.2 0) w

/-- Nothing has been added yet: what a new cycle begins with. -/
def State.rcNone (s : State) : Reg → State
  | .linkStatus => s.modHost fun h => { h with retrains := 0 }
  | .recRing r _ => s.modHost fun h => if r = 0 then { h with rec0 := { h.rec0 with drops := 0 } } else { h with rec1 := { h.rec1 with drops := 0 } }
  | .regFault => s.modHost fun h => { h with regFault := setFld h.regFault 12 5 0 }
  | .axisCounts a => s.modAxis a fun x => { x with counts := 0 }
  | .syncCounts => s.modTime fun t => { t with syncCounts := 0 }
  | .strobe k => s.modStrobe k fun x => { x with cfg := setFld x.cfg 21 6 0 }
  | .port n k => s.modPort n fun p =>
    match k with
    | 1 => { p with lineEvents := 0 } | 3 => { p with rxCounts := 0 } | 5 => { p with ingestCounts := 0 } | 6 => { p with peak := 0 }
    | 10 => { p with patGen2 := setFld p.patGen2 15 0 0 } | _ => { p with hdrCounts := 0 }
  | .ctx c k => s.modCtx c fun x =>
    match k with
    | 6 => { x with counts0 := 0 } | 7 => { x with counts1 := 0 } | _ => { x with pipeCounts := 0 }
  | .out c o k => s.modCtx c fun x => x.modOut o fun y => if k = 8 then { y with counts := 0 } else { y with rsCounts := 0 }
  | .facet f _ => s.modFacet f fun x => { x with counts := 0 }
  | .check c _ => s.modCheck c fun x => { x with counts := clearFlds x.counts [(39, 24), (15, 0)] }
  | .accord a _ => s.modAccord a fun x => { x with counts := 0 }
  | .bb p k => s.modBb p fun b => if k = 1 then { b with counts := 0 } else { b with doorCounts := 0 }
  | .stream k j => s.modStream k fun x => if j = 10 then { x with counts := 0 } else { x with counts2 := 0 }
  | .ring _ => s.modRing fun r => { r with counts := 0 }
  | .drive d _ => s.modDrive d fun x => { x with cmdErrors := 0 }
  | .ledger _ => s.modLedger fun l => { l with lowActions := 0 }
  | .chan e ch _ => s.modChan e ch fun c => { c with counts := 0 }
  | .vector v => s.modVector v fun x => { x with cfg := setFld x.cfg 23 8 0 }
  | _ => s

/-- The registers with rc fields of the units that hold anything. -/
def State.rcRegs (s : State) : List Reg :=
  [.linkStatus, .recRing 0 3, .recRing 1 3, .regFault, .syncCounts, .ring 4, .ledger 0]
    ++ s.tu.axes.map (fun x => Reg.axisCounts x.1) ++ s.tu.strobes.map (fun x => Reg.strobe x.1)
    ++ s.ports.flatMap (fun x => [1, 3, 5, 6, 10, 11].map (Reg.port x.1))
    ++ s.ctxs.flatMap (fun x => [6, 7, 11].map (Reg.ctx x.1) ++ [0, 1, 2].flatMap fun o => [8, 9].map (Reg.out x.1 o))
    ++ s.facets.map (fun x => Reg.facet x.1 2) ++ s.checks.map (fun x => Reg.check x.1 2) ++ s.accords.map (fun x => Reg.accord x.1 6)
    ++ s.bb.bbs.flatMap (fun x => [1, 2].map (Reg.bb x.1)) ++ s.bb.streams.flatMap (fun x => [10, 11].map (Reg.stream x.1))
    ++ s.ring.drives.map (fun x => Reg.drive x.1 1) ++ s.chans.map (fun x => Reg.chan (x.1 / 32) (x.1 % 32) 7) ++ s.router.vectors.map (fun x => Reg.vector x.1)

/-- Two amounts of an rc field together: counts saturate; PEAK_WORDS is the higher. -/
def rcJoin (r : Reg) (hi lo a b : Nat) : Nat :=
  match r with
  | .port _ 6 => max a b
  | _ => satAdd (hi - lo + 1) a b

/-- The rc fields of one word joined with those of another. -/
def rcSum (r : Reg) (old added : Word) : Word := mkWord ((rcFields r).map fun x => (x.1, x.2, rcJoin r x.1 x.2 (fld old x.1 x.2) (fld added x.1 x.2)))

/-- What a read of this cycle returns in the rc fields of a register. -/
def State.rcSeen (s : State) (r : Reg) : Word := (s.rcOld.lookup r).getD 0

/-- What has been counted altogether, the cycle in progress with it. -/
def State.rcAll (s : State) (r : Reg) : Word := rcSum r (s.rcSeen r) (s.rcAdded r)

/-- A register's word with the rc fields as a read of this cycle returns them. (log 148 DEDUCED) -/
def State.rcShow (s : State) (r : Reg) (w : Word) : Word := (rcFields r).foldl (fun w x => setFld w x.1 x.2 (fld (s.rcSeen r) x.1 x.2)) w

/-- A context as a binding finds it and an unbinding leaves it: at its reset values, but for the counts, which only a read clears (R10). (log 148 DEDUCED) -/
def Context.renewed (x : Context) (c : Nat) : Context :=
  (List.range 3).foldl (fun (y : Context) o => y.modOut o fun z => { z with counts := (x.out o).counts, rsCounts := (x.out o).rsCounts })
    { Context.reset c with counts0 := x.counts0, counts1 := x.counts1, pipeCounts := x.pipeCounts }

/-! The ledger's registers (10 Table 10-6). -/

/-- LSTATE (10 Table 10-6): UNCONFIGURED before LEDGER_CFG, then as commissioning and its checks leave it. -/
def Ledger.lstate (l : Ledger) : Nat := if l.capUf = 0 then 0 else if l.degraded then 3 else if l.commissioned then 2 else 1

/-- Ledger.Status (10 Table 10-6). -/
def Ledger.status (l : Ledger) : Word :=
  mkWord [(39, 37, l.pstate.code), (36, 34, l.lstate), (33, 33, b2n l.short), (32, 32, b2n (l.capMeasUf != 0)), (31, 31, b2n l.sealDone),
    (30, 30, b2n (!l.capSteps.isEmpty)), (29, 14, l.lowActions)]

def Ledger.word (l : Ledger) (k : Nat) : Word :=
  match k with
  | 0 => l.status | 1 => mkWord [(39, 20, l.vL), (19, 8, l.code)] | 2 => BitVec.ofNat 40 l.eAvail | 3 => BitVec.ofNat 40 l.eNeed
  | 4 => BitVec.ofNat 40 l.allow | _ => mkWord [(39, 24, l.measMw), (23, 12, l.capDw), (11, 0, l.planDw)]

/-- A ledger register as it reads. -/
def State.ledgerWord (s : State) (k : Nat) : Word := s.rcShow (.ledger k) (s.ledger.word k)

/-- The rc fields that stood when the cycle began are gone: they have been read, or their unit has been reset. -/
def State.rcForget (s : State) (p : Reg → Bool) : State := { s with rcOld := s.rcOld.filter fun x => !p x.1 }

/-- The end of a cycle: what it has added joins what stood before. (log 148 DEDUCED) -/
def State.rcFold (s : State) : State :=
  s.rcRegs.foldl (fun (s : State) r =>
    let w := s.rcAll r
    if w = 0 then s.rcForget (· == r) else { (s.rcNone r) with rcOld := (r, w) :: s.rcOld.filter fun x => x.1 != r }) s

end Sys2Proof.Machine
end

