-- ==== Sys2Proof/Machine/Params.lean ====
section
/-! DEFINITION. The binding record (05_ingest_and_contexts.md Table 5-1), pixel groups (03_ray_words.md R495), the
parameter set (06_facet_pipeline.md R193) and the output record (07_outputs_and_accord.md Table 7-2), as their fields. -/
namespace Sys2Proof.Machine

/-- A binding record (Table 5-1). -/
structure Bind where
  w0 : Word
  w1 : Word
  w2 : Word
  w3 : Word
  deriving DecidableEq, Repr

def Context.bind (x : Context) : Bind := { w0 := x.bind0, w1 := x.bind1, w2 := x.bind2, w3 := x.bind3 }
def Bind.port (b : Bind) : Nat := fld b.w0 39 33
def Bind.vc (b : Bind) : Nat := fld b.w0 32 29
def Bind.dt (b : Bind) : Nat := fld b.w0 28 23
def Bind.facet (b : Bind) : Nat := fld b.w0 22 18
/-- CLASS: 0 safety, 1 operational, 2 surveillance, 3 bulk (Table 5-2). -/
def Bind.cls (b : Bind) : Nat := fld b.w0 17 16
/-- KIND: 0 AREA, 1 LINE_SCAN, 2 YUV, 3 BYTES. -/
def Bind.kind (b : Bind) : Nat := fld b.w0 15 14
def Bind.count (b : Bind) : Bool := bit b.w0 13
def Bind.padShort (b : Bind) : Bool := bit b.w0 12
def Bind.lineFix (b : Bind) : Nat := fld b.w0 11 10
def Bind.rawTap (b : Bind) : Bool := bit b.w0 9
def Bind.embEn (b : Bind) : Bool := bit b.w0 8
def Bind.width (b : Bind) : Nat := fld b.w1 39 25
def Bind.height (b : Bind) : Nat := fld b.w1 24 9
def Bind.lineRate (b : Bind) : Nat := fld b.w2 39 20
/-- READOUT_RATE; 0 stands for LINE_RATE. -/
def Bind.readout (b : Bind) : Nat := if fld b.w2 19 0 = 0 then b.lineRate else fld b.w2 19 0
def Bind.ringWords (b : Bind) : Nat := fld b.w3 39 22
def Bind.timeoutUs (b : Bind) : Nat := fld b.w3 21 2
/-- Raw bypass (R168). -/
def Bind.bypass (b : Bind) : Bool := b.facet == 0x1F
/-- Lines reach the Sillage writer: the raw tap (R150) or raw bypass (R168). -/
def Bind.toRing (b : Bind) : Bool := b.rawTap || b.bypass

/-- g pixels and b bytes of a pixel group (03 Table 3-6a). -/
def pixelGroup (dt : Nat) : Nat × Nat :=
  match dt with
  | 0x2A => (1, 1) | 0x2B => (4, 5) | 0x2C => (2, 3) | 0x2D => (4, 7) | 0x2E => (1, 2) | 0x2F => (2, 5) | 0x27 => (1, 3)
  | 0x1E => (2, 4) | _ => (1, 1)

/-- Bytes of a line of w pixels (R495). -/
def groupBytes (dt w : Nat) : Nat := ceilDiv w (pixelGroup dt).1 * (pixelGroup dt).2

/-- L: the matching length of a line (R495). -/
def Bind.lineBytes (b : Bind) : Nat := if b.kind = 3 then b.width else groupBytes b.dt b.width

/-- Words of a stored line (R147). -/
def Bind.lineWords (b : Bind) : Nat := ceilDiv b.lineBytes 5

/-- Pixels that a line counts as in a Facet: half its bytes for BYTES (R153, R157). -/
def Bind.pixels2 (b : Bind) : Nat := if b.kind = 3 then b.width else 2 * b.width

/-- Frame rate LINE_RATE / HEIGHT. -/
def Bind.frameRate (b : Bind) : Rat := (b.lineRate : Rat) / (max 1 b.height : Nat)

/-- DT suits KIND (R152). -/
def kindDt (kind dt : Nat) : Bool :=
  match kind with
  | 2 => dt == 0x1E
  | 3 => within 0x30 0x37 dt
  | _ => dt == 0x27 || within 0x2A 0x2F dt

/-- The checks of R152 that the record alone decides. -/
def Bind.fieldsOk (b : Bind) : Bool :=
  zeroFld b.w0 7 0 && zeroFld b.w1 8 0 && zeroFld b.w3 1 0 && kindDt b.kind b.dt && b.lineFix != 3 &&
  (match b.kind with
   | 1 => within 64 16384 b.width
   | 3 => within 1 16384 b.width
   | _ => within 64 8192 b.width && b.width % 2 == 0) &&
  b.height != 0 && b.lineRate != 0 && decide (b.lineRate ≤ b.readout)

/-! The parameter set (06 Tables 6-7, 6-8). -/

/-- Two 20-bit numbers in a word. -/
def pair20 (a b : Nat) : Word := BitVec.ofNat 40 (a % 1048576 * 1048576 + b % 1048576)

/-- A word of the set after CTX_BIND. The knees, for which the manual gives no Reset value, are 0 (notes/assumptions/13). (log 13 DESIGN CHOICE) -/
def paramReset (i : Nat) : Word :=
  if 24 ≤ i then
    if 128 ≤ i ∧ i ≤ 160 then pair20 (min 0xFFFFF (32768 * (i - 128))) (min 0xFFFFF (32768 * (i - 128)))
    else if 168 ≤ i ∧ i < 2216 then pair20 (2048 * ((i - 168) % 512)) (2048 * ((i - 168) % 512) + 1024) else 0
  else match i with
    | 0 => 0x10000
    | 1 => 0x10000
    | 4 | 5 | 22 => pair20 0x10000 0x10000
    | 7 => BitVec.ofNat 40 (0xFFFFF * 1048576 + 0x20 * 16384 + 0x20 * 256)
    | 10 => BitVec.ofNat 40 (0x20 * 2 ^ 32 + 0x30)
    | 11 | 13 | 15 => pair20 0x10000 0
    | 18 | 19 | 20 | 21 => pair20 0x1000 0x1000
    | _ => 0

/-- A parameter set: its words that differ from reset. -/
abbrev ParamSet := List (Nat × Word)

def paramGet (p : ParamSet) (i : Nat) : Word := bankGet paramReset p i
def paramSet (p : ParamSet) (i : Nat) (w : Word) : ParamSet := bankSet paramReset p i w
/-- The 20-bit number k of the pairs that begin at word i. -/
def paramPair (p : ParamSet) (i k : Nat) : Nat := if k % 2 = 0 then fld (paramGet p (i + k / 2)) 39 20 else fld (paramGet p (i + k / 2)) 19 0

/-- Stage k of Table 6-1 is enabled. -/
def stageEn (p : ParamSet) (k : Nat) : Bool := bit (paramGet p 0) (40 - k)
def cfaOf (p : ParamSet) : Nat := fld (paramGet p 0) 27 24
def visionSrc (p : ParamSet) : Nat := fld (paramGet p 0) 17 16
/-- *_CSC of output o. -/
def cscOf (p : ParamSet) (o : Nat) : Nat := fld (paramGet p 23) (39 - 4 * o) (36 - 4 * o)
def curveEn (p : ParamSet) (o : Nat) : Bool := bit (paramGet p 23) (27 - o)

/-! Output records (07 Table 7-2). -/

/-- An output record as its fields; crop and size resolved against the binding. -/
structure OutRec where
  enable : Bool
  format : Nat
  orient : Nat
  /-- Bit 2 host, bit 1 backbone, bit 0 Sillage. -/
  dest : Nat
  resample : Bool
  stamps : Bool
  decimate : Nat
  gateEn : Bool
  gate : Nat
  coef : Bool
  cropX : Nat
  cropY : Nat
  cropW : Nat
  cropH : Nat
  outW : Nat
  outH : Nat
  strideField : Nat
  rsPitch : Nat
  rsOrigin : Nat
  rsRowsMax : Nat
  rsGapMax : Nat
  rowPos0 : Int
  rowSpan : Int
  deriving DecidableEq, Repr

def OutRec.host (r : OutRec) : Bool := r.dest.testBit 2
def OutRec.backbone (r : OutRec) : Bool := r.dest.testBit 1
def OutRec.sillage (r : OutRec) : Bool := r.dest.testBit 0
def OutRec.transposes (r : OutRec) : Bool := decide (4 ≤ r.orient)

/-- The fields of a record for a frame of the binding. A LINE_SCAN context uses ROW_POS0 = ROW_SPAN = 0 (R219). -/
def outRec (b : Bind) (ws : List Word) : OutRec :=
  let x := fld (pw ws 1) 39 25
  let y := fld (pw ws 1) 24 9
  let cw := fld (pw ws 2) 39 25
  let ch := fld (pw ws 2) 24 9
  { enable := bit (pw ws 0) 39, format := fld (pw ws 0) 38 35, orient := fld (pw ws 0) 34 32, dest := fld (pw ws 0) 31 29
    resample := bit (pw ws 0) 28, stamps := bit (pw ws 0) 27, decimate := fld (pw ws 0) 26 23, gateEn := bit (pw ws 0) 22
    gate := fld (pw ws 0) 21 14, coef := bit (pw ws 0) 13, cropX := x, cropY := y
    cropW := if cw = 0 then b.width - x else cw, cropH := if ch = 0 then b.height - y else ch
    outW := fld (pw ws 3) 39 25, outH := fld (pw ws 3) 24 9, strideField := fld (pw ws 4) 39 20
    rsPitch := fld (pw ws 5) 39 24, rsOrigin := fld (pw ws 5) 23 8, rsRowsMax := fld (pw ws 5) 7 6
    rsGapMax := fld (pw ws 6) 39 24, rowPos0 := if b.kind = 1 then 0 else sfld (pw ws 7) 39 20
    rowSpan := if b.kind = 1 then 0 else sfld (pw ws 7) 19 0 }

/-- Bytes of a line of w pixels in a format (R209). -/
def formatLine (format w : Nat) : Nat :=
  match format with
  | 0x0 => 3 * w | 0x1 => 4 * w | 0x2 => 2 * w | 0x3 => 5 * (w / 2) | 0x4 => w | 0x5 => 2 * w | 0x8 => 2 * w | 0x9 => 2 * w
  | 0xA => 5 * (w / 2) | _ => w

/-- Lines of each plane of a frame of h rows (R209). -/
def formatPlanes (format h : Nat) : List Nat :=
  match format with
  | 0x4 | 0x5 => [h, h / 2]
  | 0x9 => [h, h, h]
  | _ => [h]

/-- Bytes per pixel, in halves (Table 7-3). -/
def formatBpp2 (format : Nat) : Nat :=
  match format with
  | 0x0 => 6 | 0x1 => 8 | 0x2 => 4 | 0x3 => 5 | 0x4 => 3 | 0x5 => 6 | 0x8 => 4 | 0x9 => 12 | 0xA => 5 | _ => 2

def roundUp (n k : Nat) : Nat := ceilDiv n k * k

/-- Distance from line to line: LINE_STRIDE, or the line's bytes rounded up to 64 (Table 7-2). -/
def strideOf (field line : Nat) : Nat := if field = 0 then roundUp line 64 else field

/-- Payload bytes, stride gaps included: each plane starts directly after the last line of the one before (R209). `extra` bytes follow
each line in the gap after it (R235). -/
def payloadSize (format strideField w h : Nat) (extra : Nat := 0) : Nat :=
  let line := formatLine format w
  (formatPlanes format h).foldl (fun a n => a + (if n = 0 then 0 else strideOf strideField line * (n - 1) + line + extra)) 0

/-- Delivered width and height for a full frame (R208, R213); a checked line of a BYTES context is `cut` bytes shorter (R236). -/
def OutRec.size (r : OutRec) (b : Bind) (cut : Nat := 0) : Nat × Nat :=
  if b.kind = 3 then (b.width - cut, b.height)
  else
    let h := if r.resample then b.height * (r.rsRowsMax + 1) else r.outH
    if r.transposes then (h, r.outW) else (r.outW, h)

/-- Entries of the row-stamp table of a full frame: one for each delivered row, or column where the orientation transposes (R218). -/
def OutRec.stampRows (r : OutRec) (size : Nat × Nat) : Nat := if !r.stamps then 0 else if r.transposes then size.1 else size.2

/-- Format as it lies in host memory. -/
def OutRec.hostFormat (r : OutRec) (b : Bind) : Nat := if b.kind = 3 then 0xB else r.format

/-- Bytes that a full frame takes in its host buffer: payload, and the table at the first multiple of 64 after it (R216, R217). -/
def OutRec.hostBytes (r : OutRec) (b : Bind) (extra cut : Nat) : Nat :=
  let d := r.size b cut
  let n := payloadSize (r.hostFormat b) r.strideField d.1 d.2 extra
  if r.stamps then roundUp n 64 + 16 * r.stampRows d else n

end Sys2Proof.Machine
end

