-- ==== Sys2Proof/Machine/Pixel.lean ====
section
/-! DEFINITION. The stages of a Facet over the rows of one frame (06_facet_pipeline.md R173 to R192). A sample is a
20-bit number; a quotient is rounded to nearest, halves up (R175). -/
namespace Sys2Proof.Machine

/-- Rows of samples. -/
abbrev Img := List (List Nat)
/-- A pixel of three components. -/
structure Px where
  r : Nat
  g : Nat
  b : Nat
  deriving DecidableEq, Repr

def Px.zero : Px := { r := 0, g := 0, b := 0 }
/-- Rows of pixels. -/
abbrev PxImg := List (List Px)

def maxSample : Int := 1048575

/-- Clamp to 20 bits, and whether that changed the value (R175). -/
def clamp20 (v : Int) : Nat × Bool := if v < 0 then (0, true) else if maxSample < v then (1048575, true) else (v.toNat, false)
def sat20 (v : Int) : Nat := (clamp20 v).1

/-- Nearest integer, halves up. -/
def ratRound (q : Rat) : Int := (2 * q.num + q.den).fdiv (2 * q.den)
def ratFloor (q : Rat) : Int := q.num.fdiv q.den

/-- An index mirrored about the edge of n rows or columns (R176). -/
def mirrorIdx (n : Nat) (i : Int) : Nat :=
  if 0 ≤ i ∧ i < n then i.toNat
  else
    let j := if i < 0 then -i else 2 * ((n : Int) - 1) - i
    if 0 ≤ j ∧ j < n then j.toNat else Config.mirrorIndex n i % max 1 n

def imgH (im : List (List α)) : Nat := im.length
def imgW (im : List (List α)) : Nat := (im.headD []).length
/-- Sample at (x, y), mirrored beyond the frame. -/
def imgAt (im : Img) (x y : Int) : Nat := (im.getD (mirrorIdx (imgH im) y) []).getD (mirrorIdx (imgW im) x) 0
def pxAt (im : PxImg) (x y : Int) : Px := (im.getD (mirrorIdx (imgH im) y) []).getD (mirrorIdx (imgW im) x) .zero

/-- Build w × h values. -/
def grid (w h : Nat) (f : Nat → Nat → α) : List (List α) := (List.range h).map fun y => (List.range w).map fun x => f x y

def mapImg (f : Nat → Nat → α → β) (im : List (List α)) : List (List β) :=
  im.zipIdx.map fun r => r.1.zipIdx.map fun v => f v.2 r.2 v.1

/-- Split clamped values from how many were clamped. -/
def unzipClip (im : List (List (Nat × Bool))) : Img × Nat :=
  (im.map fun r => r.map fun v => v.1, im.foldl (fun a r => a + (r.filter fun v => v.2).length) 0)

/-! Stage 1 (R177). -/

/-- Bits of a sample of a RAW data type. -/
def rawBits (dt : Nat) : Nat :=
  match dt with
  | 0x2A => 8 | 0x2B => 10 | 0x2C => 12 | 0x2D => 14 | 0x2E => 16 | 0x2F => 20 | 0x27 => 24 | _ => 8

/-- Samples of one pixel group (03 Table 3-6a). -/
def groupSamples (dt : Nat) (b : List Nat) : List Nat :=
  let g := fun i => b.getD i 0
  match dt with
  | 0x2B => (List.range 4).map fun k => g k * 4 + g 4 / 4 ^ k % 4
  | 0x2C => (List.range 2).map fun k => g k * 16 + g 2 / 16 ^ k % 16
  | 0x2D => (List.range 4).map fun k => g k * 64 + (g 4 + 256 * g 5 + 65536 * g 6) / 64 ^ k % 64
  | 0x2E => [g 0 + 256 * g 1]
  | 0x2F => (List.range 2).map fun k => g k * 4096 + g (2 + k) * 16 + g 4 / 16 ^ k % 16
  | 0x27 => [g 0 + 256 * g 1 + 65536 * g 2]
  | 0x1E => [g 0, g 1, g 2, g 3]
  | _ => [g 0]

def groupsOf (dt n : Nat) : Nat → List Nat → List Nat
  | 0, _ => []
  | k + 1, bs => groupSamples dt (bs.take n) ++ groupsOf dt n k (bs.drop n)

/-- The samples of a line; those of a completing group beyond WIDTH are discarded (R495). -/
def unpackLine (dt w : Nat) (bytes : List Byte) : List Nat :=
  let g := pixelGroup dt
  (groupsOf dt g.2 (ceilDiv w g.1) (bytes.map BitVec.toNat)).take (if dt = 0x1E then 2 * w else w)

def kneeX (p : ParamSet) (k : Nat) : Nat := fld (paramGet p (128 + k)) 39 20
def kneeY (p : ParamSet) (k : Nat) : Nat := fld (paramGet p (128 + k)) 19 0
def kneeN (p : ParamSet) : Nat := fld (paramGet p 1) 20 15

/-- The curve of R177: the segment whose knee is the last not above x. -/
def decompand (p : ParamSet) (bits x : Nat) : Int :=
  let xs := 2 ^ (bits - 20)
  let k := ((List.range (kneeN p - 1)).filter fun k => decide (kneeX p k * xs ≤ x)).length - 1
  let x0 := kneeX p k * xs
  let d := (kneeX p (k + 1) - kneeX p k) * xs
  kneeY p k + roundDiv (((x : Int) - x0) * ((kneeY p (k + 1) : Int) - kneeY p k)) (max 1 d)

/-- Alignment to 20 bits. -/
def align20 (bits x : Nat) : Int := if bits = 24 then roundDiv x 16 else (x * 2 ^ (20 - bits) : Nat)

def stage1 (p : ParamSet) (dt w : Nat) (rows : List (List Byte)) : Img × Nat :=
  let n := rawBits dt
  unzipClip (rows.map fun r => (unpackLine dt w r).map fun x => clamp20 (if stageEn p 1 then decompand p n x else align20 n x))

/-! Stage 2 (R178). -/

/-- Position of a sample in its 2 × 2 cell. -/
def cell (x y : Nat) : Nat := y % 2 * 2 + x % 2

def stage2 (p : ParamSet) (im : Img) : Img :=
  if stageEn p 2 then mapImg (fun x y v => v - paramPair p 2 (cell x y)) im else im

/-! Stage 3 (R179, R180). -/

/-- The map lists the sample at (x, y). -/
def defectAt (scan mono : Bool) (map : List Word) (x y : Nat) : Bool :=
  map.any fun e =>
    let ex := fld e 23 10
    let ey := fld e 39 24
    let row := scan || ey == y
    match fld e 9 8 with
    | 0 => row && ex == x
    | 1 => row && (ex == x || ex + (if mono then 1 else 2) == x)
    | 2 => ex == x && decide (ey ≤ y)
    | _ => false

/-- Offsets of the eight same-colour neighbours. -/
def neighbourOffsets (mono : Bool) : List (Int × Int) :=
  let d : Int := if mono then 1 else 2
  [(-d, -d), (0, -d), (d, -d), (-d, 0), (d, 0), (-d, d), (0, d), (d, d)]

/-- Median; of an even count the mean of the two middle values. -/
def median (l : List Int) : Int :=
  let s := l.foldl (fun (acc : List Int) v => (acc.filter fun a => decide (a ≤ v)) ++ v :: acc.filter fun a => decide (v < a)) []
  let n := s.length
  if n % 2 = 1 then s.getD (n / 2) 0 else roundDiv (s.getD (n / 2 - 1) 0 + s.getD (n / 2) 0) 2

/-- The neighbours that count. -/
def goodNeighbours (scan mono : Bool) (map : List Word) (im : Img) (x y : Nat) : List Int :=
  let at_ := (neighbourOffsets mono).map fun o => (mirrorIdx (imgW im) ((x : Int) + o.1), mirrorIdx (imgH im) ((y : Int) + o.2))
  (at_.filter fun q => !defectAt scan mono map q.1 q.2).map fun q => ((imgAt im (q.1 : Int) (q.2 : Int) : Nat) : Int)

/-- One row of stage 3, left to right: the row so far (newest first) and the dynamic defects met. -/
def stage3Row (p : ParamSet) (scan mono : Bool) (map : List Word) (im : Img) (y : Nat) : List Nat × Nat :=
  let step : Int := if mono then 1 else 2
  let thresh := fld (paramGet p 6) 39 20
  let ratio := fld (paramGet p 6) 19 12
  let r := (List.range (imgW im)).foldl (fun (acc : List Nat × Nat) (x : Nat) =>
    let v : Int := ((imgAt im (x : Int) (y : Int) : Nat) : Int)
    let near := goodNeighbours scan mono map im x y
    if defectAt scan mono map x y then
      let fixed : Nat := match near with
        | [] => if (x : Int) < step then Config.openSample 0 x y % 1048576 else acc.1.getD (step.toNat - 1) 0
        | _ => (median near).toNat
      (fixed :: acc.1, acc.2)
    else if (thresh == 0 && ratio == 0) || near.isEmpty then (v.toNat :: acc.1, acc.2)
    else
      let mx := near.foldl max 0
      let mn := near.foldl min maxSample
      if mx + thresh + roundDiv (mx * ratio) 256 < v || v < mn - thresh - roundDiv (mn * ratio) 256 then ((median near).toNat :: acc.1, acc.2 + 1)
      else (v.toNat :: acc.1, acc.2)) ([], 0)
  (r.1.reverse, r.2)

def stage3 (p : ParamSet) (scan : Bool) (map : List Word) (im : Img) : Img × Nat :=
  if !stageEn p 3 then (im, 0)
  else
    let mono := cfaOf p == 0
    let used := map.take (fld (paramGet p 1) 37 21)
    let rows := (List.range (imgH im)).map fun y => stage3Row p scan mono used im y
    (rows.map fun r => r.1, sumOf (rows.map fun r => r.2))
where
  sumOf (l : List Nat) : Nat := l.foldl (· + ·) 0

/-! Stage 4 (R181). -/

/-- Gain of position q at node (i, j), u4.16. -/
def shadeGain (grid : List Word) (q i j : Nat) : Nat :=
  let w := grid.getD (2 * (65 * j + i) + q / 2) 0
  if q % 2 = 0 then fld w 39 20 else fld w 19 0

def stage4 (p : ParamSet) (scan : Bool) (shade : List Word) (im : Img) (width height : Nat) : Img × Nat :=
  if !stageEn p 4 then (im, 0)
  else
    unzipClip (mapImg (fun x y v =>
      let q := cell x y
      let u := (roundDiv ((x * 64 * 65536 : Nat) : Int) (max 1 width)).toNat
      let w := if scan then 0 else (roundDiv ((y * 48 * 65536 : Nat) : Int) (max 1 height)).toNat
      let i := min 63 (u / 65536)
      let j := min 47 (w / 65536)
      let a := u - i * 65536
      let b := w - j * 65536
      let g := shadeGain shade q i j * (65536 - a) * (65536 - b) + shadeGain shade q (i + 1) j * a * (65536 - b) +
        shadeGain shade q i (j + 1) * (65536 - a) * b + shadeGain shade q (i + 1) (j + 1) * a * b
      clamp20 (roundDiv ((v * g : Nat) : Int) (2 ^ 48))) im)

/-! Stage 5 (R182). -/

def stage5 (p : ParamSet) (im : Img) : Img × Nat :=
  if !stageEn p 5 then (im, 0)
  else unzipClip (mapImg (fun x y v => clamp20 (roundDiv ((v * paramPair p 4 (cell x y) : Nat) : Int) 65536)) im)

/-! Stage 7 (R183). -/

/-- Colours at positions 0 to 3: 0 R, 1 G or C, 2 B (Table 6-2). -/
def cfaColours (cfa : Nat) : List Nat :=
  match cfa with
  | 1 | 5 => [0, 1, 1, 2] | 2 | 6 => [1, 0, 2, 1] | 3 | 7 => [1, 2, 0, 1] | 4 | 8 => [2, 1, 1, 0] | _ => [1, 1, 1, 1]

def colourAt (cfa x y : Nat) : Nat := (cfaColours cfa).getD (cell x y) 1

/-- G at every site, not yet clamped. (log 108 DEDUCED) -/
def demosaicG (p : ParamSet) (im : Img) : List (List Int) :=
  mapImg (fun (x y v : Nat) =>
    if colourAt (cfaOf p) x y = 1 then ((v : Nat) : Int)
    else
      let s := fun (dx dy : Int) => ((imgAt im ((x : Int) + dx) ((y : Int) + dy) : Nat) : Int)
      let c : Int := (v : Int)
      let lh := 2 * c - s (-2) 0 - s 2 0
      let lv := 2 * c - s 0 (-2) - s 0 2
      let dh : Int := ((s (-1) 0 - s 1 0).natAbs + lh.natAbs : Nat)
      let dv : Int := ((s 0 (-1) - s 0 1).natAbs + lv.natAbs : Nat)
      let gh := roundDiv (s (-1) 0 + s 1 0) 2 + roundDiv lh 4
      let gv := roundDiv (s 0 (-1) + s 0 1) 2 + roundDiv lv 4
      let edge : Int := 256 - fld (paramGet p 10) 39 32
      if 256 * dh < edge * dv then gh else if 256 * dv < edge * dh then gv else roundDiv (gh + gv) 2) im

def intAt (im : List (List Int)) (x y : Int) : Int := (im.getD (mirrorIdx (imgH im) y) []).getD (mirrorIdx (imgW im) x) 0

/-- Colour difference of colour `k` (0 R, 2 B) at every site. (log 108 DEDUCED) -/
def colourDiff (cfa k : Nat) (im : Img) (g : List (List Int)) : List (List Int) :=
  let own := fun (x y : Int) => ((imgAt im x y : Nat) : Int) - intAt g x y
  mapImg (fun x y _ =>
    let xi : Int := x
    let yi : Int := y
    let here := colourAt cfa x y
    if here = k then own xi yi
    else if here = 1 then
      if colourAt cfa (x + 1) y = k then roundDiv (own (xi - 1) yi + own (xi + 1) yi) 2
      else roundDiv (own xi (yi - 1) + own xi (yi + 1)) 2
    else roundDiv (own (xi - 1) (yi - 1) + own (xi + 1) (yi - 1) + own (xi - 1) (yi + 1) + own (xi + 1) (yi + 1)) 4) im

/-- False-colour suppression. -/
def suppress (fcs : Nat) (d : List (List Int)) : List (List Int) :=
  if fcs = 0 then d
  else mapImg (fun x y (v : Int) =>
    let near := [(-1, -1), (0, -1), (1, -1), (-1, 0), (0, 0), (1, 0), (-1, 1), (0, 1), ((1 : Int), (1 : Int))].map fun o => intAt d ((x : Int) + o.1) ((y : Int) + o.2)
    v + roundDiv ((median near - v) * fcs) 256) d

def stage7 (p : ParamSet) (im : Img) : PxImg :=
  if !stageEn p 7 || cfaOf p == 0 then mapImg (fun _ _ v => { r := v, g := v, b := v }) im
  else
    let g := demosaicG p im
    let fcs := fld (paramGet p 10) 31 24
    let dr := suppress fcs (colourDiff (cfaOf p) 0 im g)
    let db := suppress fcs (colourDiff (cfaOf p) 2 im g)
    mapImg (fun x y _ =>
      let c := intAt g x y
      { r := sat20 (c + intAt dr x y), g := sat20 c, b := sat20 (c + intAt db x y) }) im

/-! Luma and conversions (R174, R188, R189). -/

/-- KR, KG, KB of a standard: 0 BT.709, 1 BT.601, 2 BT.2020 (Table 6-4). -/
def lumaK (sel : Nat) : Nat × Nat × Nat :=
  match sel with | 1 => (19595, 38470, 7471) | 2 => (17216, 44433, 3887) | _ => (13933, 46871, 4732)

/-- Y of R188. -/
def lumaY (sel : Nat) (q : Px) : Nat :=
  let k := lumaK sel
  (k.1 * q.r + k.2.1 * q.g + k.2.2 * q.b + 32768) / 65536

/-- Standard and range of a conversion code (Table 6-5): the LUMA_SEL code, and narrow. -/
def cscOfCode (c : Nat) : Nat × Bool :=
  match c with | 1 => (1, false) | 2 => (1, true) | 3 => (0, false) | 4 => (0, true) | 5 => (2, false) | _ => (2, true)

/-- R, G, B to Y, Cb, Cr in 20 bits; code 0 leaves R, G, B (R189). (log 108 DEDUCED) -/
def convert (c : Nat) (q : Px) : Px :=
  if c = 0 then q
  else
    let s := cscOfCode c
    let k := lumaK s.1
    let y : Int := lumaY s.1 q
    let chroma := fun (v : Nat) (kv : Nat) =>
      if s.2 then 524288 + roundDiv (((v : Int) - y) * 65536 * 917504) (2 * (65536 - kv) * 1048575)
      else 524288 + roundDiv (((v : Int) - y) * 65536) (2 * (65536 - kv))
    { r := sat20 (if s.2 then 65536 + roundDiv (y * 897024) 1048575 else y), g := sat20 (chroma q.b k.2.2), b := sat20 (chroma q.r k.1) }

/-- The inverse of a conversion, exact, with Y, Cb, Cr given on the 20-bit scale; components in [0, 2^20 − 1] unrounded. -/
def unconvert (c : Nat) (y cb cr : Rat) : Rat × Rat × Rat :=
  if c = 0 then (y, cb, cr)
  else
    let s := cscOfCode c
    let k := lumaK s.1
    let full : Rat := 1048575
    let yv := if s.2 then (y - 65536) * full / 897024 else y
    let ch := fun (v : Rat) => if s.2 then (v - 524288) * full / 917504 else v - 524288
    let kr : Rat := (k.1 : Rat) / 65536
    let kg : Rat := (k.2.1 : Rat) / 65536
    let kb : Rat := (k.2.2 : Rat) / 65536
    let r := yv + 2 * (1 - kr) * ch cr
    let b := yv + 2 * (1 - kb) * ch cb
    (r, (yv - kr * r - kb * b) / kg, b)

/-- The pixels of a YUV line: value × 4096, chroma repeated, the inverse of BT.709 narrow range (R174). -/
def yuvRow (s : List Nat) : List Px :=
  (List.range (s.length / 2)).map fun x =>
    let base := x / 2 * 4
    let v := unconvert 4 (s.getD (base + 1 + 2 * (x % 2)) 0 * 4096 : Nat) (s.getD base 0 * 4096 : Nat) (s.getD (base + 2) 0 * 4096 : Nat)
    { r := sat20 (ratRound v.1), g := sat20 (ratRound v.2.1), b := sat20 (ratRound v.2.2) }

/-! Stage 8 (R184). -/

/-- Coefficient C_ij, s3.16. -/
def matrixC (p : ParamSet) (i j : Nat) : Int := signed 20 (paramPair p 11 (3 * i + j))

def stage8 (p : ParamSet) (im : PxImg) : PxImg × Nat :=
  if !stageEn p 8 then (im, 0)
  else
    let row := fun (i : Nat) (q : Px) =>
      clamp20 (roundDiv (matrixC p i 0 * q.r + matrixC p i 1 * q.g + matrixC p i 2 * q.b + signed 20 (paramPair p 16 i) * 65536) 65536)
    let out := mapImg (fun _ _ q => (row 0 q, row 1 q, row 2 q)) im
    (mapImg (fun _ _ v => { r := v.1.1, g := v.2.1.1, b := v.2.2.1 }) out,
     out.foldl (fun a r => r.foldl (fun a v => a + b2n v.1.2 + b2n v.2.1.2 + b2n v.2.2.2) a) 0)

/-! Stage 9 (R185). -/

/-- σ of the noise model at L, given as 4 L. -/
def noiseSigma (p : ParamSet) (l4 : Nat) : Rat :=
  let l : Rat := (l4 : Rat) / 4
  let s := fun k => (paramPair p 18 k : Rat)
  if l < 4096 then s 0
  else if (524288 : Rat) ≤ l then s 7
  else
    let k := Nat.log2 (l4 / 4) - 12
    let x0 : Rat := ((2 ^ (12 + k) : Nat) : Rat)
    s k + (l - x0) * (s (k + 1) - s k) / x0

/-- One component filtered at a centre: 25 samples, T, strength in 1/256; samples in units of 1/unit. -/
def nrFilter (samples : List Int) (c : Int) (t : Rat) (strength unit : Nat) : Rat :=
  let w := fun (v : Int) => let d : Rat := (((v - c).natAbs : Nat) : Rat) / (unit : Rat); if d < t then t - d else 0
  let sw := samples.foldl (fun (a : Rat) v => a + w v) 0
  let swv := samples.foldl (fun (a : Rat) v => a + w v * (v : Rat)) 0
  (c : Rat) + (strength : Rat) / 256 * (swv / sw - c)

def window25 : List (Int × Int) := ([-2, -1, 0, 1, 2] : List Int).flatMap fun dy => ([-2, -1, 0, 1, 2] : List Int).map fun dx => (dx, dy)

def stage9 (p : ParamSet) (im : PxImg) : PxImg :=
  let sl := fld (paramGet p 10) 23 16
  let sc := fld (paramGet p 10) 15 8
  if !stageEn p 9 || (sl == 0 && sc == 0) then im
  else
    let edge : Rat := (fld (paramGet p 10) 7 0 : Rat)
    let l4 := fun (q : Px) => q.r + 2 * q.g + q.b
    mapImg (fun x y c =>
      let near := window25.map fun o => pxAt im ((x : Int) + o.1) ((y : Int) + o.2)
      let t := max 1 (edge * noiseSigma p (l4 c) / 16)
      let l := nrFilter (near.map fun q => (l4 q : Int)) (l4 c) t sl 4
      let mono := cfaOf p == 0
      let u := if mono then ((c.b : Int) - c.g : Rat) else nrFilter (near.map fun q => (q.b : Int) - q.g) ((c.b : Int) - c.g) t sc 1
      let v := if mono then ((c.r : Int) - c.g : Rat) else nrFilter (near.map fun q => (q.r : Int) - q.g) ((c.r : Int) - c.g) t sc 1
      let g := (l - u - v) / 4
      { r := sat20 (ratRound (v + g)), g := sat20 (ratRound g), b := sat20 (ratRound (u + g)) }) im

/-! Stage 10 (R186, R187). -/

/-- First column of zone i of n over `len`, and one past its last (R191). -/
def zoneStart (n len i : Nat) : Nat := i * len / max 1 n

/-- 256 × log2 v, truncated; of 0 the open value. -/
def log2q (which v : Nat) : Int := if v = 0 then Config.logOfZero which else (Nat.log2 (v ^ 256) : Int)

/-- 2^(e / 65 536) in 1/65 536, to the nearest, at most 2^20 − 1. -/
def pow2q (e : Int) : Nat :=
  let bound : Nat := 2 ^ (65536 + 1048576 + max (-1114112) e).toNat
  let step := fun (acc : Nat) k => let g := acc + 2 ^ k; if (2 * g - 1) ^ 65536 ≤ bound then g else acc
  min 1048575 (([20, 19, 18, 17, 16, 15, 14, 13, 12, 11, 10, 9, 8, 7, 6, 5, 4, 3, 2, 1, 0] : List Nat).foldl step 0)

/-- Centre of zone i, twice its coordinate. -/
def zoneCentre2 (len i : Nat) : Int := (zoneStart 32 len i + zoneStart 32 len (i + 1) : Int) - 1

/-- The pair of zones about a coordinate, and the weight of the second. -/
def zonePair (len v : Nat) : Nat × Nat × Rat :=
  let below := (List.range 32).filter fun i => decide (zoneCentre2 len i ≤ 2 * v)
  let i := below.length - 1
  if below.isEmpty then (0, 0, 0)
  else if i = 31 then (31, 31, 0)
  else
    let a := zoneCentre2 len i
    let b := zoneCentre2 len (i + 1)
    (i, i + 1, if a = b then 0 else ((2 * v - a : Int) : Rat) / ((b - a : Int) : Rat))

/-- Mean L over the zones of a frame of nominal height h, halves up; a zone that no row received reaches has an open value. (log 62 DEDUCED) -/
def zoneMeans (h : Nat) (im : PxImg) : List Nat :=
  let w := imgW im
  (List.range 1024).map fun z =>
    let x0 := zoneStart 32 w (z % 32)
    let x1 := zoneStart 32 w (z % 32 + 1)
    let y0 := zoneStart 32 h (z / 32)
    let y1 := min (imgH im) (zoneStart 32 h (z / 32 + 1))
    let n := (x1 - x0) * (y1 - y0)
    if n = 0 then Config.openSample 1 (z % 32) (z / 32) % 1048576
    else
      let s := ((im.take y1).drop y0).foldl (fun a r => ((r.take x1).drop x0).foldl (fun a q => a + q.r + 2 * q.g + q.b) a) 0
      (roundDiv (s : Int) (4 * n)).toNat

/-- Strength map entry of a zone. -/
def strengthAt (p : ParamSet) (e : Nat) : Nat := fld (paramGet p (2216 + e / 5)) (39 - 8 * (e % 5)) (32 - 8 * (e % 5))

/-- Gain of local contrast at a pixel, u4.16 (R186). -/
def lcGain (p : ParamSet) (lc : Option (List Nat)) (w h x y : Nat) : Nat :=
  match lc with
  | none => 65536
  | some z =>
    let f := (roundDiv ((z.foldl (· + ·) 0 : Nat) : Int) 1024).toNat
    let px := zonePair w x
    let py := zonePair h y
    let v := fun i j => (z.getD (32 * j + i) 0 : Rat)
    let top := v px.1 py.1 + (v px.2.1 py.1 - v px.1 py.1) * px.2.2
    let bot := v px.1 py.2.1 + (v px.2.1 py.2.1 - v px.1 py.2.1) * px.2.2
    let m := (ratRound (top + (bot - top) * py.2.2)).toNat
    let zx := ((List.range 32).filter fun i => decide (zoneStart 32 w i ≤ x)).length - 1
    let zy := ((List.range 32).filter fun i => decide (zoneStart 32 h i ≤ y)).length - 1
    let alpha : Int := strengthAt p (32 * zy + zx)
    let g := if alpha = 0 then 65536 else pow2q (alpha * (log2q 0 f - log2q 1 m))
    max (paramPair p 22 0) (min (paramPair p 22 1) g)

/-- Integer square root below 2^20. -/
def isqrt (v : Nat) : Nat :=
  ([10, 9, 8, 7, 6, 5, 4, 3, 2, 1, 0] : List Nat).foldl (fun acc k => if (acc + 2 ^ k) ^ 2 ≤ v then acc + 2 ^ k else acc) 0

/-- A 1024-point curve at words `first` onward; square domain or linear (R187). -/
def curveAt (p : ParamSet) (first : Nat) (square : Bool) (x : Nat) : Int :=
  let k := if square then min 1022 (isqrt x) else min 1022 (x / 1024)
  let x0 := if square then k * k else 1024 * k
  let d := if square then 2 * k + 1 else 1024
  let y0 : Int := paramPair p first k
  let y1 : Int := paramPair p first (k + 1)
  y0 + roundDiv (((x : Int) - x0) * (y1 - y0)) d

def stage10 (p : ParamSet) (lc : Option (List Nat)) (h : Nat) (im : PxImg) : PxImg × Nat :=
  if !stageEn p 10 then (im, 0)
  else
    let w := imgW im
    let square := fld (paramGet p 0) 19 18 == 1
    let out := mapImg (fun x y q =>
      let g := lcGain p lc w h x y
      let f := fun (v : Nat) => clamp20 (curveAt p 168 square (roundDiv ((v * g : Nat) : Int) 65536).toNat)
      (f q.r, f q.g, f q.b)) im
    (mapImg (fun _ _ v => { r := v.1.1, g := v.2.1.1, b := v.2.2.1 }) out,
     out.foldl (fun a r => r.foldl (fun a v => a + b2n v.1.2 + b2n v.2.1.2 + b2n v.2.2.2) a) 0)

/-! The whole of stages 1 to 10. -/

/-- What the stages make of a frame's rows. -/
structure Staged where
  /-- Output of stage 5, one sample per pixel; empty for YUV. -/
  mosaic : Img
  /-- Output of stage 9. -/
  linear : PxImg
  /-- Output of stage 10. -/
  toned : PxImg
  clipped : Nat
  dynamic : Nat
  /-- Mean L of the zones at the input of stage 10. -/
  means : List Nat
  deriving DecidableEq, Repr

/-- Stages 1 to 10 over a frame (R173, R174). -/
def runStages (b : Bind) (p : ParamSet) (shade defects : List Word) (lc : Option (List Nat)) (rows : List (List Byte)) : Staged :=
  let scan := b.kind == 1
  let raw := stage1 p b.dt b.width rows
  let s3 := stage3 p scan defects (stage2 p raw.1)
  let s4 := stage4 p scan shade s3.1 b.width b.height
  let s5 := stage5 p s4.1
  let yuv := b.kind == 2
  let s7 := if yuv then rows.map fun r => yuvRow (unpackLine b.dt b.width r) else stage7 p s5.1
  let s8 := stage8 p s7
  let s9 := stage9 p s8.1
  let s10 := stage10 p lc b.height s9
  { mosaic := if yuv then [] else s5.1, linear := s9, toned := s10.1
    clipped := (if yuv then 0 else raw.2 + s4.2 + s5.2) + s8.2 + s10.2, dynamic := if yuv then 0 else s3.2, means := zoneMeans b.height s9 }

/-- Rows after its own that a row of stage 10 depends on: the windows of the stages in use (R180, R182, R183, R185). -/
def rowReach (b : Bind) (p : ParamSet) : Nat :=
  if b.kind = 3 then 0
  else
    let raw := if b.kind = 2 then 0
      else (if stageEn p 3 then 2 else 0) + (if !stageEn p 7 || cfaOf p == 0 then 0 else 3 + b2n (fld (paramGet p 10) 31 24 != 0))
    raw + (if stageEn p 9 && (fld (paramGet p 10) 23 16 != 0 || fld (paramGet p 10) 15 8 != 0) then 2 else 0)

/-! Statistics (R190 to R192). -/

def histBin (log : Bool) (v : Nat) : Nat :=
  if !log then v / 4096
  else if v < 16 then 0
  else
    let e := Nat.log2 v
    16 * (e - 4) + v / 2 ^ (e - 4) % 16

/-- Add to a word of the record's body, saturating at 40 bits; whether it stopped there. -/
def addWord (body : List (Nat × Word)) (i k : Nat) : List (Nat × Word) × Bool :=
  let v := (bankGet (fun _ => (0 : Word)) body i).toNat + k
  if 2 ^ 40 ≤ v then (bankSet (fun _ => (0 : Word)) body i (BitVec.ofNat 40 (2 ^ 40 - 1)), true)
  else (bankSet (fun _ => (0 : Word)) body i (BitVec.ofNat 40 v), false)

/-- The zone of a coordinate in the window, if it lies there (R191). -/
def zoneOf (n x0 len v : Nat) : Option Nat :=
  if v < x0 ∨ x0 + len ≤ v then none else some (((List.range n).filter fun i => decide (x0 + zoneStart n len i ≤ v)).length - 1)

/-- The body of a record being formed. -/
structure StatsAcc where
  body : List (Nat × Word)
  sumSat : Bool
  sat : Nat
  deriving DecidableEq, Repr

def StatsAcc.count (a : StatsAcc) (i : Nat) : StatsAcc := { a with body := (addWord a.body i 1).1 }
def StatsAcc.zone (a : StatsAcc) (i k : Nat) : StatsAcc :=
  let r := addWord a.body i k
  { a with body := r.1, sumSat := a.sumSat || r.2 }

def statsZonesX (p : ParamSet) : Nat := fld (paramGet p 7) 19 14
def statsZonesY (p : ParamSet) : Nat := fld (paramGet p 7) 13 8

/-- Index of a pixel's zone words, if it lies in the window. (log 62 DEDUCED) -/
def zoneWords (p : ParamSet) (w h x y : Nat) : Option Nat :=
  let whole := fld (paramGet p 9) 39 25 == 0 || fld (paramGet p 9) 24 9 == 0
  let x0 := if whole then 0 else fld (paramGet p 8) 39 26
  let y0 := if whole then 0 else fld (paramGet p 8) 25 10
  let ww := if whole then w else fld (paramGet p 9) 39 25
  let wh := if whole then h else fld (paramGet p 9) 24 9
  match zoneOf (statsZonesX p) x0 ww x, zoneOf (statsZonesY p) y0 wh y with
  | some i, some j => some (1032 + 5 * (j * statsZonesX p + i))
  | _, _ => none

/-- Tap A over the mosaic (R190, R191). -/
def tapA (p : ParamSet) (w h : Nat) (im : Img) (a : StatsAcc) : StatsAcc :=
  let log := fld (paramGet p 0) 23 22 == 1
  let sat := fld (paramGet p 7) 39 20
  im.zipIdx.foldl (fun a r => r.1.zipIdx.foldl (fun (a : StatsAcc) v =>
    let k := if cfaOf p = 0 then 1 else colourAt (cfaOf p) v.2 r.2
    let a := a.count (8 + 256 * k + histBin log v.1)
    let isOver := decide (sat ≤ v.1)
    let a := { a with sat := a.sat + b2n isOver }
    match zoneWords p w h v.2 r.2 with
    | none => a
    | some z => let a := a.zone (z + k) v.1; if isOver then a.zone (z + 3) 1 else a) a) a

/-- Tap B over the finished picture (R188, R190, R191). (log 62 DEDUCED) -/
def tapB (p : ParamSet) (w h : Nat) (im : PxImg) (a : StatsAcc) : StatsAcc :=
  let log := fld (paramGet p 0) 23 22 == 1
  let sel := fld (paramGet p 0) 21 20
  im.zipIdx.foldl (fun a r => r.1.zipIdx.foldl (fun (a : StatsAcc) v =>
    let y := if cfaOf p = 0 then v.1.r else lumaY sel v.1
    let a := a.count (776 + histBin log y)
    match zoneWords p w h v.2 r.2 with
    | none => a
    | some z => a.zone (z + 4) y) a) a

/-- Both taps of a frame. -/
def frameStats (b : Bind) (p : ParamSet) (s : Staged) : StatsAcc :=
  let a : StatsAcc := { body := [], sumSat := false, sat := 0 }
  let a := if stageEn p 6 && b.kind != 2 then tapA p b.width b.height s.mosaic a else a
  if stageEn p 11 then tapB p b.width b.height s.toned a else a

end Sys2Proof.Machine
end

