-- ==== Sys2Proof/Machine/Crypto.lean ====
section
/-! DEFINITION. The published functions that the manual names: SHAKE256 (FIPS 202), KMAC256 (SP 800-185), Ed448 with
context strings (RFC 8032) (00_scope.md R6; 13_security.md R395, R398), CRC-32C (07 R233), CRC-16 of command frames
(03 R89), CRC-8 of training frames (02 R60), and the ECC and footer checksum of CSI-2 (03 R85, R86). -/
namespace Sys2Proof.Machine

/-! Keccak (FIPS 202), by its definitions: nothing of it is tabulated. Lane (x, y) stands at 5y + x. -/

/-- One lane of the state, coordinates taken mod 5. -/
def keccakLane (a : List (BitVec 64)) (x y : Nat) : BitVec 64 := a.getD (y % 5 * 5 + x % 5) 0

/-- The state whose lane (x, y) is f x y. -/
def keccakOf (f : Nat → Nat → BitVec 64) : List (BitVec 64) :=
  (List.range 5).flatMap fun y => (List.range 5).map fun x => f x y

/-- The generator of the round constants after t clocks: x^8 + x^6 + x^5 + x^4 + 1, first value 1. -/
def keccakClock : Nat → Nat
  | 0 => 1
  | t + 1 => let r := 2 * keccakClock t; if r < 256 then r else r ^^^ 0x171

/-- Constant of round i: bit 2^j - 1 is the generator's output after 7i + j clocks, j from 0 to 6. -/
def keccakIota (i : Nat) : BitVec 64 :=
  BitVec.ofNat 64 ((List.range 7).map fun j => keccakClock (7 * i + j) % 2 * 2 ^ (2 ^ j - 1)).sum

/-- Lanes in the order in which the rotations are numbered, from (1, 0): after (x, y) comes (y, 2x + 3y). -/
def keccakPath : Nat → Nat × Nat → List (Nat × Nat)
  | 0, _ => []
  | n + 1, (x, y) => (x, y) :: keccakPath n (y, (2 * x + 3 * y) % 5)

/-- Rotation of lane (x, y): the triangular number of its place on the path; lane (0, 0) is not turned. -/
def keccakTurn (x y : Nat) : Nat :=
  match (keccakPath 24 (1, 0)).findIdx? (· == (x, y)) with
  | some t => (t + 1) * (t + 2) / 2 % 64
  | none => 0

/-- Column parities added to both neighbouring columns. -/
def keccakTheta (a : List (BitVec 64)) : List (BitVec 64) :=
  let parity := (List.range 5).map fun x => (List.range 5).foldl (fun p y => p ^^^ keccakLane a x y) 0
  keccakOf fun x y => parity.getD ((x + 4) % 5) 0 ^^^ keccakLane a x y ^^^ (parity.getD ((x + 1) % 5) 0).rotateLeft 1

/-- Each lane turned and moved: what stood at (x, y) stands at (y, 2x + 3y). -/
def keccakScatter (a : List (BitVec 64)) : List (BitVec 64) :=
  (List.range 5).foldl (fun b y => (List.range 5).foldl (fun b x =>
    b.set ((2 * x + 3 * y) % 5 * 5 + y) ((keccakLane a x y).rotateLeft (keccakTurn x y))) b) a

/-- Each row mixed with the two lanes to its right. -/
def keccakChi (a : List (BitVec 64)) : List (BitVec 64) :=
  keccakOf fun x y => keccakLane a x y ^^^ (keccakLane a (x + 2) y &&& ~~~ keccakLane a (x + 1) y)

/-- The 24 rounds. -/
def keccakF (a : List (BitVec 64)) : List (BitVec 64) :=
  (List.range 24).foldl (fun a i => (keccakChi (keccakScatter (keccakTheta a))).modify 0 (keccakIota i ^^^ ·)) a

/-- The 17 lanes of a 136-byte block. -/
def keccakLanes : Nat → List Byte → List (BitVec 64)
  | 0, _ => []
  | n + 1, bs => BitVec.ofNat 64 (natLE (bs.take 8)) :: keccakLanes n (bs.drop 8)

/-- The state after n blocks. -/
def keccakAbsorb : Nat → List Byte → List (BitVec 64) → List (BitVec 64)
  | 0, _, a => a
  | n + 1, bs, a =>
    let block := keccakLanes 17 bs
    keccakAbsorb n (bs.drop 136) (keccakF (a.mapIdx fun i l => l ^^^ block.getD i 0))

def keccakSqueeze : Nat → List (BitVec 64) → List Byte
  | 0, _ => []
  | n + 1, a => (a.take 17).flatMap (fun l => bytesLE 8 l.toNat) ++ keccakSqueeze n (keccakF a)

/-- The sponge of rate 136 bytes with domain byte d, n bytes out. -/
def sponge (d : Nat) (m : List Byte) (n : Nat) : List Byte :=
  let k := m.length / 136 + 1
  let padded := m ++ [BitVec.ofNat 8 d] ++ List.replicate (k * 136 - m.length - 1) 0
  let last := k * 136 - 1
  let padded := padded.set last (padded.getD last 0 ||| 0x80)
  (keccakSqueeze (ceilDiv n 136) (keccakAbsorb k padded (List.replicate 25 0))).take n

/-- SHAKE256, n bytes out. -/
def shake256 (m : List Byte) (n : Nat) : List Byte := sponge 0x1F m n

/-- ASCII bytes of a string, without terminator (09 R274). -/
def ascii (t : String) : List Byte := t.toList.map fun c => BitVec.ofNat 8 c.toNat

/-- Bytes that a number needs, least 1. -/
def byteLen (v : Nat) : Nat := if v < 256 then 1 else if v < 65536 then 2 else if v < 16777216 then 3 else if v < 4294967296 then 4 else 8

def leftEncode (v : Nat) : List Byte := BitVec.ofNat 8 (byteLen v) :: bytesBE (byteLen v) v
def rightEncode (v : Nat) : List Byte := bytesBE (byteLen v) v ++ [BitVec.ofNat 8 (byteLen v)]
def encodeString (b : List Byte) : List Byte := leftEncode (8 * b.length) ++ b
def bytepad (b : List Byte) : List Byte :=
  let b := leftEncode 136 ++ b
  b ++ List.replicate (ceilDiv b.length 136 * 136 - b.length) 0

/-- KMAC256(key, message, 8·n bits, custom). -/
def kmac256 (key m : List Byte) (n : Nat) (custom : String) : List Byte :=
  sponge 0x04 (bytepad (encodeString (ascii "KMAC") ++ encodeString (ascii custom)) ++ bytepad (encodeString key) ++ m ++ rightEncode (8 * n)) n

/-! Ed448. -/

def edP : Nat := 2 ^ 448 - 2 ^ 224 - 1
def edL : Nat := 2 ^ 446 - 13818066809895115352007386748515426880336692474882178609894547503885
def edD : Nat := edP - 39081
def edBase : Nat × Nat × Nat :=
  (224580040295924300187604334099896036246789641632564134246125461686950415467406032909029192869357953282578032075146446173674602635247710,
   298819210078481492676017930443930673437544040154080242095928241372331506189835876003536878655418784733982303233503462500531545062832660, 1)

def powMod (b : Nat) : Nat → Nat → Nat → Nat
  | 0, _, _ => 1
  | n + 1, e, m => let h := powMod b n (e / 2) m; let q := h * h % m; if e % 2 = 1 then q * b % m else q

def edInv (a : Nat) : Nat := powMod a 448 (edP - 2) edP

/-- Addition in projective coordinates (RFC 8032, 5.2.4). -/
def edAdd (p q : Nat × Nat × Nat) : Nat × Nat × Nat :=
  let a := p.2.2 * q.2.2 % edP
  let b := a * a % edP
  let c := p.1 * q.1 % edP
  let d := p.2.1 * q.2.1 % edP
  let e := edD * (c * d % edP) % edP
  let f := (b + edP - e) % edP
  let g := (b + e) % edP
  let h := (p.1 + p.2.1) * (q.1 + q.2.1) % edP
  (a * f % edP * ((h + 2 * edP - c - d) % edP) % edP, a * g % edP * ((d + edP - c) % edP) % edP, f * g % edP)

def edMul (p : Nat × Nat × Nat) : Nat → Nat → Nat × Nat × Nat
  | 0, _ => (0, 1, 1)
  | n + 1, k => let h := edMul p n (k / 2); let q := edAdd h h; if k % 2 = 1 then edAdd q p else q

def edEncode (p : Nat × Nat × Nat) : List Byte :=
  let z := edInv p.2.2
  bytesLE 56 (p.2.1 * z % edP) ++ [if p.1 * z % edP % 2 = 1 then 0x80 else 0]

def edDecode (b : List Byte) : Option (Nat × Nat × Nat) :=
  let y := natLE (b.take 56)
  let top := (b.getD 56 0).toNat
  if b.length ≠ 57 || y ≥ edP || top % 128 ≠ 0 then none else
    let u := (y * y + edP - 1) % edP
    let v := (edD * (y * y % edP) + edP - 1) % edP
    let x := u * u % edP * u % edP * v % edP * powMod (u * u % edP * u % edP * u % edP * u % edP * (v * v % edP * v % edP) % edP) 448 ((edP - 3) / 4) edP % edP
    if v * (x * x % edP) % edP ≠ u then none
    else if x = 0 && top = 128 then none
    else some (if x % 2 = top / 128 then x else (edP - x) % edP, y, 1)

def edDom (ctx : String) : List Byte := ascii "SigEd448" ++ [0, BitVec.ofNat 8 ctx.length] ++ ascii ctx

/-- Secret scalar and prefix of a 57-byte seed. -/
def edSecret (seed : List Byte) : Nat × List Byte :=
  let h := shake256 seed 114
  let k := natLE (h.take 56)
  (k % 2 ^ 447 / 4 * 4 + 2 ^ 447, h.drop 57)

/-- Public key of a seed, 57 bytes. -/
def ed448Pub (seed : List Byte) : List Byte := edEncode (edMul edBase 448 (edSecret seed).1)

/-- Ed448 signature, 114 bytes. -/
def ed448Sign (seed : List Byte) (ctx : String) (m : List Byte) : List Byte :=
  let (a, prefix_) := edSecret seed
  let pub := edEncode (edMul edBase 448 a)
  let r := natLE (shake256 (edDom ctx ++ prefix_ ++ m) 114) % edL
  let rb := edEncode (edMul edBase 448 r)
  let k := natLE (shake256 (edDom ctx ++ rb ++ pub ++ m) 114) % edL
  rb ++ bytesLE 57 ((r + k * a) % edL)

/-- Ed448 verification (RFC 8032, 5.2.7, with the cofactor). -/
def ed448Verify (pub : List Byte) (ctx : String) (m sig : List Byte) : Bool :=
  match edDecode pub, edDecode (sig.take 57) with
  | some a, some r =>
    let s := natLE (sig.drop 57)
    if sig.length ≠ 114 || s ≥ edL then false else
      let k := natLE (shake256 (edDom ctx ++ sig.take 57 ++ pub ++ m) 114) % edL
      edEncode (edMul (edMul edBase 448 s) 3 4) == edEncode (edMul (edAdd r (edMul a 448 k)) 3 4)
  | _, _ => false

/-! Cyclic redundancy checks. -/

/-- n steps of a reflected CRC register. -/
def crcShift (poly : Nat) : Nat → Nat → Nat
  | 0, c => c
  | n + 1, c => crcShift poly n (if c % 2 = 1 then (c / 2) ^^^ poly else c / 2)

/-- CRC-32C (07 R233). -/
def crc32c (bs : List Byte) : BitVec 32 :=
  BitVec.ofNat 32 ((bs.foldl (fun c b => crcShift 0x82F63B78 8 (c ^^^ b.toNat)) 0xFFFFFFFF) ^^^ 0xFFFFFFFF)

/-- CSI-2 packet-footer checksum (03 R86): x^16 + x^12 + x^5 + 1, reflected, initial value 0xFFFF. -/
def csiChecksum (bs : List Byte) : BitVec 16 :=
  BitVec.ofNat 16 (bs.foldl (fun c b => crcShift 0x8408 8 (c ^^^ b.toNat)) 0xFFFF)

/-- n steps of a w-bit CRC register, most significant bit first. -/
def crcShiftMsb (w poly : Nat) : Nat → Nat → Nat
  | 0, c => c
  | n + 1, c => crcShiftMsb w poly n (if c.testBit (w - 1) then (c * 2 % 2 ^ w) ^^^ poly else c * 2 % 2 ^ w)

/-- CRC-16 of a command frame (03 R89). -/
def crc16 (bs : List Byte) : BitVec 16 :=
  BitVec.ofNat 16 (bs.foldl (fun c b => crcShiftMsb 16 0x1021 8 (c ^^^ (b.toNat * 256))) 0xFFFF)

/-- CRC-8 of a training frame (02 R60). -/
def crc8 (bs : List Byte) : BitVec 8 := BitVec.ofNat 8 (bs.foldl (fun c b => crcShiftMsb 8 0x07 8 (c ^^^ b.toNat)) 0)

/-- ECC syndromes of the 26 header bits of CSI-2 (03 R85). -/
def eccCodes : List Nat :=
  [0x07, 0x0B, 0x0D, 0x0E, 0x13, 0x15, 0x16, 0x19, 0x1A, 0x1C, 0x23, 0x25, 0x26, 0x29, 0x2A, 0x2C, 0x31, 0x32, 0x34,
   0x38, 0x1F, 0x2F, 0x37, 0x3B, 0x3D, 0x3E]

/-- CSI-2 header ECC of 26 bits. -/
def csiEcc (h : Nat) : Nat :=
  (List.range 26).foldl (fun a i => if h.testBit i then a ^^^ eccCodes.getD i 0 else a) 0

/-- Correct a header under its ECC: the header and whether a bit was corrected; none when it is not correctable. -/
def eccCorrect (h ecc : Nat) : Option (Nat × Bool) :=
  let syn := csiEcc h ^^^ ecc
  if syn = 0 then some (h, false)
  else match eccCodes.findIdx? (· == syn) with
    | some i => some (h ^^^ 2 ^ i, true)
    | none => if syn = 1 || syn = 2 || syn = 4 || syn = 8 || syn = 16 || syn = 32 then some (h, true) else none

end Sys2Proof.Machine
end

