-- ==== Sys2Proof/Machine/Gates.lean ====
section
/-! DEFINITION. Gate control lists over Device Time and credit-based shapers of the backbone ports
(08_backbone.md R244 to R249). -/
namespace Sys2Proof.Machine

/-- A gate control entry (Table 8-2). -/
def gclEntry (g : GclSlot) (i : Nat) : Word := bankGet (fun _ => (0xFF00000000 : Word)) g.entries i

/-- Entries of a list as (gates, ns in force): cut at CYCLE_TIME, the last held to it (R245). -/
def gclRuns (g : GclSlot) (o : GclOper) : List (Nat × Nat) :=
  let n := o.listLen
  ((List.range n).foldl (fun (acc : List (Nat × Nat) × Nat) i =>
    let w := gclEntry g i
    let left := o.cycleTime - acc.2
    let t := if i + 1 = n then left else min left (fld w 31 0)
    (acc.1 ++ [(fld w 39 32, t)], acc.2 + t)) ([], 0)).1

def Bb.gclSlot (b : Bb) (slot : Nat) : GclSlot := if slot = 0 then b.slotA else b.slotB

/-- The entry in force at position `pos` of a cycle: its index, its gates, and where it ends. -/
def gclAt : List (Nat × Nat) → Nat → Nat → Nat → Nat × Nat × Nat
  | [], i, at_, _ => (i, 255, at_)
  | (g, n) :: r, i, at_, pos => if pos < at_ + n ∨ r.isEmpty then (i, g, at_ + n) else gclAt r (i + 1) (at_ + n) pos

/-- Position in the cycle of a list at Device Time t in ns. -/
def GclOper.pos (o : GclOper) (t : Nat) : Nat := (((t : Int) - o.baseTime).emod (max 1 o.cycleTime)).toNat

/-- Runs of the list in force; every gate open where there is none (R245). -/
def Bb.runs (b : Bb) : List (Nat × Nat) := if b.oper.enable then gclRuns (b.gclSlot b.oper.slot) b.oper else [(255, max 1 b.oper.cycleTime)]

/-- Classes that R248 keeps closed. -/
def State.lockClosed (s : State) (p : Nat) : Nat := if p < 4 && s.time.disc != .locked then (s.bbp p).lockMask else 0

/-- The gate of a class is open at Device Time t. -/
def State.gateOpen (s : State) (p tc t : Nat) : Bool :=
  let b := s.bbp p
  p == 4 || (!(s.lockClosed p).testBit tc && (gclAt b.runs 0 0 (b.oper.pos t)).2.1.testBit tc)

/-- How long a class stays open along runs, and whether it met a closed one; a run of no length closes nothing. -/
def openRun (tc : Nat) : List (Nat × Nat) → Nat × Bool
  | [] => (0, false)
  | (g, n) :: r => if g.testBit tc || n = 0 then let x := openRun tc r; (n + x.1, x.2) else (0, true)

/-- Lengths of the intervals for which a list holds a class open: adjoining open runs are one interval, over the end of the cycle too, and a run of
no length closes nothing. A class that is never closed has none. -/
def openIntervals (tc : Nat) (rs : List (Nat × Nat)) : List Nat :=
  let l := rs.filter fun e => e.2 != 0
  match l.findIdx? fun e => !e.1.testBit tc with
  | none => []
  | some i =>
    let x := (l.drop i ++ l.take i).foldl (fun (acc : List Nat × Nat) e => if e.1.testBit tc then (acc.1, acc.2 + e.2) else (acc.2 :: acc.1, 0)) ([], 0)
    (x.2 :: x.1).filter fun n => n != 0

/-- ns for which an open gate stays open from t; none where it does not close. -/
def Bb.openFor (b : Bb) (tc t : Nat) : Option Nat :=
  let rs := b.runs
  let pos := b.oper.pos t
  let here := gclAt rs 0 0 pos
  let x := openRun tc (rs.drop (here.1 + 1) ++ rs.take (here.1 + 1))
  if x.2 then some (here.2.2 - pos + x.1) else none

/-- ns of the first `pos` ns of a cycle in which a class is open. -/
def openWithin (tc : Nat) : List (Nat × Nat) → Nat → Nat
  | [], _ => 0
  | (g, n) :: r, pos => (if g.testBit tc then min n pos else 0) + openWithin tc r (pos - n)

/-- ns between two Device Times in which the list leaves a class open. -/
def Bb.openBetween (b : Bb) (tc t0 t1 : Nat) : Nat :=
  let rs := b.runs
  let c := max 1 b.oper.cycleTime
  let off := b.oper.baseTime % c
  let upTo := fun (t : Nat) => (t + c - off) / c * openWithin tc rs c + openWithin tc rs ((t + c - off) % c)
  upTo t1 - upTo t0

/-- Bring the credits of a port up to Device Time (R249): a class whose gate is open and that has packets waiting or on the wire, or a
negative credit, rises at IDLE_SLOPE; a class with neither does not rise above 0. (log 22 DEDUCED) -/
def State.bringCredits (s : State) (p : Nat) : State :=
  let b := s.bbp p
  let t := s.dtNs
  let cs := b.slopes.map fun x =>
    let c := (b.credits.lookup x.1).getD 0
    let waiting := (b.packets.any fun k => k.tc == x.1) || (b.txTc == x.1 && decide (t < b.busyUntil))
    let opened := if (s.lockClosed p).testBit x.1 then 0 else b.openBetween x.1 b.creditAt t
    let up := c + x.2 * opened
    (x.1, if waiting then up else min 0 up)
  s.setBb p { b with credits := cs, creditAt := t }

/-- Queue packets at a port (R244). -/
def State.bbQueue (s : State) (p : Nat) (l : List TxPacket) : State :=
  if l.isEmpty then s else (s.bringCredits p).modBb p fun b => { b with packets := b.packets ++ l }

/-- Queue a whole frame of the port's own. -/
def State.bbSend (s : State) (p tc : Nat) (frame : List Byte) : State :=
  s.bbQueue p [{ stream := 65, frame := 0, tc := tc, bytes := frame, line := 0, pixel := 0, tag := [], wire := max 60 frame.length + 24, marker := false }]

/-- The frame in transmission ends after its gate has closed: TX_OVERRUN, once (R247). -/
def State.txOverrun (s : State) (p : Nat) : State :=
  if (s.bbp p).txOver || (s.bbp p).txEnd ≤ s.dtNs then s
  else (s.modBb p fun b => { b with counts := bump b.counts 23 12, txOver := true }).raise (evBb p) 2

/-- The gates of LOCK_MASK close while a frame of such a class is in transmission (R247, R248). -/
def State.lockOverrun (s : State) (p : Nat) : State := if (s.lockClosed p).testBit (s.bbp p).txTc then s.txOverrun p else s

/-- The timebase changes. Where the discipline enters or leaves LOCKED, the credits come up to this instant under the gates as they were,
and then the gates of LOCK_MASK open or close (R248, R249). -/
def State.setTime (s : State) (t : TimeBase) : State :=
  if (s.time.disc == .locked) == (t.disc == .locked) then { s with time := t }
  else
    let ports := List.range s.variant.backbone
    let s := ports.foldl (fun (s : State) p => s.bringCredits p) s
    ports.foldl (fun (s : State) p => s.lockOverrun p) { s with time := t }

/-- The entry that Device Time gives, and its end (R245, R247). -/
def State.gclSync (s : State) (p : Nat) : State :=
  s.modBb p fun b =>
    let t := s.dtNs
    let x := gclAt b.runs 0 0 (b.oper.pos t)
    { b with index := x.1, entryEnd := t - b.oper.pos t + x.2.2 }

end Sys2Proof.Machine
end

