-- ==== Sys2Proof/Machine/Mail.lean ====
section
/-! DEFINITION. Taking and completing mailbox messages (12_mailbox_and_commands.md R366 to R371, R375, R376): the order
of the checks, long commands, responses of the four doors, and the FENCE. -/
namespace Sys2Proof.Machine

/-! Door datagrams (08_backbone.md R258, R260). -/

/-- A datagram's header (Table 8-4). (log 6 DEDUCED, 86 DEDUCED) -/
def doorHeader (type len session seq : Nat) : List Byte :=
  [1, BitVec.ofNat 8 type] ++ bytesBE 2 len ++ bytesBE 4 session ++ bytesBE 8 seq

/-- Header and body with the TAG of R260. -/
def doorTagged (key : List Byte) (type session seq : Nat) (body : List Byte) : List Byte :=
  let m := doorHeader type body.length session seq ++ body
  m ++ kmac256 key m 32 "gv-door-msg"

/-- A door datagram to a client, in DOOR_TC (R242, R244, R260), with hop limit 64. (log 6 DEDUCED) -/
def State.doorSend (s : State) (p : Nat) (peer : Peer) (dgram : List Byte) : State :=
  let b := s.bbp p
  if b.link then
    let udp := udpDatagram peer.v6 (if peer.v6 then b.ipv6 else b.ipv4) peer.ip b.doorUdp peer.udp dgram
    let ip := if peer.v6 then ipv6Header b.ipv6 peer.ip 17 64 0 0 udp.length else ipv4Header b.ipv4 peer.ip 17 64 0 udp.length
    s.bbSend p b.doorTc (ethHeader peer.mac b.mac none (if peer.v6 then 0x86DD else 0x0800) ++ ip ++ udp)
  else s

/-- A RESP datagram to the address and port from which the session opened (R260). (log 6 DEDUCED) -/
def State.doorResp (s : State) (no : Nat) (words : List Word) : State :=
  match s.bb.sessions.find? (fun x => x.no == no && x.isOpen) with
  | none => s
  | some x =>
    let x' := { x with ownSeq := x.ownSeq + 1 }
    let s := { s with bb := { s.bb with sessions := s.bb.sessions.map fun (y : Session) => if y.no == no then x' else y } }
    s.doorSend x.bb x.peer (doorTagged x.key 6 no x'.ownSeq (words.flatMap fun (w : Word) => bytesBE 5 w.toNat))

/-! Responses. -/

/-- A response's words (R367). -/
def responseWords (opcode tag : Nat) (st : Status) (payload : List Word) : List Word :=
  mkWord [(39, 28, opcode), (27, 20, payload.length), (19, 8, tag), (7, 0, st.code)] :: payload

/-- Place one response in the board response buffer (16 R467). -/
def State.boardPlace (s : State) (words : List Word) : State :=
  (s.modBoard fun b => { b with respWords := b.respWords ++ words, respLens := b.respLens ++ [words.length] }).attn attnBoardResp

/-- There is room for all of a response. -/
def Board.respRoom (b : Board) (words : List Word) : Bool := decide (b.respWords.length + words.length ≤ 128)

/-- Post a response at its door (R345, R358, R367, 16 R467). (log 7 DEDUCED, 184 DEDUCED) -/
def State.post (s : State) (door session : Nat) (words : List Word) : State :=
  match door with
  | 0 =>
    if s.host.held.isEmpty && s.rec0Open then s.rec0Write words
    else { s with host := { s.host with held := s.host.held ++ [words] } }
  | 1 => s.doorResp session words
  | 2 =>
    if s.board.respHeld.isEmpty && s.board.respRoom words then s.boardPlace words
    else s.modBoard fun b => { b with respHeld := b.respHeld ++ [words] }
  | _ => s

/-- Complete a message (R366: NORESP). -/
def State.respond (s : State) (door opcode tag flags session : Nat) (st : Status) (payload : List Word) : State :=
  if flags.testBit 0 && (st == .ok || st == .late) then s else s.post door session (responseWords opcode tag st payload)

/-- Accepted, incomplete messages of a door: one that is still being taken counts (R362, R369, R370). -/
def Mailbox.count (m : Mailbox) (door : Nat) : Nat :=
  (m.inflight.filter fun i => i.door == door).length + b2n (m.taking.any fun t => t.door == door)

/-- When the message being executed was accepted, in ns of Device Time (R362). -/
def State.acceptNs (s : State) : Nat := s.mail.accepted.getD s.dtNs

/-- Complete an accepted message. (log 73 DEDUCED) -/
def State.answer (s : State) (i : Inflight) (st : Status) (payload : List Word) : State :=
  if i.mute then s else s.respond i.door i.opcode.toNat i.tag.toNat i.flags.toNat i.session st payload

/-- A FENCE that no earlier incomplete message of its door holds back (R371). -/
def fenceDue (l : List Inflight) (i : Inflight) : Bool :=
  i.wait == .fence && (l.filter fun j => j.door == i.door).length == 1

/-- FENCEs that have become due complete. -/
def State.settleFences (s : State) : State :=
  let l := s.mail.inflight
  let due := l.filter (fenceDue l)
  let s := { s with mail := { s.mail with inflight := l.filter fun i => !fenceDue l i } }
  due.foldl (fun s i => s.answer i .ok []) s

/-- The oldest incomplete message that meets p. -/
def State.inflight? (s : State) (p : Inflight → Bool) : Option Inflight := s.mail.inflight.find? p

/-- Complete the oldest incomplete message that meets p, if there is one (R369). -/
def State.finish (s : State) (p : Inflight → Bool) (st : Status) (payload : List Word) : State :=
  match s.inflight? p with
  | none => s
  | some i =>
    let s := { s with mail := { s.mail with inflight := eraseFirst p s.mail.inflight } }
    (s.answer i st payload).settleFences

/-- Complete what waits for w. -/
def State.finishWait (s : State) (w : Wait) (st : Status) (payload : List Word := []) : State :=
  s.finish (fun i => i.wait == w) st payload

/-- Complete every message that meets p, oldest first; FENCEs that then have become due follow. -/
def State.finishAll (s : State) (p : Inflight → Bool) (st : Status) : State :=
  let gone := s.mail.inflight.filter p
  let s := { s with mail := { s.mail with inflight := s.mail.inflight.filter fun i => !p i } }
  (gone.foldl (fun (s : State) i => s.answer i st []) s).settleFences

/-! Taking a message. -/

/-- Where a command is permitted (R376): power states, Door 0 only, Door 2 as well. -/
structure Permit where
  run : Bool
  low : Bool
  hold : Bool
  only0 : Bool
  board : Bool
  deriving DecidableEq, Repr

def permitR : Permit := { run := true, low := false, hold := false, only0 := false, board := false }
def permitR0 : Permit := { permitR with only0 := true }
def permitRB : Permit := { permitR with board := true }
def permitRL : Permit := { permitR with low := true }
def permitRLB : Permit := { permitRL with board := true }
def permitRL0 : Permit := { permitRL with only0 := true }
def permitRLHB : Permit := { permitRLB with hold := true }

def Permit.door (p : Permit) (d : Nat) : Bool :=
  match d with
  | 0 => true
  | 1 => !p.only0
  | 2 => p.board && !p.only0
  | _ => !p.only0

def Permit.power (p : Permit) : PState → Bool
  | .run => p.run | .low => p.low | .hold => p.hold

/-- How a command's execution ends, or what it waits for. -/
inductive Verdict where
  | done (st : Status) (payload : List Word) (s : State)
  | wait (w : Wait) (s : State)
  deriving DecidableEq, Repr

/-- Engine 28 can read host memory for a load (11 R318, R328, R341). (log 173 DESIGN CHOICE) -/
def State.loadsOpen (s : State) : Bool := s.hostOpen && !(s.engine 28).halted && !(s.engine 28).inReset

/-- A command that reads `need` bytes of host memory: it ends with FAULT where the transfer fails, fewer bytes than those coming back
or Engine 28, which carries it, not able to read (11 R318, R328, R341, R343). (log 88 DEDUCED, 173 DESIGN CHOICE) -/
def loaded (host : List Byte) (need : Nat) (s : State) (v : Verdict) : Verdict :=
  if s.loadsOpen && decide (need ≤ host.length) then v
  else match v with
    | .done .ok _ _ => .done .fault [] s
    | _ => v

/-- Phokel takes messages from this door: the doors are open (14 R433), no FENCE of the door stands (R371), and no
held responses stop it (R345, 16 R467). (log 5 DEDUCED) -/
def State.takes (s : State) (door : Nat) : Bool :=
  s.rst.bootState == .running && !s.phokelStops &&
  !(s.mail.inflight.any fun i => i.door == door && i.wait == .fence) &&
  (match door with
   | 0 => s.host.held.isEmpty
   | 2 => s.board.respHeld.isEmpty
   | d => decide (d < 4))

/-- The record of an accepted message (R370). -/
def inflightOf (s : State) (opcode : Nat) (m : Msg) (w : Wait) : Inflight :=
  { door := m.door, opcode := BitVec.ofNat 12 opcode, tag := m.tag, flags := m.flags, session := s.mail.curSession
    wait := w, payload := m.payload, mute := s.mail.mute }

/-- The end of a command that completes at once. (log 121 DEDUCED) -/
def mailDone (opcode : Nat) (m : Msg) (st : Status) (payload : List Word) (s : State) : State :=
  if s.mail.mute then s else s.respond m.door opcode m.tag.toNat m.flags.toNat s.mail.curSession st payload

/-- Commands that the catalogue does not call short: their work goes on after acceptance, by its Completes column (R369, R376). -/
def longForm (opcode : Nat) (m : Msg) : Bool :=
  [0x003, 0x004, 0x007, 0x102, 0x103, 0x104, 0x106, 0x107, 0x108, 0x109, 0x10A, 0x20B, 0x301, 0x302, 0x303, 0x305, 0x306, 0x401, 0x405, 0x409, 0x40B, 0x500,
    0x501, 0x502, 0x601, 0x603, 0x604, 0x700, 0x701, 0x702, 0x704, 0x706, 0x707, 0x708, 0x800, 0x801, 0x802, 0x803].contains opcode ||
    (opcode == 0x304 && bit (m.w 0) 19)

/-- The command is carried out, or its execution finds that it cannot be: no check of R368 ahead of BUSY refuses it. -/
def Verdict.carriedOut : Verdict → Bool
  | .wait _ _ => true
  | .done st _ _ => [Status.ok, .late, .noResource, .fault, .timeout].contains st

/-- A long command beyond 64 incomplete messages of its door (R369). -/
def State.overfull (s : State) (opcode : Nat) (m : Msg) (v : Verdict) : Bool :=
  v.carriedOut && decide (64 ≤ s.mail.count m.door) && (longForm opcode m || (match v with | .wait _ _ => true | _ => false))

/-- Take a message whose opcode is in the catalogue: the checks of R368 in order, then its execution. (log 5 DEDUCED, 52 DEDUCED, 121 DEDUCED) -/
def mailRun (opcode : Nat) (pm : Permit) (m : Msg) (s : State) (denied argsOk : Bool) (body : State → Verdict) : State :=
  if !s.takes m.door then s
  else if !pm.door m.door || denied then mailDone opcode m .denied [] s
  else if !zeroFld (BitVec.ofNat 40 m.flags.toNat) 7 2 || (m.flags.getLsbD 1 && opcode != 0x305) || !argsOk then
    mailDone opcode m .badArg [] s
  else if !pm.power s.ledger.pstate then mailDone opcode m .state [] s
  else
    let v := body s
    if s.overfull opcode m v then mailDone opcode m .busy [] s
    else match v with
    | .done st p s' => mailDone opcode m st p s'
    | .wait w s' =>
      ({ s' with mail := { s'.mail with inflight := s'.mail.inflight ++ [inflightOf s opcode m w] } }).settleFences

/-- A message whose command leaves the state in a given form when all checks pass, without a payload. -/
def okNext (s : State) : Verdict := .done .ok [] s

end Sys2Proof.Machine
end

