-- ==== Sys2Proof/Machine/Dma.lean ====
section
/-! DEFINITION. DMA engines and channels (11_host_link_and_dma.md R328 to R343, R356, R357; 07_outputs_and_accord.md
R216, R217): descriptors, fetches, starts, service, completion, halts. -/
namespace Sys2Proof
open Machine

/-! Descriptors (Table 11-6). -/

def Fetched.addr (d : Fetched) : Nat := d.bits.toNat % 2 ^ 64
def Fetched.len (d : Fetched) : Nat := d.bits.toNat / 2 ^ 64 % 2 ^ 32
def Fetched.ctl (d : Fetched) : Nat := d.bits.toNat / 2 ^ 96 % 2 ^ 16
def Fetched.own (d : Fetched) : Bool := d.ctl.testBit 0
def Fetched.isSg (d : Fetched) : Bool := d.ctl.testBit 1
def Fetched.fence (d : Fetched) : Bool := d.ctl.testBit 2
def Fetched.pace (d : Fetched) : Bool := d.ctl.testBit 3
def Fetched.stop (d : Fetched) : Bool := d.ctl.testBit 4
def Fetched.noSnoop (d : Fetched) : Bool := d.ctl.testBit 8
def Fetched.swap (d : Fetched) : Nat := d.ctl / 32 % 8
def Fetched.addr2 (d : Fetched) : Nat := d.bits.toNat / 2 ^ 192

/-- Unit of a SWAP mode in bytes (Table 11-7). -/
def swapUnit : Nat → Nat
  | 1 => 2 | 2 => 4 | 3 => 4 | 4 => 8 | _ => 1

/-- Where a byte of a unit goes: its offset exclusive-or this (Table 11-7). -/
def swapXor : Nat → Nat
  | 1 => 1 | 2 => 3 | 3 => 2 | 4 => 7 | _ => 0

/-- The scatter list as (address, length): the one buffer where SG is clear (R332). -/
def Fetched.parts (d : Fetched) : List (Nat × Nat) :=
  if d.isSg then d.sg.map fun (e : BitVec 128) => (e.toNat % 2 ^ 64, e.toNat / 2 ^ 64 % 2 ^ 32) else [(d.addr, d.len)]

/-- The scatter list is as R332 has it: 1 to 4096 entries, bit 0 of the flags on the last alone, lengths summing to LEN. -/
def Fetched.sgOk (d : Fetched) : Bool :=
  let last := fun (e : BitVec 128) => e.getLsbD 96
  !d.isSg || (d.addr % 16 == 0 && within 1 4096 d.sg.length && (d.sg.getLast?.map last == some true) &&
    d.sg.dropLast.all (fun e => !last e) && (d.parts.foldl (fun a p => a + p.2) 0 == d.len))

/-- A descriptor handled as BAD_DESC (R330 to R333). (log 10 DEDUCED) -/
def Fetched.bad (d : Fetched) : Bool :=
  let u := swapUnit d.swap
  d.ctl / 512 != 0 || decide (4 < d.swap) || d.len == 0 || d.addr2 != 0 || !d.sgOk ||
    !(d.parts.all fun p => p.1 % u == 0 && p.2 % u == 0)

end Sys2Proof

namespace Sys2Proof.Machine

/-- Address of byte `off` of a scattered buffer. -/
def partAddr : List (Nat × Nat) → Nat → Nat
  | [], off => off
  | (a, n) :: r, off => if off < n then a + off else partAddr r (off - n)

/-- Runs of consecutive addresses that `bytes` at buffer offset `off` fill, without swapping. -/
def partRuns : List (Nat × Nat) → Nat → List Byte → List HostWrite
  | [], _, _ => []
  | (a, n) :: r, off, bytes =>
    if bytes.isEmpty then []
    else if off < n then { addr := a + off, bytes := bytes.take (n - off) } :: partRuns r 0 (bytes.drop (n - off))
    else partRuns r (off - n) bytes

/-- The posted writes that put `bytes` at offset `off` of the descriptor's buffer (R317, R332, R333). -/
def descWrites (d : Fetched) (off : Nat) (bytes : List Byte) : List HostWrite :=
  let l : List HostWrite :=
    if swapXor d.swap = 0 then partRuns d.parts off bytes
    else bytes.zipIdx.map fun (b, i) => { addr := partAddr d.parts ((off + i) ^^^ swapXor d.swap), bytes := [b] }
  l.map fun w => { w with noSnoop := d.noSnoop }

/-! Channels. -/

def Channel.ringAddr (c : Channel) : Nat := fld c.ringHi 23 0 * 2 ^ 40 + c.ringLo.toNat
def Channel.tagAddr (c : Channel) : Nat := fld c.tagHi 23 0 * 2 ^ 40 + c.tagLo.toNat

/-- Each descriptor of the channel, or this one, waits for a start (R336). -/
def Channel.waitsStart (c : Channel) : Bool := c.paced || (match c.fetched with | d :: _ => d.pace | [] => false)

/-- One start, kept or merged (R28, R336). -/
def Channel.keepStart (c : Channel) : Channel := if c.kept then { c with counts := bump c.counts 19 4 } else { c with kept := true }

/-- A doorbell: fetch from HEAD onward; a doorbell during a fetch is kept (R331, R356). -/
def Channel.bell (c : Channel) : Channel := if c.fetching then { c with again := true } else { c with fetching := true }

/-- State of a channel between descriptors (Table 11-16); a kept start acts here (R336). -/
def Channel.ready (c : Channel) : Channel :=
  if c.inFlight || !c.enable || c.state == .stopped || c.state == .halted then c
  else match c.fetched with
    | [] =>
      if c.kept && !c.paced then { (Channel.bell { c with kept := false }) with state := .empty } else { c with state := .empty }
    | d :: _ =>
      if d.fence && c.unacked then { c with state := .waitFence }
      else if c.waitsStart && !c.released then
        if c.kept then { c with kept := false, released := true, state := .active } else { c with state := .waitStart }
      else if c.kept && !c.waitsStart then { (Channel.bell { c with kept := false }) with state := .active }
      else { c with state := .active }

/-- Bytes 12 to 19 of a descriptor as written back: OWN cleared, STATUS and DONE_LEN set (R340). -/
def writeBackBytes (d : Fetched) (status done : Nat) : List Byte :=
  bytesLE 2 (d.ctl - d.ctl % 2) ++ bytesLE 2 status ++ bytesLE 4 done

/-- A channel is taken out of use: what its rc fields count stays for a read (01 R10). -/
def Channel.closed (k : Nat) (c : Channel) : Channel := { Channel.reset k with counts := c.counts }

/-- HEAD goes on to the next descriptor. -/
def Channel.advance (c : Channel) : Channel :=
  { c with head := (c.head + 1) % 2 ^ c.size, fetched := c.fetched.tail, inFlight := false, released := false
           transfers := [], done := 0, frame := none, skipOwn := false, owed := none }

/-- Write back the descriptor at HEAD: the last write of the channel so far (R338, R340). -/
def State.writeBack (s : State) (e ch status done : Nat) : State :=
  let c := s.chan e ch
  match c.fetched with
  | [] => s
  | d :: _ =>
    let at_ := c.ringAddr + 32 * c.head + 12
    (s.setChan e ch { c with unacked := true, lastAddr := at_ + 7 }).hostWrite at_ (writeBackBytes d status done)

/-- A channel at a descriptor boundary: bad descriptors are written back one after another (R331), then the channel
is ready, waits, or is EMPTY. A fence asks for a read of the last address written (R338). (log 10 DEDUCED) -/
def State.settleChan : Nat → State → Nat → Nat → State
  | 0, s, _, _ => s
  | n + 1, s, e, ch =>
    let c := s.chan e ch
    if c.inFlight || !c.enable || c.state == .stopped || c.state == .halted then s
    else
      let refused := match c.fetched with | d :: _ => d.bad | [] => false
      if refused then
        let s := s.writeBack e ch 3 0
        let s := s.modChan e ch Channel.advance
        State.settleChan n (s.raise (evEngine e) 3 ch) e ch
      else
        let c' := c.ready
        let s := s.setChan e ch c'
        if c'.state == .waitFence && c.state != .waitFence then
          s.modEngine e fun x => { x with readbacks := x.readbacks ++ [{ kind := .fence, issued := false, ch := ch, addr := c.lastAddr, bytes := [] }] }
        else s

def State.settle (s : State) (e ch : Nat) : State := s.settleChan ((s.chan e ch).fetched.length + 1) e ch

/-- Engine FORCE: halt once no channel of the engine has a descriptor in flight (R357). (log 9 DEDUCED) -/
def State.tryForce (s : State) (e : Nat) : State :=
  let x := s.engine e
  if x.forcePending && !((List.range 32).any fun ch => (s.chan e ch).inFlight) && !(x.readbacks.any fun r => r.issued) then
    let s := s.setEngine e { x with halted := true, cause := 6, forcePending := false, outstanding := 0, haltCycle := s.now }
    let s := (List.range 32).foldl (fun s ch => if (s.chan e ch).enable then s.modChan e ch fun c => { c with state := .halted } else s) s
    let s := if (s.inflight? fun i => i.wait == .unitDrain 4 e).isSome then s.logUnitState 4 e else s
    s.finishWait (.unitDrain 4 e) .ok
  else s

/-- How a channel stands before the first start of this cycle (R356). -/
def Channel.noteStart (c : Channel) (now : Nat) : Channel :=
  if (c.started.any fun x => x.1 == now) then c else { c with started := some (now, c.fetching, c.again, c.released) }

/-- A start of the cycle of a STOP is kept (R356). -/
def Channel.unstart (c : Channel) (now : Nat) : Channel :=
  match c.started with
  | some (t, f, a, r) => if t = now then ({ c with fetching := f, again := a, released := r, started := none } : Channel).keepStart else c
  | none => c

/-- A start for a channel (R336): it releases a descriptor, acts as a doorbell, or is kept and then merged. (log 115 DEDUCED) -/
def State.start (s : State) (e ch : Nat) : State :=
  let c := s.chan e ch
  if !c.enable then s
  else if c.state == .stopped || c.state == .halted || c.inFlight then s.setChan e ch c.keepStart
  else if c.waitsStart then
    if c.state == .waitStart then (s.setChan e ch { c.noteStart s.now with released := true, state := .active }).settle e ch
    else s.setChan e ch c.keepStart
  else s.setChan e ch (c.noteStart s.now).bell

/-- A channel of a host engine that copies statistics records: CTX_STATS_READY follows the copy (12 R383). -/
def Channel.copiesRecord (c : Channel) (e : Nat) : Bool := decide (e < 28) && !c.output && c.enable

/-- The end of a descriptor: write-back, count, completion event, then the boundary (R337, R340). While the device may issue no request,
the end waits (R318). (log 12 DEDUCED, 170 DEDUCED) -/
def State.completeDesc (s : State) (e ch status : Nat) : State :=
  let c := s.chan e ch
  if !s.hostOpen then s.setChan e ch { c with owed := some status, transfers := [], frame := none }
  else
  let stops := c.stopPending || (match c.fetched with | d :: _ => d.stop | [] => false)
  let s := s.writeBack e ch status c.done
  let s := s.modChan e ch fun c =>
    { c.advance with counts := bump c.counts 39 20, stopPending := false, state := if stops then .stopped else .empty }
  let s := s.raise (evCompletion e ch) 0 c.head
  let s := if c.copiesRecord e && status != 1 then s.raise (evCtx c.context) 6 else s
  (s.settle e ch).tryForce e

/-- Descriptors whose end has waited for the host link end now (R318). (log 170 DEDUCED) -/
def State.payOwed (s : State) : State :=
  if !s.hostOpen then s
  else s.chans.foldl (fun (s : State) x => match (s.chan (x.1 / 32) (x.1 % 32)).owed with
    | some st => s.completeDesc (x.1 / 32) (x.1 % 32) st
    | none => s) s

/-! Tag blocks in passing (07 Table 7-7). -/

/-- A tag block with TAG_CRC over words 0 to 14 in their host form. -/
def sealTag (ws : List Word) : List Word := ws.take 15 ++ [mkWord [(31, 0, (crc32c (hostForms (ws.take 15))).toNat)]]

/-- A tag block with POISONED set (07 Table 7-8). (log 31 DEDUCED) -/
def poisonTag (ws : List Word) : List Word :=
  if ws.length = 16 then sealTag (ws.set 7 (pw ws 7 ||| 0x0100000000)) else ws

/-! Output channels (R334; 07 R216, R217). -/

/-- The last transfer of a whole frame has been written: a read establishes that its bytes are acknowledged, ahead of the tag block (07 R216)
or of an image's verdict (09 R292). -/
def State.frameSent (s : State) (e ch : Nat) : State :=
  let c := s.chan e ch
  match c.frame with
  | some f =>
    if !c.transfers.isEmpty || !f.whole then s
    else if c.output then
      s.modEngine e fun x =>
        { x with readbacks := x.readbacks ++ [{ kind := .tag, issued := false, ch := ch, addr := c.tagAddr + 128 * c.head, bytes := hostForms (if f.poisoned then poisonTag f.tag else f.tag) }] }
    else if e = 30 && ch = 0 then
      s.modEngine e fun x => { x with readbacks := x.readbacks ++ [{ kind := .image, issued := false, ch := 0, addr := 0, bytes := [] }] }
    else s
  | none => s

/-- A drop at the host destination of an output (07 R217). (log 127 DESIGN CHOICE) -/
def State.hostDrop (s : State) (c out : Nat) : State :=
  if out = 3 then s.modAccord c fun a => { a with dropsHost := satAdd 16 a.dropsHost 1 }
  else
    (s.modCtx c fun x => x.modOut out fun o =>
      { o with counts := bump o.counts 15 0, dropsHost := satAdd 16 o.dropsHost 1 }).raise (evCtx c) 7 out

/-- Take the descriptor at HEAD for a frame of `size` bytes, at its first row: whether the host takes the frame (R217). (log 12 DEDUCED, 115 DEDUCED) -/
def State.takeDesc (s : State) (e ch size : Nat) : Bool × State :=
  let c := s.chan e ch
  if !s.hostOpen || !c.enable || c.inFlight || c.state != .active || (s.engine e).halted || (s.engine e).forcePending || (s.engine e).inReset then
    (false, s)
  else match c.fetched with
    | [] => (false, s)
    | d :: _ =>
      let s := s.setChan e ch { c with inFlight := true, done := 0, transfers := []
                                       frame := some { whole := false, tag := [], poisoned := false } }
      if d.len < size then (false, s.completeDesc e ch 1) else (true, s)

/-- Hand transfers of a frame in progress to its channel. -/
def State.giveLines (s : State) (e ch : Nat) (ts : List Transfer) : State := s.modChan e ch fun c => { c with transfers := c.transfers ++ ts }

/-- Hand a frame's last transfers and its tag block to its channel: the frame is whole (R216). -/
def State.giveFrame (s : State) (e ch : Nat) (ts : List Transfer) (tag : List Word) (poisoned : Bool) : State :=
  ((s.giveLines e ch ts).modChan e ch fun c =>
    { c with frame := c.frame.map fun f => { f with whole := true, tag := tag, poisoned := f.poisoned || poisoned } }).frameSent e ch

/-- The frame in the descriptor in use is lost: write-back DROPPED, no tag block (R340). (log 12 DEDUCED) -/
def State.dropDesc (s : State) (e ch : Nat) : State := if (s.chan e ch).inFlight then s.completeDesc e ch 1 else s

/-- Give whole host buffers, one descriptor, to a channel that is no output channel: a copy of `bytes` (12 R383). (log 110 DEDUCED) -/
def State.copyToRing (s : State) (e ch : Nat) (bytes : List Byte) : Bool × State :=
  let r := s.takeDesc e ch bytes.length
  if r.1 then (true, r.2.giveFrame e ch [{ offset := 0, bytes := bytes, ext := true }] [] false) else r

/-! Service. -/

/-- The channel has a transfer that its engine can serve now (R335). -/
def Channel.canServe (c : Channel) : Bool := c.enable && c.inFlight && !c.transfers.isEmpty && c.state == .active

/-- Order of channel numbers after the one served last, wrapping (R335). -/
def roundRobin (last : Nat) : List Nat := (List.range 32).map fun i => (last + 1 + i) % 32

/-- The channel that the engine takes: highest PRIO, then the first after the one served last (R335). -/
def State.choose (s : State) (e : Nat) : Option Nat :=
  let cs := (roundRobin (s.engine e).activeCh).filter fun ch => ch != 31 && (s.chan e ch).canServe
  let top := cs.foldl (fun a ch => max a (s.chan e ch).prio) 0
  cs.find? fun ch => (s.chan e ch).prio == top

/-- Serve one transfer of a channel: its data goes to the buffer (R333, R334), a poisoned word marks the frame (01 R39). (log 28 DEDUCED, 31 DEDUCED) -/
def State.serve (s : State) (e ch : Nat) (data : Delivery) : State :=
  let c := s.chan e ch
  match c.transfers, c.fetched with
  | t :: r, d :: _ =>
    let s := s.delivered (if c.output && !t.ext then 1 else 2) data
    let s := (descWrites d t.offset t.bytes).foldl (fun s w => s.hostWrite w.addr w.bytes w.noSnoop) s
    let f := c.frame.map fun f => { f with poisoned := f.poisoned || data == .poisoned }
    let c := { c with transfers := r, done := c.done + t.bytes.length, frame := f, unacked := true
                      lastAddr := partAddr d.parts (t.offset + t.bytes.length - 1) }
    ((s.setChan e ch c).modEngine e fun x => { x with activeCh := ch }).frameSent e ch
  | _, _ => s

/-- DMA_SERVICE: Channel 31 above all others, otherwise the channel of R335 (R335, R338). -/
def execDmaService (e : Nat) (data : Delivery) (s : State) : Host.Outcome State Fault Refusal :=
  if 32 ≤ e then .next s
  else
    let x := s.engine e
    if x.halted || x.inReset || (!s.hostOpen && e != 31 && e != 29) || s.ledger.pstate == .low then .next s
    else if x.readbacks.any fun r => !r.issued then
      .next (s.setEngine e { x with activeCh := 31, readbacks := x.readbacks.map fun r => { r with issued := true } })
    else match s.choose e with
      | none => .next s
      | some ch => .next (s.serve e ch data)

/-- The descriptors that a fetch adds: in ring order while OWN = 1, up to eight ahead (R331). (log 11 DEDUCED) -/
def Channel.takeFetch (c : Channel) (descs : List Fetched) : Channel :=
  let skip := c.skipOwn && c.fetched.isEmpty && (match descs with | d :: _ => !d.own | [] => false)
  let c := if skip then { c with head := (c.head + 1) % 2 ^ c.size, skipOwn := false } else { c with skipOwn := false }
  let descs := if skip then descs.tail else descs
  let room := 8 - c.fetched.length
  let got := (descs.take room).takeWhile Fetched.own
  let ended := decide (got.length < (descs.take room).length)
  { c with fetched := c.fetched ++ got, fetching := if ended then c.again else c.fetching, again := if ended then false else c.again }

/-- DESCRIPTOR_FETCH_DONE (R331): no read of a host ring while the device may issue none (R318); in LOW the engines have stopped
(10 Table 10-1). -/
def execDescriptorFetchDone (e ch : Nat) (descs : List Fetched) (s : State) : Host.Outcome State Fault Refusal :=
  if 32 ≤ e || 32 ≤ ch then .next s
  else
    let c := s.chan e ch
    if !c.enable || !c.fetching || c.state == .halted || 8 ≤ c.fetched.length || s.ledger.pstate == .low || (!c.ringMem && !s.hostOpen) then .next s
    else .next ((s.setChan e ch (c.takeFetch descs)).settle e ch)

/-- A descriptor whose last write has left its engine: an ordinary channel's (R339). -/
def Channel.allWritten (c : Channel) (e ch : Nat) : Bool :=
  c.inFlight && (c.frame.any fun f => f.whole) && c.transfers.isEmpty && !c.output && !(e == 30 && ch == 0)

/-- The write-back of a channel whose engine has halted in the same cycle stands; the channel is halted after it (R356). -/
def State.completeHalted (s : State) (e ch status : Nat) : State :=
  let s := s.completeDesc e ch status
  let s := s.modChan e ch fun c => { c with state := .halted, skipOwn := false }
  s.modEngine e fun x => { x with outstanding := BitVec.ofNat 32 (maskOf ((List.range 32).filter fun k => k != ch && x.outstanding.getLsbD k)) }

/-- DMA_DESCRIPTOR_COMPLETE: an ordinary channel's last write has left its engine (R339, R340). -/
def execDmaDescriptorComplete (e ch : Nat) (s : State) : Host.Outcome State Fault Refusal :=
  if 32 ≤ e || 32 ≤ ch then .next s
  else
    let c := s.chan e ch
    let status := match c.frame with | some f => if f.poisoned then 2 else 0 | none => 0
    .next (if !c.allWritten e ch then s
      else if c.state == .active then s.completeDesc e ch status
      else if c.state == .halted && (s.engine e).halted && (s.engine e).haltCycle = s.now then s.completeHalted e ch status
      else s)

/-- DOORBELL_RING (R331, R337). -/
def execDoorbellRing (e ch : Nat) (s : State) : Host.Outcome State Fault Refusal :=
  if 32 ≤ e || 32 ≤ ch then .next s
  else
    let c := s.chan e ch
    if !s.hostRegs || !c.enable || c.state == .halted then .next s
    else
      let c := { c.bell with stopPending := false, state := if c.state == .stopped then .empty else c.state }
      .next ((s.setChan e ch c).settle e ch)

/-- DOORBELL_STOP: finish the descriptor in progress, then STOPPED (R337); a start of the same cycle is kept (R356). -/
def execDoorbellStop (e ch : Nat) (s : State) : Host.Outcome State Fault Refusal :=
  if 32 ≤ e || 32 ≤ ch then .next s
  else
    let c := s.chan e ch
    if !s.hostRegs || !c.enable || c.state == .halted then .next s
    else if c.inFlight then .next (s.setChan e ch { c with stopPending := true })
    else .next (s.setChan e ch { c.unstart s.now with state := .stopped })

/-- A halted engine runs again: every channel is EMPTY until its next doorbell (R342, 15 Table 15-4). -/
def State.resumeEngine (s : State) (e : Nat) : State :=
  let s := s.modEngine e fun x => { x with halted := false, cause := 0, forcePending := false, inReset := false, readbacks := if e < 28 then [] else x.readbacks }
  (List.range 32).foldl (fun s ch =>
    if (s.chan e ch).enable then
      s.modChan e ch fun c => { c with state := .empty, fetched := [], fetching := false, again := false, inFlight := false
                                       released := false, transfers := [], done := 0, frame := none, skipOwn := c.inFlight || c.skipOwn, owed := none }
    else s) s

/-- ENGINE_FORCE_HALT (R357). (log 9 DEDUCED) -/
def execEngineForceHalt (e : Nat) (s : State) : Host.Outcome State Fault Refusal :=
  if 32 ≤ e then .next s
  else if !s.hostRegs || (s.engine e).halted then .next s
  else .next ((s.modEngine e fun x => { x with forcePending := true }).tryForce e)

/-- A tag block's read-back is on its way for a channel: in the cycle of a halt its write-back can still stand (R356). -/
def Engine.tagUnderWay (x : Engine) (ch : Nat) : Bool := x.readbacks.any fun r => r.issued && r.kind == .tag && r.ch == ch

/-- A channel of an engine that halts (R341). -/
def Channel.halt (c : Channel) (keep : Bool) : Channel :=
  { c with state := .halted, transfers := [], frame := if keep then c.frame else none, skipOwn := c.inFlight || c.skipOwn, owed := none }

/-- Read-backs of an engine that halts: tag blocks that may stand in this cycle (R356), and what an internal engine asks for again. -/
def Engine.haltReadbacks (x : Engine) (e : Nat) : List ReadBack :=
  if e < 28 then x.readbacks.filter fun r => r.issued && r.kind == .tag
  else (x.readbacks.filter fun r => r.kind != .image).map fun r => { r with issued := false }

/-- The engine halts at once: no descriptor in flight is completed, and a bit of Outstanding marks each (R341). (log 147 DEDUCED) -/
def State.haltEngine (s : State) (e cause : Nat) : State :=
  let x := s.engine e
  let mask := maskOf ((List.range 32).filter fun ch => (s.chan e ch).inFlight || (ch == 31 && x.readbacks.any fun r => r.issued))
  let s := (List.range 32).foldl (fun s ch =>
    let c := s.chan e ch
    let s := if c.inFlight && c.output && c.frame.isSome && !x.tagUnderWay ch then s.hostDrop c.context c.out else s
    if c.enable then s.modChan e ch fun c => c.halt (c.allWritten e ch || x.tagUnderWay ch) else s) s
  let s := s.modEngine e fun x =>
    { x with halted := true, cause := cause, outstanding := BitVec.ofNat 32 mask, forcePending := false, haltCycle := s.now, readbacks := x.haltReadbacks e }
  s.raiseLog (evEngine e) 1 0 (cause * 2 ^ 61 + mask)

/-- The cycle of a halt has passed: tag blocks whose read-back has not returned in it are lost, and their frames dropped (R341, R356). -/
def State.stepHalts (s : State) : State :=
  s.engines.foldl (fun (s : State) x =>
    if !x.2.halted || 28 ≤ x.1 || x.2.readbacks.isEmpty then s
    else
      let s := (x.2.readbacks.map fun r => r.ch).foldl (fun (s : State) ch =>
        let c := s.chan x.1 ch
        (if c.inFlight && c.output && c.frame.isSome then s.hostDrop c.context c.out else s).modChan x.1 ch fun c => { c with frame := none }) s
      s.modEngine x.1 fun y => { y with readbacks := [] }) s

end Sys2Proof.Machine
end

