-- ==== Sys2Proof/Machine/Keys.lean ====
section
/-! DEFINITION. The key engine: derived keys, identities and fuse hashes (13_security.md R394 to R396). -/
namespace Sys2Proof.Machine

/-- UDS, 32 bytes. -/
def udsBytes : List Byte := (List.range 32).map Config.uds

/-- VENDOR_ROOT, 64 bytes. -/
def vendorRootBytes : List Byte := (List.range 64).map Config.vendorRoot

/-- Seed of the device identity key (Table 13-4). -/
def identitySeed : List Byte := kmac256 udsBytes (ascii "identity") 57 "gv-id-key"

def identityPub : List Byte := ed448Pub identitySeed

/-- RING_ID as its 16 bytes. -/
def ringIdBytes (id : BitVec 128) : List Byte := bytesLE 16 id.toNat

/-- Seed of the ring sealing key of a RING_ID; FORMAT is 0x01 (Table 13-4). -/
def sealSeed (id : BitVec 128) : List Byte := kmac256 udsBytes (ascii "seal" ++ ringIdBytes id ++ [1]) 57 "gv-seal-key"

/-- Door wrapping key, 32 bytes. -/
def doorWrap : List Byte := kmac256 udsBytes (ascii "door") 32 "gv-door-wrap"

/-- The derived keys (Table 13-4), in its order. -/
inductive SignKey where
  | identity
  | seal (id : BitVec 128)
  | doorWrap
  deriving DecidableEq, Repr

/-- The context strings that a key signs under (Table 13-4). -/
def SignKey.contexts : SignKey → List String
  | .identity => ["gv-attest", "gv-door"]
  | .seal _ => ["gv-seal"]
  | .doorWrap => []

/-- The key's number in SEC_KEY_MISUSE. (log 177 DESIGN CHOICE) -/
def SignKey.code : SignKey → Nat
  | .identity => 0 | .seal _ => 1 | .doorWrap => 2

def SignKey.seed : SignKey → List Byte
  | .identity => identitySeed | .seal id => sealSeed id | .doorWrap => Sys2Proof.Machine.doorWrap

/-- DEVICE_ID, 16 bytes (R395). -/
def deviceId : List Byte := (shake256 (ascii "gv-devid" ++ identityPub) 64).take 16

/-- OWNER_HASH of a public key, 32 bytes (Table 13-3). -/
def ownerHashOf (pub : List Byte) : List Byte := (shake256 (ascii "gv-owner" ++ pub) 64).take 32

/-- The vendor root's hash of a public key. -/
def vendorHashOf (pub : List Byte) : List Byte := shake256 (ascii "gv-vendor" ++ pub) 64

def xorBytes (a b : List Byte) : List Byte := List.zipWith (· ^^^ ·) a b

/-- The check value kept beside the wrapped door secret (R400). -/
def doorCheck (secret : List Byte) : List Byte := kmac256 doorWrap secret 32 "gv-door-check"

/-- The key engine derives and signs: not in RETIRED (R396). -/
def Security.keysUp (x : Security) : Bool := x.lifecycle != .retired

/-- The key engine signs under one of the key's own context strings; another request is refused, with SEC_KEY_MISUSE (R395). In RETIRED it
signs nothing (R396). (log 177 DESIGN CHOICE) -/
def State.keySign (s : State) (k : SignKey) (ctx : String) (m : List Byte) : Option (List Byte) × State :=
  if !s.sec.keysUp then (none, s)
  else if !k.contexts.contains ctx then (none, s.raiseSec 0x0A k.code)
  else (some (ed448Sign k.seed ctx m), s)

/-- The slot holds this key, revoked or not (check 3 of R398). -/
def Security.slotHolds (x : Security) (slot : Nat) (pub : List Byte) : Bool := x.ownerHash.getD slot none == some (ownerHashOf pub)

/-- An owner slot holds this key and is not revoked. -/
def Security.ownerOk (x : Security) (slot : Nat) (pub : List Byte) : Bool :=
  x.slotHolds slot pub && !x.ownerRevoked.getD slot true

end Sys2Proof.Machine
end

