-- ==== Sys2Proof/Machine/Sillage.lean ====
section
/-! DEFINITION. The Sillage writer's operations (09_sillage_ring.md R267 to R291): segments and pieces, spans, chaining,
sealing, protected windows, NVMe commands, drive loss. -/
namespace Sys2Proof.Machine

/-- Body of a segment in bytes (R270). -/
def bodyBytes : Nat := 67100672
/-- Bytes reserved for the LOG piece (R277). -/
def logPieceBytes : Nat := 65600
/-- Largest DATA piece (Table 9-4). -/
def pieceMax : Nat := 262144
def pad64 (n : Nat) : Nat := ceilDiv n 64 * 64
def zeros (n : Nat) : List Byte := List.replicate n 0

/-- RING_ID's first chain value, C_{−1} (R274). -/
def chainStart (id : BitVec 128) : List Byte := shake256 (ascii "gv-ring" ++ ringIdBytes id) 64

/-- A Device Time as 10 bytes (R267), from ns. -/
def time10 (ns : Nat) : List Byte := bytesLE 10 (ptp80 ns)

/-! Images. -/

/-- The open block (Table 9-3). -/
def openBlock (id : BitVec 128) (g : Segment) : List Byte :=
  ascii "GVSG" ++ [1, BitVec.ofNat 8 g.drive] ++ bytesLE 2 g.index ++ bytesLE 8 g.ssn ++ ringIdBytes id ++ bytesLE 8 g.span ++
    bytesLE 4 g.slot ++ bytesLE 10 g.openTime ++ zeros 4042

/-- A piece's header (Table 9-4). -/
def pieceHeader (p : Piece) : List Byte :=
  bytesLE 2 0x5347 ++ [BitVec.ofNat 8 p.kind, BitVec.ofNat 8 p.flags, BitVec.ofNat 8 p.context, BitVec.ofNat 8 p.dt, 0, 0] ++
    bytesLE 8 p.frameNo ++ bytesLE 8 p.recOffset ++ bytesLE 4 p.data.length ++ zeros 36

/-- A piece with its header and padding (R271). -/
def pieceBytes (p : Piece) : List Byte := pieceHeader p ++ p.data ++ zeros (pad64 p.data.length - p.data.length)

def segmentBody (g : Segment) : List Byte :=
  let b := g.pieces.flatMap pieceBytes
  b ++ zeros (bodyBytes - b.length)

/-- Bytes 0 to 3967 of the close block (Table 9-3). -/
def closeHead (g : Segment) : List Byte :=
  bytesLE 8 g.ssn ++ bytesLE 4 g.used ++ bytesLE 4 g.pieces.length ++ bytesLE 2 (min 244 g.ranges.length) ++
    [BitVec.ofNat 8 (b2n (decide (244 < g.ranges.length)) + 2 * b2n g.cut)] ++ zeros 5 ++
    time10 (g.capMin.getD 0) ++ time10 (g.capMax.getD 0) ++ zeros 20 ++
    (let rs := (g.ranges.take 244).flatMap fun r =>
       bytesLE 4 r.off ++ bytesLE 4 r.len ++ [BitVec.ofNat 8 r.kind, BitVec.ofNat 8 r.context] ++ zeros 6
     rs ++ zeros (3904 - rs.length))

/-- D_n (R274). -/
def segmentDigest (id : BitVec 128) (g : Segment) : List Byte := shake256 (openBlock id g ++ segmentBody g ++ closeHead g) 64

/-- C_n (R274). -/
def chainNext (prev digest : List Byte) (ssn : Nat) : List Byte :=
  shake256 (ascii "gv-chain" ++ prev ++ digest ++ bytesLE 8 ssn) 64

/-- The span record less its signature: bytes 0 to 19 455 (Table 9-6). -/
def spanHead (id : BitVec 128) (c : ClosedSpan) : List Byte :=
  let lost := maskOf ((List.range c.segs.length).filter fun i => match c.segs[i]? with | some x => x.lost | none => false)
  ascii "GVSP" ++ [1, BitVec.ofNat 8 c.reason, BitVec.ofNat 8 (b2n c.debugOpen + 2 * b2n (lost != 0)), BitVec.ofNat 8 (maskOf c.members)] ++
    bytesLE 2 c.count ++ bytesLE 2 c.dirSlot ++ zeros 4 ++ ringIdBytes id ++ bytesLE 8 c.no ++ bytesLE 8 c.firstSsn ++
    time10 c.openTime ++ time10 c.closeTime ++ bytesLE 32 lost ++ c.prevChain ++
    ((c.segs.getLast?.bind fun x => x.chain).getD (zeros 64)) ++ zeros 796 ++
    (let ls := c.segs.flatMap fun x => [BitVec.ofNat 8 x.drive] ++ zeros 3 ++ bytesLE 4 x.slot
     ls ++ zeros (2048 - ls.length)) ++
    (let ds := c.segs.flatMap fun x => x.digest.getD (zeros 64)
     ds ++ zeros (16384 - ds.length))

/-- A label (Table 9-2). -/
def labelBytes (r : Ring) (drive : Nat) : List Byte :=
  let ws := (List.range 16).flatMap fun i =>
    match r.windows.lookup i with
    | some w => time10 w.start ++ time10 w.stop ++ [if w.state == .held then 2 else 1, BitVec.ofNat 8 w.trigger] ++ zeros 10
    | none => zeros 32
  let b := ascii "GVRL" ++ [1, BitVec.ofNat 8 drive, 0, 0] ++ bytesLE 8 r.labelSeq ++ ringIdBytes r.ringId ++ bytesLE 4 r.slots ++
    r.sealPub ++ zeros (57 - r.sealPub.length) ++ zeros 35 ++ ws ++ zeros 3452
  b ++ bytesLE 4 (crc32c b).toNat

/-! NVMe commands. -/

/-- First LBA of a slot (R267). -/
def slotLba (slot : Nat) : Nat := 16384 * slot

/-- Bytes of one Write or Read: 32 LBAs, which every accepted drive transfers (R263). (log 124 DESIGN CHOICE) -/
def transferBytes : Nat := 131072

/-- Commands that a drive has outstanding in a queue. -/
def Ring.inQueue (r : Ring) (d q : Nat) : Nat := (r.nvme.filter fun c => c.drive == d && c.queue == q).length

/-- A queue with a free entry: the admin queue, or the first of the 8 I/O queues, each of 256 entries of which 255 can be outstanding (R264). -/
def Ring.freeQueue (r : Ring) (c : NvmeCmd) : Option Nat :=
  match c.op with
  | .admin _ => some 0
  | _ => ((List.range 8).map fun q => q + 1).find? fun q => decide (r.inQueue c.drive q < 255)

/-- Put a command into a queue of its drive, or let it wait for a place. (log 124 DESIGN CHOICE) -/
def Ring.queue (now : Nat) (r : Ring) (c : NvmeCmd) : Ring :=
  match r.freeQueue c with
  | some q => { r with nvme := r.nvme ++ [{ c with queue := q, cid := r.nextCid, at_ := now }], nextCid := (r.nextCid + 1) % 65536 }
  | none => { r with nvmeWait := r.nvmeWait ++ [c] }

/-- The commands of a drive come to nothing. -/
def Ring.dropCommands (r : Ring) (d : Nat) : Ring :=
  { r with nvme := r.nvme.filter (fun c => c.drive != d), nvmeWait := r.nvmeWait.filter fun c => c.drive != d }

/-- A RING_START is given up: its Reads come to nothing. -/
def Ring.dropStart (r : Ring) : Ring :=
  { r with starting := none, nvme := r.nvme.filter (fun c => c.for_ != .start), nvmeWait := r.nvmeWait.filter fun c => c.for_ != .start }

/-- Submit a command (R264). -/
def Ring.submit (now : Nat) (r : Ring) (drive : Nat) (f : NvmeFor) (op : NvmeOp) (lba blocks : Nat) (data : List Byte) : Ring :=
  r.queue now { drive := drive, queue := 0, cid := 0, op := op, lba := lba, blocks := blocks, data := data, for_ := f, at_ := 0, retried := false }

/-- The oldest command that waits on a drive takes a place that has become free. -/
def Ring.queueNext (now : Nat) (r : Ring) (d : Nat) : Ring :=
  match r.nvmeWait.find? fun c => c.drive == d with
  | some c => { r with nvmeWait := eraseFirst (fun x => x.drive == d) r.nvmeWait }.queue now c
  | none => r

/-- Writes of consecutive LBAs, in transfers. -/
def Ring.submitWrites (now : Nat) (r : Ring) (drive : Nat) (f : NvmeFor) (lba : Nat) (data : List Byte) : Ring :=
  (List.range (ceilDiv data.length transferBytes)).foldl (fun (r : Ring) i =>
    let part := (data.drop (i * transferBytes)).take transferBytes
    r.submit now drive f .write (lba + 32 * i) (ceilDiv part.length 4096) part) r

/-- Reads of consecutive LBAs, in transfers. -/
def Ring.submitReads (now : Nat) (r : Ring) (drive : Nat) (f : NvmeFor) (lba blocks : Nat) : Ring :=
  (List.range (ceilDiv blocks 32)).foldl (fun (r : Ring) i => r.submit now drive f .read (lba + 32 * i) (min 32 (blocks - 32 * i)) []) r

/-- First LBA of a slot of the span directory (R267). -/
def dirLba (slot : Nat) : Nat := 256 + 5 * slot

/-- Write the label to a member: the two copies in turn (R268). -/
def Ring.writeLabel (now : Nat) (r : Ring) (d : Nat) : Ring :=
  let x := r.drive d
  let b := labelBytes r d
  (r.setDrive d (if x.labelNext then { x with labelB := b, labelNext := false } else { x with labelA := b, labelNext := true })).submit now d .label .write
    (b2n x.labelNext) 1 b

/-- Write the label to every member (R268). -/
def Ring.writeLabels (now : Nat) (r : Ring) : Ring :=
  let r := { r with labelSeq := r.labelSeq + 1, labelDue := false, labelHeld := false }
  r.members.foldl (fun r d => r.writeLabel now d) r

/-! Windows and slots. -/

/-- A window meets the capture times of a segment (R285: the end lies outside). -/
def windowMeets (w : Window) (lo hi : Nat) : Bool := decide (lo ≤ hi) && decide (w.start ≤ hi) && decide (lo < w.stop)

/-- A segment is protected (R285). -/
def Ring.protects (r : Ring) (lo hi : Nat) : Bool := r.windows.any fun w => windowMeets w.2 lo hi

/-- A live segment that is not to be overwritten: protected, or under retrieval until its image has been read (R269, R292). -/
def Ring.keeps (r : Ring) (l : LiveSeg) : Bool :=
  r.protects l.capMin l.capMax ||
  (match r.retrieval with
   | some x => !x.bySpan && decide (x.next ≤ l.ssn) && decide (l.ssn ≤ x.last) && !(x.awaiting.isSome && x.next == l.ssn)
   | none => false)

/-- The next slot from `slot` on, cyclically from 1 to SLOTS, that is not in `kept` (R269). -/
def nextSlot (slots : Nat) (kept : List Nat) : Nat → Nat → Nat
  | 0, slot => slot
  | n + 1, slot => if kept.contains slot then nextSlot slots kept n (if slot < slots then slot + 1 else 1) else slot

/-- Live segments that windows protect. -/
def Ring.protectedCount (r : Ring) (ws : List Window) : Nat :=
  (r.live.filter fun l => !l.lost && ws.any fun w => windowMeets w l.capMin l.capMax).length

/-- One quarter of the ring's slots (R286). -/
def Ring.quarter (r : Ring) : Nat := r.members.length * r.slots / 4

/-- The latest START that keeps the window's segments, with those of the other windows, within the quarter (R286). -/
def Ring.cutStart (r : Ring) (others : List Window) (w : Window) : Window :=
  if r.protectedCount (w :: others) ≤ r.quarter then w
  else
    let starts := sortByKey id ((r.live.filter fun l => !l.lost && windowMeets w l.capMin l.capMax).map fun l => l.capMax + 1)
    match starts.find? fun t => decide (r.protectedCount ({ w with start := max w.start t } :: others) ≤ r.quarter) with
    | some t => { w with start := max w.start t }
    | none => { w with start := w.stop }

/-- Change the window table: the label is to follow it, in LOW from the next RING_START on (R268, 10 R299). -/
def State.setWindows (s : State) (f : List (Nat × Window) → List (Nat × Window)) : State :=
  s.modRing fun r => { r with windows := f r.windows, labelDue := true, labelHeld := r.labelHeld || s.ledger.pstate == .low }

/-- The earliest END that keeps within the quarter what windows protect (R286). (log 164 DESIGN CHOICE) -/
def Ring.cutStop (r : Ring) (others : List Window) (w : Window) : Window :=
  let stops := (sortByKey id ((r.live.filter fun l => !l.lost && windowMeets w l.capMin l.capMax).map fun l => max w.start l.capMin)).reverse
  match stops.find? fun t => decide (r.protectedCount ({ w with stop := t } :: others) ≤ r.quarter) with
  | some t => { w with stop := t }
  | none => { w with stop := w.start }

/-- Windows that pass the quarter as segments close, or as the ring grows smaller, are cut: pending ones first, of these the one that ends
last (R286). (log 164 DESIGN CHOICE) -/
def State.trimWindows (s : State) : State :=
  let order := (sortByKey (fun (x : Nat × Window) => (if x.2.state == .pending then 2 ^ 80 else 0) + x.2.stop) s.ring.windows).reverse
  order.foldl (fun (s : State) x =>
    if s.ring.protectedCount (s.ring.windows.map fun y => y.2) ≤ s.ring.quarter then s
    else
      let w := s.ring.cutStop ((s.ring.windows.filter fun y => y.1 != x.1).map fun y => y.2) x.2
      if w = x.2 then s else (s.setWindows fun ws => bankPut x.1 w ws).raise evRing 3) s

/-! Segments. -/

/-- The segment being filled. -/
def Ring.filling (r : Ring) : Option Segment := r.segments.find? fun g => !g.full

def Ring.modSegment (r : Ring) (ssn : Nat) (f : Segment → Segment) : Ring :=
  { r with segments := r.segments.map fun g => if g.ssn = ssn then f g else g }

/-- Members that take new segments: not those being drained (15 R454). -/
def Ring.takers (r : Ring) (l : List Nat) : List Nat := l.filter fun d => !(r.drive d).drained

/-- Slots of a drive that the write pointer skips: a lost segment holds none (R269, R289). -/
def Ring.keptSlots (r : Ring) (d : Nat) : List Nat := (r.live.filter fun l => l.drive == d && !l.lost && r.keeps l).map fun l => l.slot

/-- Open segment nextSsn of the open span, and write its open block (R269, R270); `t` is Device Time in ns. -/
def Ring.openSegment (now : Nat) (r : Ring) (t : Nat) : Ring :=
  match r.span with
  | none => r
  | some sp =>
    let i := r.nextSsn - sp.firstSsn
    let ds := if (r.takers sp.members).isEmpty then sp.members else r.takers sp.members
    let d := ds.getD (i % max 1 ds.length) 0
    let dr := r.drive d
    let kept := r.keptSlots d
    let slot := nextSlot r.slots kept (r.slots + 1) (if dr.writeSlot = 0 then 1 else dr.writeSlot)
    let after := nextSlot r.slots kept (r.slots + 1) (if slot < r.slots then slot + 1 else 1)
    let g : Segment :=
      { ssn := r.nextSsn, drive := d, slot := slot, span := sp.no, index := i, openTime := ptp80 t, pieces := [], used := 0
        ranges := [], capMin := none, capMax := none, cut := false, full := false, closed := false, sent := 0, awaitsLog := false, digest := none
        chain := none, closeWritten := false, flushed := false, lost := false, sealed := false, openedAt := now
        overwritten := r.live.filter fun x => x.drive == d && x.slot == slot }
    let r := r.setDrive d { dr with writeSlot := after }
    let l : LiveSeg := { ssn := g.ssn, span := sp.no, drive := d, slot := slot, capMin := 1, capMax := 0, lost := false }
    { r with segments := r.segments ++ [g], nextSsn := r.nextSsn + 1
             live := (r.live.filter fun (x : LiveSeg) => !(x.drive == d && x.slot == slot)) ++ [l] }.submit now d (.body g.ssn) .write (slotLba slot) 1 (openBlock r.ringId g)

/-- Body bytes that pieces may take: the last segment of a span keeps room for the LOG piece (R277). -/
def Segment.room (g : Segment) : Nat := (if g.index = 255 then bodyBytes - logPieceBytes else bodyBytes) - g.used

/-- Widen the capture times of a segment (R270). -/
def Ring.widen (r : Ring) (ssn : Nat) (capture : Option Nat) : Ring :=
  match capture with
  | none => r
  | some t =>
    let r := r.modSegment ssn fun g =>
      { g with capMin := some (match g.capMin with | some a => min a t | none => t)
               capMax := some (match g.capMax with | some a => max a t | none => t) }
    { r with live := r.live.map fun l =>
        if l.ssn = ssn then (if l.capMax < l.capMin then { l with capMin := t, capMax := t } else { l with capMin := min l.capMin t, capMax := max l.capMax t }) else l }

/-- Ranges of a record that fall in payload bytes [off, off + n) of a piece whose data begins at body offset `at_` (R273). -/
def pieceRanges (ranges : List (Nat × Nat × Nat)) (ctx frame off n at_ : Nat) : List SegRange :=
  (ranges.filter fun x => decide (x.1 < off + n) && decide (off < x.1 + x.2.1)).map fun x =>
    let a := max x.1 off
    { off := at_ + (a - off), len := min (x.1 + x.2.1) (off + n) - a, kind := x.2.2, context := ctx, frame := frame, src := x.1 }

/-- A range of a piece joins the entry that its segment already has for it: the length counts the range's own bytes there (R273). (log 125 DEDUCED) -/
def addRange (l : List SegRange) (x : SegRange) : List SegRange :=
  let same := fun (y : SegRange) => y.context == x.context && y.frame == x.frame && y.kind == x.kind && y.src == x.src
  if l.any same then l.map fun y => if same y then { y with len := y.len + x.len } else y else l ++ [x]

/-- Submit the Writes of what has filled of a segment's body, in whole transfers, or all that is left (R270). -/
def Ring.writeBody (now : Nat) (r : Ring) (g : Segment) (all : Bool) : Ring :=
  let upto := if all then ceilDiv g.used 4096 * 4096 else g.used / transferBytes * transferBytes
  if upto ≤ g.sent then r
  else
    (r.submitWrites now g.drive (.body g.ssn) (slotLba g.slot + 1 + g.sent / 4096) (((segmentBody g).drop g.sent).take (upto - g.sent))).modSegment g.ssn
      fun g => { g with sent := upto }

/-- Put one piece into the segment being filled, which has room for it. -/
def Ring.putPiece (now : Nat) (r : Ring) (g : Segment) (p : Piece) (capture : Option Nat) (ranges : List (Nat × Nat × Nat)) : Ring :=
  let used := g.used + 64 + pad64 p.data.length
  let rs := pieceRanges ranges p.context p.frameNo p.recOffset p.data.length (g.used + 64)
  let g := { g with pieces := g.pieces ++ [p], used := used, ranges := rs.foldl addRange g.ranges }
  let g := { g with full := decide (g.room < 128) }
  ((r.modSegment g.ssn fun _ => g).writeBody now g false).widen g.ssn capture

/-- Lowest directory slot after `prev` that holds no span with a live segment (R275). -/
def Ring.freeDirSlot (r : Ring) (prev : Option Nat) : Nat :=
  let busy := (r.spanRecs.filter fun x => r.live.any fun l => decide (x.firstSsn ≤ l.ssn) && decide (l.ssn < x.firstSsn + x.count)).map (fun x => x.dirSlot) ++
    r.closedSpans.map fun x => x.dirSlot
  let first := match prev with | some k => (k + 1) % 3225 | none => 0
  let order := (List.range 3225).map fun i => (first + i) % 3225
  (order.find? fun k => !busy.contains k).getD first

/-- Directory slot of the span before. -/
def Ring.prevDirSlot (r : Ring) : Option Nat :=
  match r.closedSpans.getLast? with
  | some c => some c.dirSlot
  | none => r.spanRecs.getLast?.map fun x => x.dirSlot

/-- The whole log, 4096 entries of 16 bytes by index (R277, 15 R439). -/
def TroubleLog.image (l : TroubleLog) : List Byte :=
  (List.range 4096).flatMap fun i => bytesLE 16 (bankGet (fun _ => (0 : BitVec 128)) l.entries i).toNat

/-- Close a segment: what is left of its body is written, the rest of it as zeroes, and its digest begins (R270, R274). -/
def Ring.closeSegment (now : Nat) (r : Ring) (g : Segment) (cut : Bool) : Ring :=
  let r := (r.modSegment g.ssn fun g => { g with full := true, closed := true, cut := cut }).writeBody now g true
  let written := ceilDiv g.used 4096
  if 16382 ≤ written then r
  else r.submit now g.drive (.body g.ssn) .writeZeroes (slotLba g.slot + 1 + written) (16382 - written) []

/-- The scope flag of an opening span (Table 9-6): debug open in OWNED-SEALED. -/
def State.debugSpan (s : State) : Bool := s.sec.lifecycle == .ownedSealed && !s.sec.debugOpen.isEmpty

/-- The open span is marked while debug is open in OWNED-SEALED. -/
def State.markSpan (s : State) : State := if s.debugSpan then s.modRing fun r => { r with span := r.span.map fun x => { x with debugOpen := true } } else s

/-- Open the next span on a formation (R275). -/
def State.openSpan (s : State) (members : List Nat) : State :=
  s.modRing fun r =>
    { r with members := members, nextSpan := r.nextSpan + 1
             span := some { no := r.nextSpan, firstSsn := r.nextSsn, members := members, openTime := s.dtNs, prevChain := r.chain, debugOpen := s.debugSpan } }

/-- The last segment, while it is not closed and has room for the LOG piece. -/
def Ring.logTarget (r : Ring) : Option Segment :=
  match r.segments.getLast? with
  | some g => if !g.closed && decide (logPieceBytes ≤ bodyBytes - g.used) then some g else none
  | none => none

/-- Place the LOG piece at the end of the closing segment: the READBACK channel of Engine 29 takes the snapshot (R277). -/
def State.placeLog (s : State) : State :=
  let s := if s.ring.logTarget.isSome then s else s.modRing fun r => r.openSegment s.now s.dtNs
  match s.ring.logTarget with
  | none => s
  | some g =>
    let p : Piece := { kind := 3, flags := 0, context := 0, dt := 0, frameNo := 0, recOffset := 0, data := s.log.image }
    let s := s.modRing fun r =>
      { (r.putPiece s.now g p none []).modSegment g.ssn (fun g => { g with awaitsLog := true }) with u := r.u + logPieceBytes, snapshot := s.log.written }
    s.modEngine 29 fun x => { x with readbacks := x.readbacks ++ [{ kind := .logPiece g.ssn, issued := false, ch := 31, addr := 0, bytes := [] }] }

/-- A span that has closed in this very cycle takes the reason of an entry to HOLD or of a drive loss in the same cycle (R294). -/
def Ring.reclose (r : Ring) (now reason : Nat) : Ring :=
  let gives := fun (old : Nat) => (reason = 3 && old < 4) || (reason = 4 && old != 6)
  { r with closedSpans := r.closedSpans.map fun c => if c.closedAt = now && gives c.reason then { c with reason := reason } else c }

/-- The span that is open began in this very cycle with the close of the one before, and holds no segment yet. -/
def Ring.justOpened (r : Ring) (now : Nat) : Bool :=
  match r.span, r.closedSpans.getLast? with
  | some sp, some c => c.closedAt == now && r.nextSsn == sp.firstSsn
  | _, _ => false

/-- Close the open span with a reason of Table 9-5 and, where recording goes on, open the next on `next`. A segment that is closed before it
is full is CUT at HOLD, STOP and drive loss (Table 9-3). -/
def State.closeSpan (s : State) (reason : Nat) (next : Option (List Nat)) : State :=
  let s := s.modRing fun r => r.reclose s.now reason
  match s.ring.span with
  | none => s
  | some sp =>
    if (reason = 3 || reason = 4 || (s.ring.closedSpans.getLast?.any fun c => c.reason == 4)) && s.ring.justOpened s.now then
      s.modRing fun r => { r with span := next.map fun ms => { sp with members := ms }, members := next.getD r.members }
    else
    let short := (s.ring.segments.filter fun g => g.full).map fun g => g.ssn
    let s := s.placeLog
    let cut := reason == 2 || reason == 3 || reason == 4
    let s := s.modRing fun r =>
      (r.segments.filter fun g => !g.closed).foldl (fun r g => r.closeSegment s.now g (cut && !short.contains g.ssn)) r
    let s := s.trimWindows
    let s := s.modRing fun r =>
      { r with span := none
               closedSpans := r.closedSpans ++ [{ no := sp.no, reason := reason, members := sp.members, firstSsn := sp.firstSsn
                                                  count := r.nextSsn - sp.firstSsn, dirSlot := r.freeDirSlot r.prevDirSlot, openTime := sp.openTime
                                                  closeTime := s.dtNs, closedAt := s.now, prevChain := sp.prevChain, debugOpen := sp.debugOpen || s.debugSpan
                                                  segs := [] }] }
    match next with
    | some ms => s.openSpan ms
    | none => s

/-- Make sure that a segment is being filled; a span of 256 segments closes FULL first (R275). -/
def State.ringRoom (s : State) : State :=
  if s.ring.filling.isSome then s
  else match s.ring.span with
    | none => s
    | some sp =>
      let s := if 256 ≤ s.ring.nextSsn - sp.firstSsn then s.closeSpan 1 (some s.ring.members) else s
      s.modRing fun r => r.openSegment s.now s.dtNs

/-- A segment opened in this very cycle over one that is now protected takes the next slot instead: what it overwrote stands again (R294). -/
def Ring.yieldSlot (now : Nat) (r : Ring) (g : Segment) : Ring :=
  let d := g.drive
  let others := fun (l : List NvmeCmd) => l.filter fun c => c.for_ != NvmeFor.body g.ssn
  let r : Ring := { r with live := g.overwritten ++ r.live, nvme := others r.nvme, nvmeWait := others r.nvmeWait }
  let slot := nextSlot r.slots (r.keptSlots d) (r.slots + 1) (if g.slot < r.slots then g.slot + 1 else 1)
  let after := nextSlot r.slots (r.keptSlots d) (r.slots + 1) (if slot < r.slots then slot + 1 else 1)
  let prev := r.live.filter fun x => x.drive == d && x.slot == slot && x.ssn != g.ssn
  let g' := { g with slot := slot, sent := 0, overwritten := prev }
  let r := (r.modSegment g.ssn fun _ => g').setDrive d { r.drive d with writeSlot := after }
  let r : Ring := { r with live := (r.live.filter fun x => !prev.contains x).map fun (x : LiveSeg) => if x.ssn = g.ssn then { x with slot := slot } else x }
  (r.submit now d (.body g.ssn) .write (slotLba slot) 1 (openBlock r.ringId g')).writeBody now g' g'.closed

/-- Segments of this cycle that stand over a protected one give way (R294). -/
def Ring.yieldSlots (now : Nat) (r : Ring) : Ring :=
  r.segments.foldl (fun (r : Ring) g => if g.openedAt = now && g.overwritten.any fun l => !l.lost && r.keeps l then r.yieldSlot now g else r) r

/-- Queue data as pieces of at most `pieceMax` bytes, going on in the next segment where it does not fit (R271);
answers the SSN and body offset of the first piece's header and the body bytes taken. -/
def State.putData : Nat → State → Piece → Option Nat → List (Nat × Nat × Nat) → List Byte → Option (Nat × Nat) × Nat × State
  | 0, s, _, _, _, _ => (none, 0, s)
  | n + 1, s, p, capture, ranges, data =>
    if data.isEmpty then (none, 0, s)
    else
      let s := s.ringRoom
      match s.ring.filling with
      | none => (none, 0, s)
      | some g =>
        let k := min (min data.length pieceMax) (g.room - 64)
        let rest := data.drop k
        let lastFlag := if rest.isEmpty then p.flags else p.flags - p.flags / 4 % 2 * 4
        let s := s.modRing fun r => r.putPiece s.now g { p with data := data.take k, flags := lastFlag } capture ranges
        let r := State.putData n s { p with recOffset := p.recOffset + k } capture ranges rest
        (some (g.ssn, g.used), 64 + pad64 k + r.2.1, r.2.2)

/-! Records. -/

def Ring.openRec? (r : Ring) (c : Nat) (raw : Bool) (frame : Nat) : Option OpenRec :=
  r.openRecs.find? fun o => o.context == c && o.raw == raw && o.frame == frame

def Ring.setOpenRec (r : Ring) (o : OpenRec) : Ring :=
  { r with openRecs := r.openRecs.map fun x => if x.context == o.context && x.raw == o.raw && x.frame == o.frame then o else x }

/-- The allowance A (R282, R304). -/
def State.allowance (s : State) : Nat := min s.ring.unsealedMax s.ledger.allow

/-- k of R281 in percent, by class: 0 safety, 1 operational, 2 surveillance, 3 bulk. -/
def classShare : Nat → Nat
  | 0 => 100 | 1 => 90 | 2 => 75 | _ => 50

/-- The allowance takes a frame of a class (R281). -/
def State.ringFits (s : State) (f cls : Nat) : Bool := s.ring.state == .run && decide ((s.ring.u + f) * 100 ≤ s.allowance * classShare cls)

/-- The ring takes a frame: its reservation counts at once (R281). -/
def State.ringTake (s : State) (k : Skipped) : State :=
  s.modRing fun r =>
    { r with u := r.u + k.reserve
             openRecs := r.openRecs ++ [{ context := k.context, frame := k.frame, raw := k.raw, dt := k.dt, reserve := k.reserve, used := 0, offset := 0
                                          buf := [], crc := 0xFFFFFFFF, ranges := [], first := none, capture := none, takenAt := s.now, cls := k.cls }] }

/-- A frame start of a context whose plan selects the frame: take it or skip it (R281, R287). -/
def State.ringAdmit (s : State) (k : Skipped) : Bool × State :=
  if s.ringFits k.reserve k.cls then (true, s.ringTake k)
  else if s.ring.state == .run || s.ring.state == .noDrive then (false, s.modRing fun r => { r with skipped := r.skipped ++ [k] })
  else (false, s)

/-- A frame is skipped: FRAMES_SKIPPED, DEST_DROPS and, once a second for a context, RING_SKIP (R281). -/
def State.ringSkip (s : State) (c : Nat) : State :=
  let s := s.modRing fun r => { r with counts := bump r.counts 39 24 }
  let s := s.modCtx c fun x => x.modOut 1 fun o => { o with dropsRing := satAdd 16 o.dropsRing 1 }
  if (s.ring.skipAt.lookup c).any fun t => decide (s.now < t + cyclesPerS) then s
  else (s.modRing fun r => { r with skipAt := bankPut c s.now r.skipAt }).raise evRing 1 c

/-- As a cycle ends, frames that it has not brought into the ring are skipped. -/
def State.stepSkips (s : State) : State :=
  s.ring.skipped.foldl (fun (s : State) k => s.ringSkip k.context) (s.modRing fun r => { r with skipped := [] })

/-- The CRC register of R233 after further bytes. -/
def crcOver (crc : BitVec 32) (bytes : List Byte) : BitVec 32 := BitVec.ofNat 32 (bytes.foldl (fun c b => crcShift 0x82F63B78 8 (c ^^^ b.toNat)) crc.toNat)

/-- Stage payload bytes of a record, with ranges relative to them; whole pieces are queued (R271, R272). (log 146 DEDUCED) -/
def State.recStage (s : State) (o : OpenRec) (bytes : List Byte) (ranges : List (Nat × Nat × Nat)) : State :=
  let at_ := o.offset + o.buf.length
  let o := { o with buf := o.buf ++ bytes, crc := crcOver o.crc bytes
                    ranges := o.ranges ++ ranges.map fun x => (at_ + x.1, x.2.1, x.2.2) }
  let k := (o.buf.length - 1) / pieceMax * pieceMax
  if k = 0 then s.modRing fun r => r.setOpenRec o
  else
    let p : Piece := { kind := 1, flags := b2n o.raw, context := o.context, dt := o.dt, frameNo := o.frame, recOffset := o.offset, data := [] }
    let x := s.putData (k / 128 + 2) p o.capture o.ranges (o.buf.take k)
    let first := match o.first with | some a => some a | none => x.1
    x.2.2.modRing fun r => r.setOpenRec { o with buf := o.buf.drop k, offset := o.offset + k, used := o.used + x.2.1, first := first }

/-- Queue the staged payload of a record; where it is the record's last, its last DATA piece carries LAST (R272, Table 9-4). -/
def State.recPut (s : State) (o : OpenRec) (holdCut last : Bool) : OpenRec × State :=
  let p : Piece := { kind := 1, flags := b2n o.raw + 2 * b2n holdCut + 4 * b2n last, context := o.context, dt := o.dt, frameNo := o.frame
                     recOffset := o.offset, data := [] }
  let x := s.putData (o.buf.length / 128 + 2) p o.capture o.ranges o.buf
  let first := match o.first with | some a => some a | none => x.1
  let o := { o with buf := [], offset := o.offset + o.buf.length, used := o.used + x.2.1, first := first }
  (o, x.2.2.modRing fun r => r.setOpenRec o)

/-- A record whose payload is all placed: where it has no DATA piece, its first piece header will be that of its TAG piece (R272). -/
def State.recAnchor (s : State) (o : OpenRec) : OpenRec × State :=
  if o.first.isSome then (o, s)
  else
    let s := s.ringRoom
    match s.ring.filling with
    | some g => let o := { o with first := some (g.ssn, g.used) }; (o, s.modRing fun r => r.setOpenRec o)
    | none => (o, s)

/-- Queue what is left of a record's payload, and fix its place (R272). -/
def State.recFlush (s : State) (o : OpenRec) (holdCut : Bool) : OpenRec × State :=
  let x := s.recPut o holdCut true
  x.2.recAnchor x.1

/-- End a record with its TAG piece; the bytes that its pieces did not use are released (R272, R281). -/
def State.recEnd (s : State) (o : OpenRec) (tag : List Word) (holdCut : Bool) : State :=
  let p : Piece := { kind := 2, flags := b2n o.raw + 2 * b2n holdCut, context := o.context, dt := o.dt, frameNo := o.frame, recOffset := 0, data := [] }
  let x := s.putData 4 p o.capture [] (hostForms tag)
  x.2.2.modRing fun r =>
    { r with u := r.u + (o.used + x.2.1) - o.reserve
             openRecs := eraseFirst (fun y => y.context == o.context && y.raw == o.raw && y.frame == o.frame) r.openRecs }

/-- A record that gets no TAG piece: its reservation is released (15 R445). -/
def State.recDrop (s : State) (o : OpenRec) : State :=
  s.modRing fun r =>
    { r with u := r.u + o.used - o.reserve
             openRecs := eraseFirst (fun y => y.context == o.context && y.raw == o.raw && y.frame == o.frame) r.openRecs }

/-- The ledger has changed A: the frame starts of this very cycle are judged by the new one (R294). -/
def State.ringReask (s : State) : State :=
  let s := (s.ring.openRecs.filter fun o => o.takenAt == s.now && o.used == 0).foldr (fun (o : OpenRec) (s : State) =>
    if decide (s.ring.u * 100 ≤ s.allowance * classShare o.cls) then s
    else (s.recDrop o).modRing fun r =>
      { r with skipped := r.skipped ++ [{ context := o.context, frame := o.frame, raw := o.raw, dt := o.dt, reserve := o.reserve, cls := o.cls }] }) s
  let l := s.ring.skipped
  l.foldl (fun (s : State) k => if s.ringFits k.reserve k.cls then s.ringTake k else s.modRing fun r => { r with skipped := r.skipped ++ [k] })
    (s.modRing fun r => { r with skipped := [] })

/-- RING_SEG and RING_OFFSET of a record (R272): the offset counts from the segment's first byte. -/
def recPlace (o : OpenRec) : Option (Nat × Nat) := o.first.map fun a => (a.1, 4096 + a.2)

/-! Sealing. -/

/-- Segments of signed spans that are sealed leave the list. -/
def Ring.tidy (r : Ring) : Ring :=
  let openNo := r.span.map fun x => x.no
  { r with segments := r.segments.filter fun g => !g.sealed || openNo == some g.span || r.closedSpans.any fun c => c.no == g.span }

/-- A segment is sealed: close block written, flushed where a volatile cache is reported, chained; U falls (R282).
A lost segment is released once it is chained. -/
def State.trySeal (s : State) (ssn : Nat) : State :=
  match s.ring.segments.find? fun g => g.ssn = ssn with
  | none => s
  | some g =>
    let done := g.chain.isSome && (g.lost || (g.closeWritten && (g.flushed || !(s.ring.drive g.drive).vwc)))
    if done && !g.sealed then
      s.modRing fun r => ({ r with u := r.u - g.used }.modSegment ssn fun g => { g with sealed := true, pieces := [] }).tidy
    else s

/-- The last member is lost: NO_DRIVE (R287), but a SEALED ring is so until RING_START (R290). -/
def Ring.noMember (r : Ring) : Ring :=
  if r.members.isEmpty && r.state != .sealed && r.state != .noDrive then { r with state := .noDrive, resumeRun := r.state == .run } else r

/-- A drained drive with nothing left to seal leaves the formation (15 R454). -/
def State.drainDrive (s : State) (d : Nat) : State :=
  if (s.ring.drive d).drained && (s.ring.drive d).state == .member && !(s.ring.segments.any fun g => g.drive == d && !g.sealed) then
    let rest := s.ring.members.filter fun x => x != d
    let s := s.closeSpan 4 (if rest.isEmpty then none else some rest)
    let s := (s.modRing fun r => { r with members := rest, labelDue := true }.noMember).trimWindows
    let s := s.modDrive d fun x => { x with state := .spare, drained := false }
    (s.logPhokel (evDrive d) 0x81 4).finishWait (.unitDrain 5 d) .ok
  else s

/-- The digest of the oldest closed segment, once its LOG piece has come, and its chain step (R274, R277); then its close block is written (R270). -/
def State.digestDone (s : State) : State :=
  match s.ring.segments.find? fun g => g.closed && g.chain.isNone with
  | none => s
  | some g =>
    if g.awaitsLog then s
    else
    let dg := segmentDigest s.ring.ringId g
    let c := chainNext s.ring.chain dg g.ssn
    let prev := s.ring.chain
    let s := s.modRing fun r =>
      let r := r.modSegment g.ssn fun g => { g with digest := some dg, chain := some c }
      let r := { r with chain := c }
      if g.index = 0 then
        { r with span := r.span.map fun x => if x.no = g.span then { x with prevChain := prev } else x
                 closedSpans := r.closedSpans.map fun x => if x.no = g.span then { x with prevChain := prev } else x }
      else r
    if g.lost then s.trySeal g.ssn
    else s.modRing fun r => r.submit s.now g.drive (.close g.ssn) .write (slotLba g.slot + 16383) 1 (closeHead g ++ dg ++ c)

/-- The segments of a closed span, all chained; none while one is not. -/
def Ring.spanSegs (r : Ring) (c : ClosedSpan) : Option (List SpanSeg) :=
  if !c.segs.isEmpty then some c.segs
  else
    let gs := r.segments.filter fun g => g.span = c.no
    if gs.length = c.count && gs.all fun g => g.chain.isSome then
      some (gs.map fun g => { drive := g.drive, slot := g.slot, lost := g.lost, digest := g.digest, chain := g.chain })
    else none

/-- Sign the oldest closed span (R275, R276); its record waits for a read-back before it is stored (Table 11-5). -/
def State.signSpan (s : State) : State :=
  match s.ring.closedSpans with
  | [] => s
  | c :: rest =>
    let segs := (s.ring.spanSegs c).getD []
    let head := spanHead s.ring.ringId { c with segs := segs }
    match if (s.ring.spanSegs c).isSome then s.keySign (.seal s.ring.ringId) "gv-seal" head else (none, s) with
    | (none, s) => s
    | (some sign, s) =>
      let image := head ++ sign ++ zeros 910
      let rec_ : SpanRec := { no := c.no, dirSlot := c.dirSlot, firstSsn := c.firstSsn, count := c.count, reason := c.reason, image := image }
      let s := s.modRing fun r =>
        Ring.tidy { r with closedSpans := rest, counts := bump r.counts 11 0
                           spanRecs := (r.spanRecs.filter fun x => x.dirSlot != c.dirSlot) ++ [rec_] }
      let s := s.modEngine 31 fun x => { x with readbacks := x.readbacks ++ [{ kind := .spanRecord c.no, issued := false, ch := 31, addr := 0, bytes := [] }] }
      if rest.isEmpty && s.ring.span.isNone then s.finishWait .ringStop .ok [BitVec.ofNat 40 c.no] else s

/-! Windows. -/

/-- Full Device Time in ns nearest to now of a short stamp (00 R15). -/
def State.unstamp (s : State) (w : Word) : Nat := ((s.dtNs : Int) + stampDiff w s.stamp).toNat

/-- Lowest free window number. -/
def Ring.freeWindow (r : Ring) : Option Nat := (List.range 16).find? fun i => (r.windows.lookup i).isNone

/-- Oldest capture time of a live segment. -/
def Ring.oldest (r : Ring) : Option Nat :=
  (r.live.filter fun l => !l.lost && decide (l.capMin ≤ l.capMax)).foldl (fun a l => match a with | some t => some (min t l.capMin) | none => some l.capMin) none

/-- RING_FREEZE and its trouble-log entry (R286). -/
def State.frozen (s : State) (i event : Nat) : State := s.raiseLog evRing 2 0 (i * 2 ^ 60 + event % 4096 * 2 ^ 48)

/-- Put a new window into the table, cut to the quarter; and whether something of it is cut off, or lies beyond the oldest live segment
(R285, R286). -/
def State.putWindow (s : State) (i start stop source : Nat) : Bool × State :=
  let w : Window := { state := .pending, start := start, stop := stop, trigger := source, ext := none }
  let w' := s.ring.cutStart (s.ring.windows.map fun x => x.2) w
  (w' != w || (s.ring.oldest).any fun o => decide (start < o), (s.setWindows fun ws => bankPut i w' ws).modRing fun r => r.yieldSlots s.now)

/-- A freeze that opens a window (R284 to R286). Answers its number, or none where a seventeenth is refused. -/
def State.openWindow (s : State) (start stop source event : Nat) : Option Nat × State :=
  match s.ring.freeWindow with
  | none => (none, s.raise evRing 4)
  | some i =>
    let x := s.putWindow i start stop source
    let s := x.2.frozen i event
    (some i, if x.1 then s.raise evRing 3 else s)

/-- RING_RELEASE frees a window; a trigger that extended it in this very cycle opens a new one (R285, R294). -/
def State.releaseWindow (s : State) (i : Nat) (w : Window) : State :=
  let s := s.setWindows fun ws => bankDel i ws
  match w.ext with
  | some (t, start, stop) =>
    if t ≠ s.now then s
    else match s.ring.freeWindow with
      | none => s
      | some j => let x := s.putWindow j start stop w.trigger; if x.1 then x.2.raise evRing 3 else x.2
  | none => s

/-- A freeze at T from a source: a trigger register 0 to 7, or 0xFF for RING_FREEZE; `event` for the log (R284 to R286).
Answers the window's number, or none where a seventeenth is refused. -/
def State.freeze (s : State) (t pre post source event : Nat) : Option Nat × State :=
  let start := t - pre
  let stop := t + post
  let ext := s.ring.windows.find? fun w => w.2.state == .pending && w.2.trigger == source && decide (w.2.start ≤ start) && decide (start < w.2.stop)
  match ext with
  | some (i, w) =>
    let asked := { w with stop := max w.stop stop, ext := some (s.now, start, stop) }
    let w' := s.ring.cutStart ((s.ring.windows.filter fun x => x.1 != i).map fun x => x.2) asked
    let s := ((s.setWindows fun ws => bankPut i w' ws).modRing fun r => r.yieldSlots s.now).frozen i event
    (some i, if w' = asked then s else s.raise evRing 3)
  | none => s.openWindow start stop source event

/-- A ring trigger register sees an event being raised (R284). -/
def State.ringTriggers (s : State) (id : Nat) (stamp : Word) : State :=
  (List.range 8).foldl (fun s i =>
    let w := s.ring.trigOf i
    if bit w 39 && fld w 38 27 == id then
      (s.freeze (s.unstamp stamp) (fld w 26 14 * 100000000) (fld w 13 1 * 100000000) i id).2
    else s) s

/-! Drive loss. -/

/-- Each segment written to a lost drive, or allocated to it, is lost: LOST_SEGS and an entry for each, and its LOST bit in a span that is not
yet signed (R288). -/
def State.loseSegments (s : State) (d : Nat) : State :=
  let gone := (s.ring.live.filter fun l => l.drive == d && !l.lost).map fun l => l.ssn
  let s := s.modRing fun r =>
    { r with live := r.live.map fun l => if l.drive = d then { l with lost := true } else l
             segments := r.segments.map fun g => if g.drive = d then { g with lost := true } else g
             closedSpans := r.closedSpans.map fun c => { c with segs := c.segs.map fun x => if x.drive = d then { x with lost := true } else x } }
  let s := gone.foldl (fun (s : State) n => (s.modRing fun r => { r with counts := bump r.counts 23 12 }).logPhokel (evDrive d) 0x80 (n % 2 ^ 40)) s
  gone.foldl (fun (s : State) n => s.trySeal n) s

/-- A drive is lost (R266, R287, R288): reason 1 timeout, 2 repeated error, 3 link down, 4 Controller Fatal Status. -/
def State.driveLost (s : State) (d reason : Nat) : State :=
  let dr := s.ring.drive d
  if dr.state == .absent || dr.state == .lost then s
  else
    let s := s.raiseLog (evDrive d) 2 0 (reason * 2 ^ 56)
    let s := s.modRing fun r => (r.setDrive d { dr with state := .lost, drained := false }).dropCommands d
    let s := if dr.drained then s.finishWait (.unitDrain 5 d) .fault else s
    let s := if s.ring.joining == some d then (s.modRing fun r => { r with joining := none }).finishWait (.unitReadmit 5 d) .fault else s
    if !s.ring.members.contains d then s
    else
      let s := s.finishWait .ringFormat .fault
      let rest := s.ring.members.filter fun x => x != d
      let s := s.closeSpan 4 (if rest.isEmpty then none else some rest)
      let recovering := s.ring.state == .recovering
      let s := s.modRing fun r => ({ r with members := rest, labelDue := true }.dropCommands d).noMember
      let s := if recovering && s.ring.state == .noDrive then (s.modRing fun r => { r with starting := none }).finishWait .ringStart .fault else s
      (s.loseSegments d).trimWindows

/-- Checks of R263. -/
def driveOk (i : DriveInfo) : Bool :=
  decide (2 ≤ i.nvmeMajor) && i.ns1Ok && decide (64 * 2 ^ 30 ≤ i.nsBytes) && (i.mdts == 0 || decide (131072 ≤ i.mdts)) &&
    i.width == 4 && decide (4 ≤ i.gen)

/-- SLOTS that a drive offers (R267). -/
def driveSlots (i : DriveInfo) : Nat := min 131071 (i.nsBytes / 67108864 - 1)

end Sys2Proof.Machine
end

