-- ==== Sys2Proof/Machine/OutPath.lean ====
section
/-! DEFINITION. The output path (07_outputs_and_accord.md Table 7-1, R205 to R222) over the rows of one frame, the packing
of lines (R209), and the tag block (R231). -/
namespace Sys2Proof.Machine

/-! Step 1: source, curve and colour conversion (06 R189). -/

/-- The vision output takes the mosaic. -/
def takesMosaic (o : Nat) (p : ParamSet) : Bool := o == 2 && visionSrc p == 0

/-- The point that output o takes. A context without a mosaic has open samples there (notes/assumptions/16). -/
def outSource (o : Nat) (p : ParamSet) (st : Staged) : PxImg :=
  if takesMosaic o p then
    if st.mosaic.isEmpty then
      mapImg (fun x y _ => let v := Config.openSample 2 x y % 1048576; { r := v, g := v, b := v }) st.toned
    else mapImg (fun _ _ (v : Nat) => { r := v, g := v, b := v }) st.mosaic
  else if o = 2 && visionSrc p = 1 then st.linear
  else st.toned

/-- One pixel through the output's curve and conversion. -/
def outPixel (o : Nat) (p : ParamSet) (q : Px) : Px :=
  let f := fun (v : Nat) => if stageEn p 12 && curveEn p o then sat20 (curveAt p (680 + 512 * o) false v) else v
  let q : Px := { r := f q.r, g := f q.g, b := f q.b }
  if takesMosaic o p then q else convert (cscOf p o) q

/-! Steps 2 to 4: crop and scaling (R211). -/

/-- Mean of two pixels. -/
def Px.mean (l : List Px) : Px :=
  let f := fun (g : Px → Nat) => (roundDiv (((l.map g).foldl (· + ·) 0 : Nat) : Int) (max 1 l.length)).toNat
  { r := f Px.r, g := f Px.g, b := f Px.b }

/-- Weighted sum in 1/1024, rounded and kept to 20 bits. -/
def Px.taps (l : List (Int × Px)) : Px :=
  let f := fun (g : Px → Nat) => sat20 (roundDiv (l.foldl (fun (a : Int) t => a + t.1 * (g t.2 : Int)) 0) 1024)
  { r := f Px.r, g := f Px.g, b := f Px.b }

/-- Adjacent pairs are averaged first. -/
def pairsFirst (n out : Nat) : Bool := decide (2 * out < n)

/-- Extent that the filter works on. (log 26 DEDUCED) -/
def filterExtent (n out : Nat) : Nat := if pairsFirst n out then n / 2 else n

/-- floor of the source position of output pixel k, in the extent of the filter, and its phase. (log 26 DEDUCED) -/
def filterCentre (n out k : Nat) : Int × Nat :=
  let m := filterExtent n out
  let num : Int := (((2 * k + 1) * m : Nat) : Int) - out
  let den := 2 * max 1 out
  let fl := num.fdiv den
  (fl, ((num - fl * den) * 64 / den).toNat)

/-- Output pixel k of n source pixels scaled to `out`; the first `avail` source pixels exist. (log 26 DEDUCED) -/
def scaleAt (coef : Nat → Nat → Int) (n out avail : Nat) (get : Nat → Px) (k : Nat) : Px :=
  if n = out then get k
  else
    let half := pairsFirst n out
    let g := fun (i : Nat) => get (min i (avail - 1))
    let src := fun (i : Nat) => if half then Px.mean [g (2 * i), g (2 * i + 1)] else g i
    if filterExtent n out = out then src k
    else
      let c := filterCentre n out k
      let m := filterExtent avail (if half then 0 else avail)
      Px.taps ((List.range 8).map fun t => (coef c.2 t, src (mirrorIdx m (c.1 - 3 + t))))

/-- The `n` taps of a default phase from tap `k` on, which sum to `rest`: free, but signed 12-bit values (R211). (log 43 DESIGN CHOICE) -/
def defaultTaps (free : Nat → Int) : Nat → Nat → Int → List Int
  | 0, _, _ => []
  | n + 1, k, rest =>
    let lo := max (-2048) (rest - 2047 * n)
    let hi := min 2047 (rest + 2048 * n)
    let v := lo + free k % (hi - lo + 1)
    v :: defaultTaps free n (k + 1) (rest - v)

/-- Coefficients of an axis: the loaded set, or Phokel's default. (log 43 DESIGN CHOICE) -/
def coefOf (loaded : Bool) (l : List Int) (phase tap : Nat) : Int :=
  if loaded then l.getD (8 * phase + tap) 0 else (defaultTaps (Config.scalerCoef phase) 8 0 1024).getD tap 0

/-- Crop and scale a row. -/
def scaleRow (r : OutRec) (coefH : List Int) (row : List Px) : List Px :=
  let cut := (row.drop r.cropX).take r.cropW
  (List.range r.outW).map (scaleAt (coefOf r.coef coefH) r.cropW r.outW cut.length fun i => cut.getD i .zero)

/-- Rows of the crop that have been received. -/
def cropRows (r : OutRec) (n : Nat) : Nat := min r.cropH (n - r.cropY)

/-- Output row k has its filter centre within the rows received (R215). -/
def rowYields (r : OutRec) (avail k : Nat) : Bool :=
  decide ((((2 * k + 1) * r.cropH : Nat) : Int) - r.outH < (2 * (avail : Int) - 1) * r.outH)

/-- Last source row of the crop that output row k depends on. -/
def rowNeeds (r : OutRec) (k : Nat) : Nat :=
  if r.cropH = r.outH then k
  else
    let top := ((filterCentre r.cropH r.outH k).1 + 4).toNat
    min (r.cropH - 1) (if pairsFirst r.cropH r.outH then 2 * top + 1 else top)

/-- Output row k from rows already scaled along the line. -/
def verticalRow (r : OutRec) (coefV : List Int) (rows : PxImg) (k : Nat) : List Px :=
  (List.range r.outW).map fun x =>
    scaleAt (coefOf r.coef coefV) r.cropH r.outH rows.length (fun i => (rows.getD i []).getD x .zero) k

/-! Row stamps (R218). -/

/-- Short stamp and travel of one delivered row. -/
abbrev OutStamp := Word × Word

/-- Interpolate between two stamps with weight num / den, truncated. (log 23 DEDUCED) -/
def stampBetween (a b : Word) (num den : Nat) : Word := a + wordOfInt ((stampDiff b a * num).fdiv (max 1 den))

def stampOf (stamps : List RowStamp) (i : Nat) : OutStamp :=
  match stamps[min i (stamps.length - 1)]? with
  | some t => (t.t, t.travel)
  | none => (0, 0)

/-- Stamp of the output row centred at (crop-relative) num / den: between the source rows floor(y_s) and floor(y_s) + 1 of the frame. -/
def rowStampAt (stamps : List RowStamp) (r : OutRec) (k : Nat) : OutStamp :=
  let num : Int := (((2 * k + 1) * r.cropH : Nat) : Int) - r.outH
  let den := 2 * max 1 r.outH
  let fl := num.fdiv den
  let w := (num - fl * den).toNat
  let a := stampOf stamps (max 0 ((r.cropY : Int) + fl)).toNat
  let b := stampOf stamps (max 0 ((r.cropY : Int) + fl + 1)).toNat
  (stampBetween a.1 b.1 w den, stampBetween a.2 b.2 w den)

/-! Travel resampler (R219 to R222). -/

def Px.tuple (q : Px) : Nat × Nat × Nat := (q.r, q.g, q.b)
def Px.ofTuple (t : Nat × Nat × Nat) : Px := { r := t.1, g := t.2.1, b := t.2.2 }

/-- What a resampled frame has formed so far. -/
structure Resampled where
  rows : PxImg
  stamps : List OutStamp
  last : Option UsedRow
  skipped : Nat
  omitted : Nat
  deriving DecidableEq, Repr

/-- Along-track position of row r of the cropped frame, in 1/256 tu (R219). (log 25 DEDUCED) -/
def rowPos (rec_ : OutRec) (t : OutStamp) (r : Nat) : Int := 256 * signed 40 t.2.toNat + 256 * rec_.rowPos0 + r * rec_.rowSpan

/-- Grid points from a to b in the direction of travel: the first, and how many. -/
def gridPoints (rec_ : OutRec) (fwd : Bool) (a b : Int) : Int × Nat :=
  let p : Int := 256 * (max 1 rec_.rsPitch : Nat)
  let o : Int := 256 * rec_.rsOrigin
  if fwd then
    let n0 := -((o - a).fdiv p)
    let n1 := -((o - b).fdiv p)
    (n0 * p + o, (n1 - n0).toNat)
  else
    let n0 := (a - o).fdiv p
    let n1 := (b - o).fdiv p
    (n0 * p + o, (n0 - n1).toNat)

/-- Interpolated rows between two used rows: at most `most`. -/
def gridRows (rec_ : OutRec) (fwd : Bool) (a b : UsedRow) (most : Nat) : PxImg × List OutStamp :=
  let g := gridPoints rec_ fwd a.pos b.pos
  let p : Int := 256 * (max 1 rec_.rsPitch : Nat)
  let den := (b.pos - a.pos).natAbs
  let one := fun (i : Nat) =>
    let at_ : Int := if fwd then g.1 + i * p else g.1 - i * p
    let num := (at_ - a.pos).natAbs
    let f := fun (x y : Nat) => ((x : Int) + roundDiv (((y : Int) - x) * num) (max 1 den)).toNat
    let row := (a.pixels.zip b.pixels).map fun q =>
      ({ r := f q.1.1 q.2.1, g := f q.1.2.1 q.2.2.1, b := f q.1.2.2 q.2.2.2 } : Px)
    (row, (stampBetween a.stamp b.stamp num den, wordOfInt (at_.fdiv 256)))
  let l := (List.range (min g.2 most)).map one
  (l.map fun x => x.1, l.map fun x => x.2)

/-- Take one input row. -/
def Resampled.take (rec_ : OutRec) (fwd : Bool) (s : Resampled) (u : UsedRow) : Resampled :=
  match s.last with
  | none => { s with last := some u }
  | some a =>
    if (if fwd then u.pos ≤ a.pos else a.pos ≤ u.pos) then { s with skipped := s.skipped + 1 }
    else
      let n := (gridPoints rec_ fwd a.pos u.pos).2
      let gap := rec_.rsGapMax != 0 && decide (256 * rec_.rsGapMax < (u.pos - a.pos).natAbs)
      let most := if gap then 0 else min (rec_.rsRowsMax + 1) (65535 - s.rows.length)
      let x := gridRows rec_ fwd a u most
      { s with rows := s.rows ++ x.1, stamps := s.stamps ++ x.2, last := some u, omitted := s.omitted + (n - min n most) }

/-- The direction of a frame of n rows: forward where the last row received lies at or beyond the first (R219). -/
def resampleFwd (rec_ : OutRec) (stamps : List RowStamp) (n : Nat) : Bool :=
  let pos := fun i => rowPos rec_ (stampOf stamps (rec_.cropY + i)) i
  decide (pos 0 ≤ pos (n - 1))

/-- The direction has stood since the second row: rows that were handed over as they formed are the frame's own. (log 151 DEDUCED) -/
def resampleSteady (rec_ : OutRec) (stamps : List RowStamp) (n : Nat) : Bool :=
  (List.range n).all fun k => k = 0 || resampleFwd rec_ stamps (k + 1) == resampleFwd rec_ stamps n

/-- A whole frame (R220): `prev` is the last used row of the frame before. (log 25 DEDUCED) -/
def resample (rec_ : OutRec) (no : Nat) (prev : Option UsedRow) (rows : PxImg) (stamps : List RowStamp) : Resampled :=
  let at_ := fun i => stampOf stamps (rec_.cropY + i)
  let pos := fun i => rowPos rec_ (at_ i) i
  let fwd := resampleFwd rec_ stamps rows.length
  let prev := prev.filter fun u => (u.frame + 1) % 2 ^ 40 == no && u.forward == fwd && u.pixels.length == rec_.outW
  rows.zipIdx.foldl (fun s r =>
    s.take rec_ fwd { frame := no, pos := pos r.2, stamp := (at_ r.2).1, pixels := r.1.map Px.tuple, forward := fwd })
    { rows := [], stamps := [], last := prev, skipped := 0, omitted := 0 }

/-! Steps 5 and 6: chroma and reduction (R210, R212). -/

/-- Pixel x of row y with the chroma of its pair or block. (log 24 DEDUCED) -/
def subsample (format : Nat) (im : PxImg) : PxImg :=
  match format with
  | 2 | 3 => im.map fun r => r.zipIdx.map fun q =>
      let k := q.2 / 2 * 2
      let m := Px.mean [r.getD k .zero, r.getD (k + 1) .zero]
      { r := q.1.r, g := m.g, b := m.b }
  | 4 | 5 => mapImg (fun x y q =>
      let g := fun (dx dy : Nat) => (im.getD (y / 2 * 2 + dy) []).getD (x / 2 * 2 + dx) .zero
      let m := Px.mean [g 0 0, g 1 0, g 0 1, g 1 1]
      { r := q.r, g := m.g, b := m.b }) im
  | _ => im

/-- To a d-bit code. -/
def toCode (d v : Nat) : Nat := min (2 ^ d - 1) ((v + 2 ^ (19 - d)) / 2 ^ (20 - d))

/-- v / 2^20 in binary16, to nearest even. -/
def toHalf (v : Nat) : Nat :=
  let e := Nat.log2 v
  if v = 0 then 0
  else if e < 6 then 16 * v
  else if e ≤ 10 then (e - 5) * 1024 + v * 2 ^ (10 - e) - 1024
  else
    let k := e - 10
    let q := v / 2 ^ k
    let rem := v % 2 ^ k
    let up := decide (2 ^ (k - 1) < rem) || (rem == 2 ^ (k - 1) && q % 2 == 1)
    (e - 5) * 1024 + q - 1024 + b2n up

/-- A pixel as the codes of its format. (log 108 DEDUCED) -/
def reducePx (o : Nat) (p : ParamSet) (format : Nat) (q : Px) : Px :=
  let all := fun (f : Nat → Nat) => ({ r := f q.r, g := f q.g, b := f q.b } : Px)
  match format with
  | 0 | 2 | 4 => all (toCode 8)
  | 1 | 3 | 5 => all (toCode 10)
  | 8 =>
    let y := if takesMosaic o p || cscOf p o != 0 then q.r else if cfaOf p = 0 then q.r else lumaY (fld (paramGet p 0) 21 20) q
    let v := min 65535 ((y + 8) / 16)
    { r := v, g := v, b := v }
  | 9 => all toHalf
  | _ => q

/-! Step 7: orientation (R213). -/

/-- Columns become rows. -/
def transpose (d : α) (im : List (List α)) : List (List α) := (List.range (imgW im)).map fun x => im.map fun r => r.getD x d

/-- A picture in the orientation of a code, lacking pixels being `d` (Table 7-4, R213). (log 23 DEDUCED) -/
def orient (d : α) (code : Nat) (im : List (List α)) : List (List α) :=
  match code with
  | 1 => im.map List.reverse
  | 2 => im.reverse
  | 3 => (im.map List.reverse).reverse
  | 4 => transpose d im.reverse
  | 5 => (transpose d im).reverse
  | 6 => transpose d im
  | 7 => (transpose d im.reverse).reverse
  | _ => im

/-- Stamps in delivered order: of rows, or of columns where the orientation transposes. (log 33 DEDUCED) -/
def orientStamps (code : Nat) (l : List OutStamp) : List OutStamp :=
  match code with | 2 | 3 | 4 | 7 => l.reverse | _ => l

/-! Packing (R209). -/

/-- Every second pixel, beginning with the first. -/
def evens : List α → List α
  | a :: _ :: r => a :: evens r
  | [a] => [a]
  | [] => []

/-- Pixel pairs. -/
def pairsOf : List Px → List (Px × Px)
  | a :: b :: r => (a, b) :: pairsOf r
  | _ => []

/-- One line of a format of one plane. (log 24 DEDUCED) -/
def packLine (format : Nat) (l : List Px) : List Byte :=
  match format with
  | 0x0 => l.flatMap fun q => [BitVec.ofNat 8 q.r, BitVec.ofNat 8 q.g, BitVec.ofNat 8 q.b]
  | 0x1 => l.flatMap fun q => bytesLE 4 (q.r * 2 ^ 20 + q.g * 2 ^ 10 + q.b)
  | 0x2 => (pairsOf l).flatMap fun q => [BitVec.ofNat 8 q.1.g, BitVec.ofNat 8 q.1.r, BitVec.ofNat 8 q.1.b, BitVec.ofNat 8 q.2.r]
  | 0x3 => (pairsOf l).flatMap fun q => bytesBE 5 (q.1.g * 2 ^ 30 + q.1.r * 2 ^ 20 + q.1.b * 2 ^ 10 + q.2.r)
  | 0x4 => l.map fun q => BitVec.ofNat 8 q.r
  | 0x5 => l.flatMap fun q => bytesLE 2 (q.r * 64)
  | 0xA => (pairsOf l).flatMap fun q => bytesLE 5 (q.1.r + q.2.r * 2 ^ 20)
  | _ => l.flatMap fun q => bytesLE 2 q.r

/-- The planes of a frame, as their lines. -/
def packPlanes (format : Nat) (im : PxImg) : List (List (List Byte)) :=
  match format with
  | 0x4 => [im.map (packLine 4), (evens im).map fun r => (evens r).flatMap fun q => [BitVec.ofNat 8 q.g, BitVec.ofNat 8 q.b]]
  | 0x5 => [im.map (packLine 5), (evens im).map fun r => (evens r).flatMap fun q => bytesLE 2 (q.g * 64) ++ bytesLE 2 (q.b * 64)]
  | 0x9 => [im.map (packLine 9), im.map fun r => r.flatMap fun q => bytesLE 2 q.g, im.map fun r => r.flatMap fun q => bytesLE 2 q.b]
  | _ => [im.map (packLine format)]

/-! A finished output frame. -/

/-- What an output or an Accord has formed. -/
structure OutFrame where
  width : Nat
  height : Nat
  /-- Width and height of the full frame, by which its lines are laid out, and where its first pixel lies in it. -/
  full : Nat × Nat
  base : Nat × Nat
  planes : List (List (List Byte))
  /-- Stamps of the delivered rows, or columns. -/
  stamps : List OutStamp
  /-- Codes in delivered order, for an Accord. -/
  codes : PxImg
  /-- Flags of this output beside its frame's. -/
  flags : BitVec 16
  skipped : Nat
  omitted : Nat
  last : Option UsedRow
  lineErrors : Nat
  deriving DecidableEq, Repr

/-- Bits 39:24 of word 7 (Table 7-8). -/
def flagShort : BitVec 16 := 0x8000
def flagLong : BitVec 16 := 0x4000
def flagReplay : BitVec 16 := 0x2000
def flagConcealed : BitVec 16 := 0x1000
def flagRehomed : BitVec 16 := 0x0800
def flagDegraded : BitVec 16 := 0x0400
def flagLate : BitVec 16 := 0x0200
def flagPoisoned : BitVec 16 := 0x0100
def flagPadded : BitVec 16 := 0x0080
def flagReported : BitVec 16 := 0x0040
def flagResampled : BitVec 16 := 0x0020
def flagGap : BitVec 16 := 0x0010
def flagStale : BitVec 16 := 0x0008
def flagCheck : BitVec 16 := 0x0004

/-- Rows of the crop, converted and scaled along the line (steps 1 to 3). -/
def scaledRows (o : Nat) (p : ParamSet) (r : OutRec) (coefH : List Int) (st : Staged) : PxImg :=
  let src := outSource o p st
  ((src.drop r.cropY).take (cropRows r (imgH src))).map fun row => scaleRow r coefH (row.map (outPixel o p))

/-- Output rows that a frame yields so far: those whose filter centre lies within the rows received, and `ready`, in the groups of the
format (R215). A width of pixel pairs stays even where columns are yielded (R208). (log 23 DEDUCED) -/
def yielded (o : Nat) (r : OutRec) (avail : Nat) (ready : Nat → Bool) : Nat :=
  let n := ((List.range r.outH).filter fun k => rowYields r avail k && ready k).length
  let step := if o = 1 then 8 else if r.transposes && (r.format == 2 || r.format == 3 || r.format == 0xA) then 2 else 1
  n / step * step

/-- Where `n` scaled rows from row `a` on lie in the delivered frame of h scaled rows (Table 7-4). -/
def bandBase (code h a n : Nat) : Nat × Nat :=
  match code with
  | 2 | 3 => (0, h - (a + n))
  | 4 | 7 => (h - (a + n), 0)
  | 5 | 6 => (a, 0)
  | _ => (0, a)

/-- Scaled rows as delivered: chroma, reduction and orientation (steps 5 to 7). -/
def deliverRows (o : Nat) (p : ParamSet) (r : OutRec) (rows : PxImg) : PxImg :=
  orient Px.zero r.orient ((subsample r.format rows).map fun l => l.map (reducePx o p r.format))

/-- The frame of an output of a picture context (R205). A frame that is not full lies where its rows lie in the full one; a resampled one
is as large as it became. (log 23 DEDUCED) -/
def formOutput (o : Nat) (p : ParamSet) (r : OutRec) (x : Output) (no : Nat) (st : Staged) (stamps : List RowStamp) : OutFrame :=
  let rows := scaledRows o p r x.coefH st
  let rs : Resampled :=
    if r.resample then resample r no x.lastRow rows stamps
    else
      let ks := List.range (yielded o r rows.length fun _ => true)
      { rows := ks.map (verticalRow r x.coefV rows), stamps := ks.map (rowStampAt stamps r), last := none, skipped := 0, omitted := 0 }
  let n := rs.rows.length
  let h := if r.resample then n else r.outH
  let codes := deliverRows o p r rs.rows
  let turn := fun (h : Nat) => if r.transposes then (h, r.outW) else (r.outW, h)
  { width := (turn n).1, height := (turn n).2, full := turn h, base := bandBase r.orient h 0 n, planes := packPlanes r.format codes
    stamps := orientStamps r.orient rs.stamps, codes := codes
    flags := (if r.resample then flagResampled else 0) ||| (if rs.omitted = 0 then 0 else flagGap)
    skipped := rs.skipped, omitted := rs.omitted, last := rs.last, lineErrors := 0 }

/-- The frame of a BYTES context: its lines as received, less a checked CRC in the direction IN (R205, R236). (log 23 DEDUCED) -/
def formBytes (checkIn : Bool) (w h : Nat) (rows : List (List Byte)) (stamps : List RowStamp) : OutFrame :=
  let bad := fun (l : List Byte) => crc32c (l.take (l.length - 4)) != BitVec.ofNat 32 (natLE (l.drop (l.length - 4)))
  let n := if checkIn then (rows.filter bad).length else 0
  let w := if checkIn then w - 4 else w
  { width := w, height := rows.length, full := (w, h), base := (0, 0)
    planes := [if checkIn then rows.map fun l => l.take (l.length - 4) else rows], stamps := stamps.map fun t => (t.t, t.travel), codes := []
    flags := if n = 0 then 0 else flagCheck, skipped := 0, omitted := 0, last := none, lineErrors := n }

/-- PAYLOAD_CRC (R233). -/
def OutFrame.crc (f : OutFrame) : BitVec 32 := crc32c (f.planes.flatten.flatten)

/-- Byte offsets of the lines of each plane, as they lie in the full frame (R209, R213), with `extra` bytes after each full line. -/
def lineOffsets (format strideField extra : Nat) (full base : Nat × Nat) (planes : List (List (List Byte))) : List (Nat × List Byte) :=
  let line := formatLine format full.1
  let stride := strideOf strideField line
  ((planes.zip (formatPlanes format full.2)).foldl (fun acc p =>
    (acc.1 ++ p.1.zipIdx.map fun l => (acc.2 + (base.2 * p.2 / max 1 full.2 + l.2) * stride + formatLine format base.1, l.1),
     if p.2 = 0 then acc.2 else acc.2 + stride * (p.2 - 1) + line + extra)) (([] : List (Nat × List Byte)), 0)).1

/-- End of the last line. -/
def linesEnd (l : List (Nat × List Byte)) : Nat := l.foldl (fun a x => max a (x.1 + x.2.length)) 0

/-- PAYLOAD_BYTES: up to the end of the last line delivered. (log 23 DEDUCED) -/
def OutFrame.payload (f : OutFrame) (format strideField : Nat) : Nat := linesEnd (lineOffsets format strideField 0 f.full f.base f.planes)

/-- A row-stamp table (R218). -/
def stampTable (l : List OutStamp) : List Byte := l.flatMap fun t => hostForm t.1 ++ hostForm t.2

/-- The transfers of lines at their places, each with its trailer under COMPAT OUT (R235). -/
def lineTransfers (trailer : Bool) (lo : List (Nat × List Byte)) : List Transfer :=
  lo.map fun l => { offset := l.1, bytes := if trailer then l.2 ++ bytesLE 4 (crc32c l.2).toNat else l.2, ext := false }

/-- Transfers whose data lie in external memory. -/
def fromMemory (l : List Transfer) : List Transfer := l.map fun t => { t with ext := true }

/-- The transfer of a frame's row-stamp table (R216). -/
def OutFrame.tableTransfer (f : OutFrame) (format strideField : Nat) (trailer : Bool) : List Transfer :=
  let extra := if trailer then 4 else 0
  let lo := lineOffsets format strideField extra f.full f.base f.planes
  if f.stamps.isEmpty then [] else [{ offset := roundUp (linesEnd lo + extra) 64, bytes := stampTable f.stamps, ext := true }]

/-- The host transfers of a frame's lines. -/
def OutFrame.transfers (f : OutFrame) (format strideField : Nat) (trailer : Bool) : List Transfer :=
  lineTransfers trailer (lineOffsets format strideField (if trailer then 4 else 0) f.full f.base f.planes)

/-- The trailers alone of a frame's lines, for lines that have gone ahead in tiles (R213, R235). -/
def OutFrame.trailers (f : OutFrame) (format strideField : Nat) : List Transfer :=
  (lineOffsets format strideField 4 f.full f.base f.planes).map fun l => { offset := l.1 + l.2.length, bytes := bytesLE 4 (crc32c l.2).toNat, ext := false }

/-! The tag block (Table 7-7). -/

/-- The facts of a frame that its tag blocks carry. -/
structure TagFacts where
  kind : Nat
  format : Nat
  context : Nat
  port : Nat
  vc : Nat
  frameNo : Nat
  capture : Nat
  first : Word
  last : Word
  exposure : Nat
  gain : Nat
  flags : BitVec 16
  linesIn : Nat
  crc : BitVec 32
  /-- SSN, whether the coding output is recorded, and the offset in the segment. -/
  ring : Option (Nat × Bool × Nat)
  width : Nat
  height : Nat
  payload : Nat
  outStamp : Word
  deriving DecidableEq, Repr

/-- The sixteen words for a destination: 0 host, 1 backbone, 2 Sillage. (log 29 DEDUCED, 175 DEDUCED) -/
def TagFacts.block (t : TagFacts) (dest drops : Nat) : List Word :=
  sealTag ([mkWord [(39, 36, 1), (35, 33, t.kind), (32, 29, t.format), (28, 21, t.context), (20, 14, t.port), (13, 10, t.vc), (9, 8, dest)],
    BitVec.ofNat 40 t.frameNo] ++ ptpWords t.capture ++ [t.first, t.last, mkWord [(39, 12, min (2 ^ 28 - 1) t.exposure), (11, 0, t.gain)],
    mkWord [(39, 24, t.flags.toNat), (23, 8, min 65535 t.linesIn)], mkWord [(31, 0, t.crc.toNat)]] ++
    (match t.ring with
     | some (ssn, coding, off) => [BitVec.ofNat 40 ssn, mkWord [(39, 39, 1), (38, 38, b2n coding), (37, 12, off)]]
     | none => [0, 0]) ++
    [mkWord [(39, 25, t.width), (24, 9, t.height)], mkWord [(39, 8, t.payload)], mkWord [(39, 24, min 65535 drops)], t.outStamp, 0])

end Sys2Proof.Machine
end

