-- ==== Sys2Proof/Machine/Plans.lean ====
section
/-! DEFINITION. Admission: what Phokel adds up before it accepts a configuration (01_architecture.md R29, R31, R32, R33;
05_ingest_and_contexts.md R148, R153 to R155; 07_outputs_and_accord.md R230, R237; 08_backbone.md R257;
09_sillage_ring.md R280, R283; 11_host_link_and_dma.md R329). A record accepted and not yet in force counts in place of
the one in force. Rates are exact. -/
namespace Sys2Proof.Machine

def sumNat (l : List Nat) : Nat := l.foldl (· + ·) 0
def sumRat (l : List Rat) : Rat := l.foldl (· + ·) 0
def ratOf (n : Nat) : Rat := (n : Rat)

/-- Numbers of the contexts that are bound. -/
def State.bound (s : State) : List Nat := (List.range s.variant.contexts).filter fun c => (s.ctx c).state != .unbound

/-! The Ray link (R31). -/

/-- Data words per second at a rate coded as RATE (Table 1-5). -/
def linkWords (rate : Nat) : Rat :=
  let full : Rat := (15000000000 : Rat) * 32 / (42 * 33)
  match rate with
  | 0 => full / 4 | 1 => full / 2 | _ => full

/-- The payload that a port's group is admitted against. -/
def State.groupWords (s : State) (n : Nat) : Rat :=
  sumRat ((s.group n).map fun k =>
    let p := s.port k
    linkWords (if p.state == .data || p.state == .idle then p.rate else p.rateMax))

/-- Data words per second of one context (R31). -/
def Bind.streamWords (b : Bind) : Rat :=
  ratOf (b.lineRate * (b.lineWords + 2)) + ratOf (2 * b.lineRate) / ratOf (max 1 b.height)

/-- Contexts bound to a port, and their bindings. -/
def State.portCtxs (s : State) (n : Nat) : List (Nat × Bind) :=
  (s.bound.map fun c => (c, (s.ctx c).bind)).filter fun x => x.2.port == n

/-! Partitions of the ingest ring (R146, R148). -/

/-- Words of the ring of a group (R146). -/
def State.ringTotal (s : State) (n : Nat) : Nat := (s.group n).length * 262144 / 5

/-- Partitions by R148: the sizes asked for, and shares of the rest by line size. -/
def partitions (total : Nat) (l : List (Nat × Bind)) : List (Nat × Nat) :=
  let fixed := sumNat (l.map fun x => x.2.ringWords)
  let shares := sumNat ((l.filter fun x => x.2.ringWords == 0).map fun x => x.2.lineWords)
  l.map fun x => (x.1, if x.2.ringWords = 0 then (total - fixed) * x.2.lineWords / max 1 shares else x.2.ringWords)

def partitionsOk (total : Nat) (l : List (Nat × Bind)) : Bool :=
  let ps := partitions total l
  decide (sumNat (l.map fun x => x.2.ringWords) ≤ total) &&
    (l.all fun x => decide (8 * x.2.lineWords ≤ (ps.lookup x.1).getD 0))

/-! Facets (R29, R153 to R155). -/

/-- Columns of line memory (R154). -/
def Bind.columns (b : Bind) : Nat := if b.kind = 3 then 0 else roundUp b.width 4096

/-- A member of a Facet as admission sees it: its binding, its partition, and how often its frame rate is halved. -/
structure Load where
  bind : Bind
  ring : Nat
  halvings : Nat
  deriving DecidableEq, Repr

/-- Pixels per second at a line rate. -/
def Load.rate (l : Load) : Rat := ratOf (l.bind.pixels2 * l.bind.lineRate) / 2 / ratOf (2 ^ l.halvings)

/-- WIDTH × READOUT_RATE and WIDTH × LINE_RATE, as R155 counts every context. -/
def Load.readout (l : Load) : Rat := ratOf (l.bind.width * l.bind.readout)
def Load.mean (l : Load) : Rat := ratOf (l.bind.width * l.bind.lineRate) / ratOf (2 ^ l.halvings)

def maxRat (l : List Rat) : Rat := l.foldl (fun a b => if a < b then b else a) 0
def minRat : List Rat → Rat
  | [] => 0
  | a :: r => r.foldl (fun a b => if b < a then b else a) a

/-- The burst condition (R155); capacity in pixels per second. -/
def burstOk (cap : Rat) (l : List Load) : Bool :=
  let p := sumRat (l.map Load.readout)
  if p ≤ cap then true
  else
    let d := maxRat (l.map fun x => ratOf x.bind.height / ratOf (max 1 x.bind.readout))
    let q := maxRat (l.map fun x => ratOf x.bind.lineWords / ratOf (max 1 x.bind.width))
    let t := minRat (l.map fun x => ratOf (x.bind.height * 2 ^ x.halvings) / ratOf (max 1 x.bind.lineRate))
    decide ((p - cap) * d * q ≤ ratOf (sumNat (l.map fun x => x.ring)) / 2) &&
      decide ((p - cap) * d ≤ (cap - sumRat (l.map Load.mean)) * t)

/-- Line memory (R154). -/
def lineMemoryOk (l : List Load) : Bool :=
  decide (sumNat (l.map fun x => x.bind.columns) ≤ 49152) &&
    (let wide := l.filter fun x => x.bind.kind != 3 && decide (8192 < x.bind.width)
     decide (wide.length ≤ 1) && wide.all fun x => x.bind.kind == 1)

def facetCap : Rat := 2400000000
def reserveCap : Rat := 2500000000

/-- A Facet holds these contexts at a capacity (R27, R29, R154, R155). -/
def facetFits (cap : Rat) (l : List Load) : Bool :=
  decide (l.length ≤ 6) && decide (sumRat (l.map Load.rate) ≤ cap) && lineMemoryOk l && burstOk cap l

/-- Contexts that live in a Facet or are on their way to it. -/
def State.facetCtxs (s : State) (f : Nat) : List Nat :=
  s.bound.filter fun c =>
    let x := s.ctx c
    match x.movePending with | some (g, _) => g == f | none => x.home == f

/-- Contexts that admission counts in a Facet: those that still live in it, and those on their way to it (R153, 01 R27). (log 103 DEDUCED) -/
def State.facetHolds (s : State) (f : Nat) : List Nat :=
  s.bound.filter fun c => (s.ctx c).home == f || (match (s.ctx c).movePending with | some (g, _) => g == f | none => false)

def State.loadOf (s : State) (c : Nat) : Load := { bind := (s.ctx c).bind, ring := (s.ctx c).ringWords, halvings := 0 }

/-- Lowest free slot of a Facet (Table 6-11). -/
def State.freeSlot (s : State) (f : Nat) : Nat :=
  let used := (s.bound.filter fun c => (s.ctx c).home == f).map fun c => (s.ctx c).slot
  ((List.range 6).find? fun k => !used.contains k).getD 6

/-! Outputs (R237). -/

/-- The output record that counts: accepted, else in force. -/
def Output.planned (o : Output) : List Word := Due.planned o.pending o.cfg

def State.planRec (s : State) (c o : Nat) : OutRec := outRec (s.ctx c).bind ((s.ctx c).out o).planned

/-- The check units in force on an output in COMPAT mode, as their direction (R234). -/
def State.compatNow (s : State) (c o : Nat) : Option Bool :=
  ((List.range 32).find? fun k => let w := (s.check k).cfg; fld w 39 38 == 3 && fld w 36 29 == c && fld w 28 27 == o).map fun k => bit (s.check k).cfg 37

/-- Check units assigned, or being assigned, to an output, in COMPAT mode with this direction (R235, R236). -/
def State.compat (s : State) (c o : Nat) (dirIn : Bool) : Option Nat :=
  (List.range 32).find? fun k =>
    let w := Due.planned (s.check k).pending (s.check k).cfg
    fld w 39 38 == 3 && bit w 37 == dirIn && fld w 36 29 == c && fld w 28 27 == o

/-- Line bytes as delivered at the host: a COMPAT OUT unit adds four to each line (R235). -/
def State.hostExtra (s : State) (c o : Nat) : Nat := if (s.compat c o false).isSome then 4 else 0

def Bind.outRate (b : Bind) (r : OutRec) : Rat := b.frameRate / ratOf (r.decimate + 1)

/-- Bytes that a COMPAT IN unit takes off each line of a BYTES context (R236). -/
def State.hostCut (s : State) (c o : Nat) : Nat := if (s.compat c o true).isSome then 4 else 0

/-- PAYLOAD_BYTES of a full frame. -/
def OutRec.bytes (r : OutRec) (b : Bind) (cut : Nat := 0) : Nat := let d := r.size b cut; payloadSize (r.hostFormat b) r.strideField d.1 d.2

/-- Host load of an output in bytes per second (R237). -/
def State.outLoad (s : State) (c o : Nat) : Rat :=
  let b := (s.ctx c).bind
  let r := s.planRec c o
  if (s.ctx c).state == .unbound || !r.enable || !r.host then 0
  else
    let cut := s.hostCut c o
    let d := r.size b cut
    (ratOf (r.bytes b cut + roundUp (16 * r.stampRows d) 64 + 128) + ratOf (s.hostExtra c o * sumNat (formatPlanes (r.hostFormat b) d.2))) * b.outRate r

/-- Canvas record that counts. -/
def Accord.planned (a : Accord) : List Word := Due.planned a.pending a.canvas
def Source.planned (k : Source) : List Word := Due.planned k.pending k.cfg

/-- The canvas record by which starts fall due: in force, or for an Accord that is OFF the one that waits (R228). -/
def Accord.running (a : Accord) : List Word := if bit (pw a.canvas 0) 39 then a.canvas else a.planned
def Accord.lockSource (a : Accord) (k : Nat) : List Word := if bit (pw a.canvas 0) 39 then (a.source k).cfg else (a.source k).planned

/-- Canvas rate in frames per second (R228). -/
def State.canvasRate (s : State) (a : Nat) : Rat :=
  let w := (s.accord a).planned
  if fld (pw w 0) 30 29 = 2 then
    let c := fld (pw ((s.accord a).source (fld (pw w 0) 28 25)).planned 0) 38 31
    (s.ctx c).bind.outRate (s.planRec c 0)
  else if fld (pw w 2) 39 4 = 0 then 0
  else (16000000000 : Rat) / ratOf (fld (pw w 2) 39 4)

def State.canvasOn (s : State) (a : Nat) : Bool := bit (pw (s.accord a).planned 0) 39
def State.canvasW (s : State) (a : Nat) : Nat := fld (pw (s.accord a).planned 1) 39 27
def State.canvasH (s : State) (a : Nat) : Nat := fld (pw (s.accord a).planned 1) 26 15
def State.canvasFormat (s : State) (a : Nat) : Nat := fld (pw (s.accord a).planned 0) 38 35
def State.canvasBytes (s : State) (a : Nat) : Nat := payloadSize (s.canvasFormat a) 0 (s.canvasW a) (s.canvasH a)

/-- Host load of a canvas (R237). -/
def State.canvasLoad (s : State) (a : Nat) : Rat :=
  if s.canvasOn a && bit (pw (s.accord a).planned 0) 23 then ratOf (s.canvasBytes a + 128) * s.canvasRate a else 0

/-- S of R237. -/
def State.hostSum (s : State) : Rat :=
  sumRat (s.bound.flatMap fun c => [s.outLoad c 0, s.outLoad c 1, s.outLoad c 2]) + sumRat ((List.range s.variant.accords).map s.canvasLoad)

/-- S against the budget of the link (R33). -/
def State.hostSumOk (s : State) : Bool := decide (s.hostSum ≤ ratOf s.budget)

/-! Engines (R329). -/

/-- Channels of host engines in use, with the load that each carries. -/
def State.placed (s : State) : List (Nat × Nat × Rat) :=
  (s.bound.flatMap fun c =>
    ((List.range 3).filterMap fun o => (((s.ctx c).out o).ring).map fun r => (r.1, r.2, s.outLoad c o)) ++
      (match (s.ctx c).statsRing with
       | some r => [(r.1, r.2, ratOf (6152 * 8) * (s.ctx c).bind.frameRate)]
       | none => [])) ++
  (List.range s.variant.accords).filterMap fun a => ((s.accord a).ring).map fun r => (r.1, r.2, s.canvasLoad a)

/-- Planned load of an engine in bytes per second. -/
def State.engineLoad (s : State) (e : Nat) : Rat := sumRat ((s.placed.filter fun x => x.1 == e).map fun x => x.2.2)

def engineMax : Rat := 6000000000
def State.enginesOk (s : State) : Bool := (List.range 28).all fun e => decide (s.engineLoad e ≤ engineMax)

/-- A configuration that leads to s' raises S, and breaks the host-link sum rule or an engine's limit by it (R237, R329): a record of a display output
that is the lock source of a host-bound canvas does. -/
def State.overloads (s s' : State) : Bool := decide (s.hostSum < s'.hostSum) && !(s'.hostSumOk && s'.enginesOk)

/-- A free channel on the host engine with the smallest planned load; of equals the lowest engine and channel
(notes/assumptions/14). (log 14 DEDUCED) -/
def State.place (s : State) (load : Rat) : Option (Nat × Nat) :=
  let used := s.placed
  let free := fun e => (List.range 31).find? fun ch => !used.any fun x => x.1 == e && x.2.1 == ch
  let best := (List.range 28).foldl (fun (b : Option (Nat × Nat × Rat)) e =>
    if (s.engine e).inReset then b
    else match free e with
      | none => b
      | some ch =>
        let l := s.engineLoad e
        match b with
        | some (_, _, l') => if l < l' then some (e, ch, l) else b
        | none => some (e, ch, l)) none
  match best with
  | some (e, ch, l) => if l + load ≤ engineMax then some (e, ch) else none
  | none => none

/-! Accords (R230). -/

/-- Enabled source slots of an Accord: slot and context. -/
def State.sourcesOf (s : State) (a : Nat) : List (Nat × Nat) :=
  (List.range 16).filterMap fun k =>
    let w := pw ((s.accord a).source k).planned 0
    if bit w 39 then some (k, fld w 38 31) else none

/-- Bytes per pixel of a display output, exact. -/
def State.bpp (s : State) (c : Nat) : Rat := ratOf (formatBpp2 (s.planRec c 0).format) / 2

/-- External-memory load of an Accord in bytes per second (R230). The buffers of a named output are written whether the canvas runs or not
(R223); the other terms are 0 while it does not. -/
def State.accordLoad (s : State) (a : Nat) : Rat :=
  let src := s.sourcesOf a
  let ctxs := (src.map fun x => x.2).foldl (fun l c => if l.contains c then l else l ++ [c]) []
  let own := ctxs.filter fun c => !((List.range a).any fun b => (s.sourcesOf b).any fun x => x.2 == c)
  let r := if s.canvasOn a then s.canvasRate a else 0
  sumRat (own.map fun c =>
    let d := (s.planRec c 0).size (s.ctx c).bind
    ratOf (d.1 * d.2) * s.bpp c * (s.ctx c).bind.outRate (s.planRec c 0)) +
  sumRat (src.map fun x =>
    let w := ((s.accord a).source x.1).planned
    ratOf (fld (pw w 2) 39 27 * fld (pw w 2) 26 15) * s.bpp x.2 * 5 / 4 * r) +
  2 * ratOf (s.canvasW a * s.canvasH a) * ratOf (formatBpp2 (s.canvasFormat a)) / 2 * r

/-! Streams (R251, R257). -/

/-- A stream record as its fields. -/
structure StreamRec where
  enable : Bool
  canvas : Bool
  src : Nat
  port : Nat
  v6 : Bool
  vlan : Bool
  pcp : Nat
  vid : Nat
  dscp : Nat
  ttl : Nat
  pt : Nat
  tagExt : Bool
  tagId : Nat
  mtu : Nat
  dstMac : Nat
  dstUdp : Nat
  srcUdp : Nat
  ssrc : Nat
  dstIp : Nat
  flow : Nat
  sendTime : Bool
  ageMax : Nat
  deriving DecidableEq, Repr

def streamRec (w : List Word) : StreamRec :=
  { enable := bit (pw w 0) 39, canvas := bit (pw w 0) 38, src := fld (pw w 0) 37 30, port := fld (pw w 0) 29 28, v6 := bit (pw w 0) 27
    vlan := bit (pw w 0) 26, pcp := fld (pw w 0) 25 23, vid := fld (pw w 0) 22 11, dscp := fld (pw w 0) 10 5
    ttl := fld (pw w 1) 39 32, pt := fld (pw w 1) 31 25, tagExt := bit (pw w 1) 24, tagId := fld (pw w 1) 23 16, mtu := fld (pw w 1) 15 2
    dstMac := fld (pw w 3) 7 0 * 2 ^ 40 + (pw w 2).toNat, dstUdp := fld (pw w 3) 39 24, srcUdp := fld (pw w 3) 23 8
    ssrc := fld (pw w 4) 39 8, dstIp := natOfWords [pw w 5, pw w 6, pw w 7] + fld (pw w 8) 7 0 * 2 ^ 120
    flow := fld (pw w 8) 39 20, sendTime := bit (pw w 9) 39, ageMax := fld (pw w 9) 38 23 }

def Stream.planned (x : Stream) : List Word := Due.planned x.pending x.cfg
def State.streamPlan (s : State) (k : Nat) : StreamRec := streamRec (s.stream k).planned

/-- Bytes and pixels of a pixel group of a stream format (R251). -/
def streamGroup (format : Nat) : Nat × Nat := match format with | 0 => (3, 1) | 2 => (4, 2) | _ => (5, 2)

/-- Whole groups that fit a packet (R251). -/
def StreamRec.groups (r : StreamRec) (format : Nat) : Nat :=
  (r.mtu - (if r.v6 then 40 else 20) - 28 - (if r.tagExt then 88 else 0)) / (streamGroup format).1

/-- Packets of a line of w pixels (R251). -/
def StreamRec.packetsPerLine (r : StreamRec) (format w : Nat) : Nat :=
  ceilDiv (w / (streamGroup format).2) (max 1 (r.groups format))

/-- Wire bytes of a packet beside its payload (R257). -/
def StreamRec.overhead (r : StreamRec) : Nat := 28 + (if r.v6 then 40 else 20) + (if r.vlan then 42 else 38)

/-- Wire bytes of a frame (R257). -/
def StreamRec.wire (r : StreamRec) (format w h : Nat) : Nat :=
  h * (formatLine format w + r.packetsPerLine format w * r.overhead) + (if r.tagExt then 88 else 0)

/-- Format, width and height of a stream's source as planned, and its frame rate. -/
def State.streamSource (s : State) (r : StreamRec) : Nat × Nat × Nat × Rat :=
  if r.canvas then (s.canvasFormat r.src, s.canvasW r.src, s.canvasH r.src, s.canvasRate r.src)
  else
    let o := s.planRec r.src 0
    let b := (s.ctx r.src).bind
    let d := o.size b
    (o.format, d.1, d.2, b.outRate o)

/-- Wire rate in bytes per second (R257). -/
def State.wireRate (s : State) (k : Nat) : Rat :=
  let r := s.streamPlan k
  if !r.enable then 0
  else
    let x := s.streamSource r
    ratOf (r.wire x.1 x.2.1 x.2.2.1) * x.2.2.2

/-- Guard of a class in bits: its longest frame with preamble and headers (R246). -/
def State.guardBits (s : State) (p tc : Nat) : Nat :=
  (List.range 64).foldl (fun a k =>
    let r := s.streamPlan k
    if r.enable && r.port == p && (s.bbp p).tcOfPcp r.pcp == tc then max a ((r.mtu + if r.vlan then 42 else 38) * 8) else a) 0

/-- Bits per second that a list leaves a class: port rate × Σ(INTERVAL − guard) / CYCLE_TIME over its open entries; an entry of no length counts
nothing (R257). (log 19 DEDUCED) -/
def State.gateRate (s : State) (p tc : Nat) (o : GclOper) : Rat :=
  let b := s.bbp p
  let rate := ratOf (bbRate p b * 1000000)
  if !o.enable then rate
  else
    let guard := ratOf (s.guardBits p tc) * 1000 / ratOf (bbRate p b)
    let openNs := sumRat ((List.range o.listLen).map fun i =>
      let e := gclEntry (b.gclSlot o.slot) i
      if (fld e 39 32).testBit tc && fld e 31 0 != 0 then ratOf (fld e 31 0) - guard else 0)
    rate * openNs / ratOf (max 1 o.cycleTime)

/-- The enabled streams of a port fit its classes (R257). -/
def State.portFits (s : State) (p : Nat) : Bool :=
  (List.range 8).all fun tc =>
    let b := s.bbp p
    let load := 8 * sumRat ((List.range 64).map fun k =>
      let r := s.streamPlan k
      if r.enable && r.port == p && b.tcOfPcp r.pcp == tc then s.wireRate k else 0)
    let slope := (b.slopes.lookup tc).getD 0
    decide (load ≤ s.gateRate p tc b.oper) && (match b.change with | some (o, _) => decide (load ≤ s.gateRate p tc o) | none => true) &&
      (slope == 0 || decide (load ≤ ratOf (slope * 1000)))

/-- One source feeds at most four streams (R250). -/
def State.sourceStreams (s : State) (canvas : Bool) (src : Nat) : Nat :=
  ((List.range 64).filter fun k => let r := s.streamPlan k; r.enable && r.canvas == canvas && r.src == src).length

/-! The ring (R280, R283). -/

/-- Plan word that counts. -/
def Ring.planned (r : Ring) (c : Nat) : Word := Due.planned (r.planPending.lookup c) (r.plan c)

/-- Record size bound F of a payload of p bytes (R280). -/
def recordBound (p : Nat) : Nat := p + 64 * ceilDiv p 262144 + 192

/-- F of a context under a plan (R280). -/
def State.recordF (s : State) (c : Nat) (coding : Bool) : Nat :=
  let b := (s.ctx c).bind
  recordBound (if coding then (s.planRec c 1).bytes b else b.height * b.lineWords * 5)

/-- Recorded frames per second (R279, R283). -/
def State.recordRate (s : State) (c : Nat) (w : Word) : Rat :=
  let d := fld w 37 34 + 1
  let d := if bit w 38 then Nat.lcm d ((s.planRec c 1).decimate + 1) else d
  (s.ctx c).bind.frameRate / ratOf d

/-- Contexts with a plan that records. -/
def State.recorded (s : State) : List Nat := s.bound.filter fun c => bit (s.ring.planned c) 39

/-- R of R283 in bytes per second. -/
def State.ringRate (s : State) : Rat :=
  sumRat (s.recorded.map fun c => ratOf (s.recordF c (bit (s.ring.planned c) 38)) * s.recordRate c (s.ring.planned c))

/-- RR in bytes per second. -/
def State.retrievalRate (s : State) : Rat :=
  match s.ring.retrieval with | some x => ratOf (x.rate * 1000000) | none => 0

/-! External memory (R32): the management cluster's 6 GB/s always, the resampler's 6 GB/s while an output resamples or
stamps rows (notes/assumptions/15). -/

/-- Planned load of external memory in bytes per second (R32). (log 15 DEDUCED) -/
def State.memLoad (s : State) : Rat :=
  let rs := s.bound.any fun c => (s.planRec c 2).enable && ((s.planRec c 2).resample || (s.planRec c 2).stamps)
  2 * (s.ringRate + s.retrievalRate) + sumRat ((List.range s.variant.accords).map s.accordLoad) +
    2 * sumRat ((List.range 64).map s.wireRate) + (if rs then 6000000000 else 0) + 6000000000

/-- The planned load fits the memory (R32). (log 15 DEDUCED) -/
def State.memOk (s : State) : Bool := decide (s.memLoad ≤ ratOf (s.variant.memBudget * 1000000))

/-- The three conditions of R283. (log 112 DEDUCED) -/
def State.ringPlanOk (s : State) : Bool :=
  let r := s.ringRate
  let rr := s.retrievalRate
  decide (r ≤ ratOf (s.ring.members.length * 12000000000) - rr) && decide (r + rr ≤ 48000000000) && s.memOk &&
    decide (ratOf (sumNat (s.recorded.map fun c => s.recordF c (bit (s.ring.planned c) 38)) + 67108864) + r * 8 / 1000 ≤ ratOf s.ring.unsealedMax)

end Sys2Proof.Machine
end

