-- ==== Sys2Proof/Machine/Streams.lean ====
section
/-! DEFINITION. Streams (08_backbone.md R250 to R255): staging, cutting of lines into packets, drops, and the frames that
leave a port. -/
namespace Sys2Proof.Machine

/-- The record in force. -/
def Stream.inUse (x : Stream) : StreamRec := streamRec x.cfg

/-- The source that a record names is this one. -/
def StreamRec.fedBy (r : StreamRec) (canvas : Bool) (src : Nat) : Bool := r.enable && r.canvas == canvas && r.src == src

/-- The stream sends frames of this source. -/
def State.feeds (s : State) (k : Nat) (canvas : Bool) (src : Nat) : Bool :=
  (s.stream k).inUse.fedBy canvas src && !(s.stream k).resume

/-- A frame start of a source: pending records of its streams apply, and streams whose link is up resume (R250, R256). (log 20 DEDUCED) -/
def State.streamStart (s : State) (canvas : Bool) (src : Nat) : State :=
  (List.range 64).foldl (fun (s : State) k =>
    let x := s.stream k
    let x := match x.pending with
      | some d =>
        match d.ready s.now with
        | some w =>
          if (streamRec w).fedBy canvas src || (!(streamRec w).enable && x.inUse.fedBy canvas src) then { x with cfg := w, pending := d.rest s.now } else x
        | none => x
      | none => x
    s.setStream k (if x.inUse.fedBy canvas src && (s.bbp x.inUse.port).link then { x with resume := false } else x)) s

/-- Why a stream drops a frame (R254 to R256). -/
inductive StreamDrop where
  | space | age | poison
  deriving DecidableEq, Repr

/-- A drop: its counter, its event and DEST_DROPS. -/
def State.streamDrop (s : State) (k : Nat) (why : StreamDrop) : State :=
  (s.modStream k fun x =>
    { x with drops := satAdd 16 x.drops 1
             counts := match why with | .space => bump x.counts 23 12 | .age => bump x.counts 11 0 | .poison => x.counts
             counts2 := match why with | .poison => bump x.counts2 39 28 | _ => x.counts2 }).raise (evStream k) 1

/-- Take a frame and its packets out of staging. -/
def State.unstage (s : State) (p id : Nat) : State :=
  (s.bringCredits p).modBb p fun b =>
    { b with staged := b.staged.filter fun f => f.id != id
             packets := b.packets.filter fun k => !(decide (k.stream < 64) && k.frame == id) }

/-- The first row of a source's frame forms: each of its streams reserves the frame's whole wire size, or drops it
(R254). In the cycle in which the link has gone down the reservation fails (R261). `capture` is CAPTURE_TIME in ns. -/
def State.stageFrames (s : State) (canvas : Bool) (src format w h capture : Nat) : State :=
  ((List.range 64).filter fun k =>
    s.feeds k canvas src || ((s.stream k).inUse.fedBy canvas src && (s.bbp (s.stream k).inUse.port).downAt == s.now && s.now != 0)).foldl (fun (s : State) k =>
    let r := (s.stream k).inUse
    let b := s.bbp r.port
    let need := r.wire format w h
    if !b.link || b.stageBytes < sumNat (b.staged.map fun f => f.reserved) + need then s.streamDrop k .space
    else
      { s.modBb r.port fun b =>
          { b with staged := b.staged ++ [{ id := s.bb.nextFrame, stream := k, tc := b.tcOfPcp r.pcp, reserved := need, since := s.now
                                            started := false, record := (s.stream k).cfg, stamp := capture }] }
        with bb.nextFrame := s.bb.nextFrame + 1 }) s

/-- Staged frames of a source that still take lines: port and frame. -/
def State.openStaged (s : State) (canvas : Bool) (src : Nat) : List (Nat × StagedFrame) :=
  (List.range 4).flatMap fun p =>
    ((s.bbp p).staged.filter fun f =>
      (streamRec f.record).fedBy canvas src && !(s.bbp p).packets.any fun k => decide (k.stream < 64) && k.frame == f.id && k.marker).map fun f => (p, f)

/-- Packets of one line (R251): groups shared as evenly as possible, the earlier packets taking the extra group. -/
def linePackets (f : StagedFrame) (format w line : Nat) (bytes : List Byte) (tag : Option (List Word)) : List TxPacket :=
  let r := streamRec f.record
  let g := streamGroup format
  let n := r.packetsPerLine format w
  let groups := w / g.2
  let one := fun (i : Nat) =>
    let first := i * (groups / n) + min i (groups % n)
    let count := groups / n + b2n (decide (i < groups % n))
    let last := decide (i + 1 = n) && tag.isSome
    let k : TxPacket :=
      { stream := f.stream, frame := f.id, tc := f.tc, bytes := (bytes.drop (first * g.1)).take (count * g.1), line := line
        pixel := first * g.2, tag := if last && r.tagExt then tag.getD [] else []
        wire := count * g.1 + r.overhead + (if last && r.tagExt then 88 else 0), marker := last }
    k
  (List.range n).map one

/-- Hand a line of a source to its streams; the last line of the frame brings the tag block (R251 to R254). -/
def State.streamLine (s : State) (canvas : Bool) (src format w line : Nat) (bytes : List Byte) (tag : Option (List Word)) : State :=
  (s.openStaged canvas src).foldl (fun s f => s.bbQueue f.1 (linePackets f.2 format w line bytes tag)) s

/-- A source frame is lost: no further packet of it leaves, and DEST_DROPS counts it (15 R445). -/
def State.streamLost (s : State) (canvas : Bool) (src : Nat) : State :=
  (s.openStaged canvas src).foldl (fun s f =>
    (s.unstage f.1 f.2.id).modStream f.2.stream fun x => { x with drops := satAdd 16 x.drops 1 }) s

/-! Frames on the wire. -/

/-- An RTP packet of RFC 4175 (R251 to R253). (log 21 DESIGN CHOICE) -/
def rtpPacket (r : StreamRec) (k : TxPacket) (seq ts drops : Nat) : List Byte :=
  let ext := if k.tag.isEmpty then []
    else
      let tag := sealTag (k.tag.set 13 (mkWord [(39, 24, min 65535 drops)]))
      bytesBE 2 0x1000 ++ bytesBE 2 21 ++ [BitVec.ofNat 8 r.tagId, 80] ++ tag.flatMap (fun w => bytesBE 5 w.toNat) ++ [0, 0]
  [if k.tag.isEmpty then 0x80 else 0x90, BitVec.ofNat 8 (b2n k.marker * 128 + r.pt)] ++ bytesBE 2 seq ++ bytesBE 4 ts ++ bytesBE 4 r.ssrc ++ ext ++
    bytesBE 2 (seq / 65536) ++ bytesBE 2 k.bytes.length ++ bytesBE 2 k.line ++ bytesBE 2 k.pixel ++ k.bytes

/-- The Ethernet frame of a stream packet, from destination address to payload (R250, R252). (log 21 DESIGN CHOICE) -/
def streamFrame (b : Bb) (r : StreamRec) (rtp : List Byte) : List Byte :=
  let udp := udpDatagram r.v6 (if r.v6 then b.ipv6 else b.ipv4) r.dstIp r.srcUdp r.dstUdp rtp
  ethHeader r.dstMac b.mac (if r.vlan then some (r.pcp, r.vid) else none) (if r.v6 then 0x86DD else 0x0800) ++
    (if r.v6 then ipv6Header b.ipv6 r.dstIp 17 r.ttl (r.dscp * 4) r.flow udp.length else ipv4Header b.ipv4 r.dstIp 17 r.ttl r.dscp udp.length) ++ udp

/-- RTP timestamp (R252). -/
def rtpTime (ns : Nat) : Nat := ns * 9 / 100000 % 2 ^ 32

end Sys2Proof.Machine
end

