-- ==== Sys2Proof/Machine/Backbone.lean ====
section
/-! DEFINITION. The backbone ports: their commands (12_mailbox_and_commands.md Table 12-9), gate lists, sending and
receiving (08_backbone.md R240 to R257, R261). -/
namespace Sys2Proof.Machine

/-! Link changes (R256). -/

/-- A door session ends. -/
def State.sessionsClose (s : State) (p : Session → Bool) : State :=
  { s with bb := { s.bb with sessions := s.bb.sessions.filter fun x => !p x } }

/-- A port's link goes down: its staged frames are lost, its sessions close (R256, R259). -/
def State.bbDown (s : State) (p : Nat) : State :=
  let lost := (s.bbp p).staged
  let s := s.modBb p fun b => { b with link := false, staged := [], packets := [], busyUntil := 0, txEnd := 0, downAt := s.now }
  let s := lost.foldl (fun (s : State) f =>
    if f.started then s.modStream f.stream fun x => { x with drops := satAdd 16 x.drops 1 } else s.streamDrop f.stream .space) s
  let s := (List.range 64).foldl (fun (s : State) k =>
    if (s.stream k).inUse.enable && (s.stream k).inUse.port == p then s.modStream k fun x => { x with resume := true } else s) s
  (s.sessionsClose fun x => x.bb == p).raise (evBb p) 3

def execBbLinkDown (p : Nat) (s : State) : Host.Outcome State Fault Refusal :=
  if !s.variant.hasBb p then .next s
  else .next (if (s.bbp p).link then s.bbDown p else s)

/-- BB_LINK_UP: no port runs before Phokel has started (01 R24); in LOW, and from its entry on, only Bb 4 leaves electrical idle, in
HOLD no port does (R241). (log 179 DEDUCED) -/
def execBbLinkUp (p : Nat) (s : State) : Host.Outcome State Fault Refusal :=
  if !s.variant.hasBb p then .next s
  else if !s.rst.phokel || s.scanOpen || (s.bbp p).link || s.ledger.pstate == .hold || ((s.ledger.pstate == .low || s.ledger.enteringLow) && p != 4) then .next s
  else .next (((s.bringCredits p).modBb p fun b => { b with link := true }).raise (evBb p) 4)

/-! Commands. -/

/-- Payload of BB_PORT_CFG. The device cannot run RS-FEC at 10G (Table 8-1), and Bb 4 has neither SPEED nor FEC (R240). (log 18 DEDUCED) -/
def bbCfgOk (s : State) (m : Msg) : Bool :=
  let p := fld (m.w 0) 39 37
  lenIs m 9 && s.variant.hasBb p && zeroFld (m.w 0) 11 0 && zeroFld (m.w 2) 15 0 && zeroFld (m.w 3) 15 0 && zeroFld (m.w 4) 39 32 &&
    zeroFld (m.w 8) 39 8 && (if p = 4 then zeroFld (m.w 0) 36 34 else within 4 256 (fld (m.w 0) 20 12)) &&
    fld (m.w 0) 35 34 != 3 && !(fld (m.w 0) 35 34 == 2 && !bit (m.w 0) 36)

/-- BB_PORT_CFG (R240, R244, R254, R258): a change of SPEED or FEC retrains the link. (log 18 DEDUCED) -/
def execBbPortCfg (m : Msg) (s : State) : Host.Outcome State Fault Refusal :=
  .next (mailRun 0x409 permitRL m s false (bbCfgOk s m) fun s =>
    let p := fld (m.w 0) 39 37
    let b := s.bbp p
    let retrain := b.link && fld (pw b.cfg 0) 36 34 != fld (m.w 0) 36 34
    let s := if retrain then s.bbDown p else s
    okNext (((s.bringCredits p).modBb p fun b => { b with cfg := m.payload }).lockOverrun p))

/-- BB_GCL_LOAD (R245). (log 19 DEDUCED) -/
def execBbGclLoad (m : Msg) (s : State) : Host.Outcome State Fault Refusal :=
  let p := fld (m.w 0) 39 38
  let slot := fld (m.w 0) 37 37
  let first := fld (m.w 0) 36 27
  let es := m.payload.drop 1
  let argsOk := decide (p < s.variant.backbone) && zeroFld (m.w 0) 26 0 && within 1 254 es.length && decide (first + es.length ≤ 1024) &&
    es.all fun e => decide (64 ≤ fld e 31 0)
  .next (mailRun 0x40A permitR m s false argsOk fun s =>
    let b := s.bbp p
    if b.oper.enable && b.oper.slot == slot then .done .state [] s
    else
      let g := b.gclSlot slot
      let g : GclSlot := { entries := (es.zipIdx).foldl (fun l e => bankSet (fun _ => (0xFF00000000 : Word)) l (first + e.2) e.1) g.entries }
      okNext (s.modBb p fun b => if slot = 0 then { b with slotA := g } else { b with slotB := g }))

/-- First change time more than 100 µs after now (R247). -/
def changeTime (now base cycle : Nat) : Nat :=
  if now + 100000 < base then base
  else base + ((now + 100000 - base) / max 1 cycle + 1) * max 1 cycle

/-- An enabled stream's class has an open interval shorter than its guard (R246). (log 19 DEDUCED) -/
def State.guardBroken (s : State) (p : Nat) (o : GclOper) : Bool :=
  o.enable && (List.range 8).any fun tc =>
    (openIntervals tc (gclRuns ((s.bbp p).gclSlot o.slot) o)).any fun n => decide (n * bbRate p (s.bbp p) < s.guardBits p tc * 1000)

/-- BB_GCL_SET (R245 to R247, R257). -/
def execBbGclSet (m : Msg) (s : State) : Host.Outcome State Fault Refusal :=
  let p := fld (m.w 0) 39 38
  let o : GclOper := { slot := fld (m.w 0) 37 37, enable := bit (m.w 0) 36, listLen := fld (m.w 0) 35 25, cycleTime := fld (m.w 1) 39 10
                       baseTime := (ptpNs (m.w 2) (m.w 3)).getD 0 }
  let argsOk := lenIs m 4 && decide (p < s.variant.backbone) && zeroFld (m.w 0) 24 0 && within 1 1024 o.listLen && zeroFld (m.w 1) 9 0 &&
    within 1000 1000000000 o.cycleTime && (ptpNs (m.w 2) (m.w 3)).isSome && !s.guardBroken p o
  .next (mailRun 0x40B permitR m s false argsOk fun s =>
    if (s.bbp p).change.isSome then .done .busy [] s
    else
      let s' := s.modBb p fun b => { b with change := some (o, changeTime s.dtNs o.baseTime o.cycleTime) }
      if !s'.portFits p then .done .noResource [] s else .wait (.gclSet p) s')

/-- BB_SHAPER (R249, R257). -/
def execBbShaper (m : Msg) (s : State) : Host.Outcome State Fault Refusal :=
  let p := fld (m.w 0) 39 38
  let tc := fld (m.w 0) 37 35
  let slope := fld (m.w 0) 34 10
  let argsOk := lenIs m 1 && decide (p < s.variant.backbone) && zeroFld (m.w 0) 9 0 && decide (slope ≤ bbRate p (s.bbp p) * 1000)
  .next (mailRun 0x40C permitR m s false argsOk fun s =>
    let s := s.bringCredits p
    let s' := s.modBb p fun b =>
      { b with slopes := if slope = 0 then b.slopes.filter (fun x => x.1 != tc) else bankPut tc slope b.slopes
               credits := if slope = 0 then b.credits.filter (fun x => x.1 != tc) else b.credits }
    if s'.portFits p then okNext s' else .done .noResource [] s)

/-- The fields of a stream record hold no reserved value (Table 8-3), whatever its ENABLE. (log 20 DEDUCED) -/
def streamFieldsOk (s : State) (w : List Word) : Bool :=
  let r := streamRec w
  zeroFld (pw w 0) 4 0 && zeroFld (pw w 1) 1 0 && zeroFld (pw w 4) 7 0 && zeroFld (pw w 8) 19 8 && zeroFld (pw w 9) 22 0 &&
    decide (r.port < s.variant.backbone) && (!r.vlan || within 1 4094 r.vid) && within 96 127 r.pt && within 1 255 r.tagId &&
    within 576 9000 r.mtu && within 100 65535 r.ageMax && (r.v6 || decide (r.dstIp < 2 ^ 32))

/-- The source of a record is an output or canvas that feeds the backbone in a format of R250. -/
def State.streamSourceOk (s : State) (r : StreamRec) : Bool :=
  if r.canvas then
    decide (r.src < s.variant.accords) && s.canvasOn r.src && bit (pw (s.accord r.src).planned 0) 22 && [0, 2, 3].contains (s.canvasFormat r.src)
  else
    decide (r.src < s.variant.contexts) && (s.ctx r.src).state != .unbound &&
      (let o := s.planRec r.src 0
       o.enable && o.backbone && [0, 2, 3].contains o.format)

/-- STREAM_CFG (R250, R252, R257, R32). (log 20 DEDUCED, 21 DESIGN CHOICE) -/
def execStreamCfg (m : Msg) (s : State) : Host.Outcome State Fault Refusal :=
  let k := fld (m.w 0) 39 34
  let w := m.payload.drop 1
  let r := streamRec w
  let argsOk := lenIs m 11 && zeroFld (m.w 0) 33 0 && streamFieldsOk s w && (!r.enable || s.streamSourceOk r)
  .next (mailRun 0x408 permitR m s false argsOk fun s =>
    let x := s.stream k
    let s' := s.setStream k { x with pending := some (Due.accept s.now x.pending w) }
    if r.enable && (4 < s'.sourceStreams r.canvas r.src || !s'.portFits r.port || !s'.memOk) then .done .noResource [] s
    else if r.enable && !x.inUse.enable then
      let d := s'.draw
      okNext (d.2.modStream k fun x => { x with rtpSeq := d.1 % 2 ^ 32 })
    else okNext s')

/-- As a cycle ends, a record that keeps an idle stream disabled takes force: no frame start concerns it (R250, R261). (log 20 DEDUCED) -/
def State.stepStreamRecords (s : State) : State :=
  (List.range 64).foldl (fun (s : State) k =>
    let x := s.stream k
    match x.pending with
    | some d => if (streamRec d.value).enable || x.inUse.enable then s else s.setStream k { x with cfg := d.value, pending := none }
    | none => s) s

/-! Gate lists over time (R245, R247). -/

/-- GCL_ENTRY_ADVANCE: the entry in force has run its interval. -/
def execGclEntryAdvance (p : Nat) (s : State) : Host.Outcome State Fault Refusal :=
  if s.variant.backbone ≤ p then .next s
  else if (s.bbp p).oper.enable && decide ((s.bbp p).entryEnd ≤ s.dtNs) then .next (s.gclSync p) else .next s

/-- GCL_CONFIG_CHANGE: at its config change time a pending list takes force (R247). -/
def execGclConfigChange (p : Nat) (s : State) : Host.Outcome State Fault Refusal :=
  if s.variant.backbone ≤ p then .next s
  else match (s.bbp p).change with
    | none => .next s
    | some (o, t) =>
      if s.dtNs < t then .next s
      else
        let s := s.bringCredits p
        let s := (s.modBb p fun b => { b with oper := o, change := none }).gclSync p
        .next ((s.raise (evBb p) 1).finishWait (.gclSet p) .ok)

/-- After a Device Time step of `d` ns the lists follow the new time (R247, R248): the transmission in progress keeps
its length, and one that now ends after its gate has closed counts in TX_OVERRUN. -/
def State.bbStep (s : State) (d : Int) : State :=
  (List.range s.variant.backbone).foldl (fun (s : State) p =>
    let b := s.bbp p
    let t0 := ((s.dtNs : Int) - d).toNat
    let sending := decide (t0 < b.txEnd)
    let left := b.txEnd - t0
    let fits := match b.openFor b.txTc s.dtNs with
      | some n => decide (left ≤ n)
      | none => true
    let isOver := sending && (!s.gateOpen p b.txTc s.dtNs || !fits)
    let moved := fun (t : Nat) => if t0 < t then s.dtNs + (t - t0) else 0
    let s := s.modBb p fun b => { b with creditAt := s.dtNs, busyUntil := moved b.busyUntil, txEnd := moved b.txEnd }
    let s := s.gclSync p
    if isOver then s.txOverrun p else s) s

/-! Sending (R244, R246, R249). -/

/-- ns that n bytes take on the wire, rounded up. (log 22 DEDUCED) -/
def wireNs (p : Nat) (b : Bb) (n : Nat) : Nat := ceilDiv (n * 8000) (bbRate p b)

/-- Class tc may start its first packet now. -/
def State.mayStart (s : State) (p tc : Nat) (k : TxPacket) : Bool :=
  let b := s.bbp p
  p == 4 ||
    (s.gateOpen p tc s.dtNs &&
      (match b.openFor tc s.dtNs with | some n => decide (wireNs p b (k.wire - 12) ≤ n) | none => true) &&
      (match b.slopes.lookup tc with | some _ => decide (0 ≤ (b.credits.lookup tc).getD 0) | none => true))

/-- The packet that a port sends next: the highest class with a packet that may start. -/
def State.nextPacket (s : State) (p : Nat) : Option TxPacket :=
  [7, 6, 5, 4, 3, 2, 1, 0].findSome? fun tc =>
    match (s.bbp p).packets.find? fun k => k.tc == tc with
    | some k => if s.mayStart p tc k then some k else none
    | none => none

/-- Take a packet off the queue and occupy the transmitter. -/
def State.transmit (s : State) (p : Nat) (k : TxPacket) (frame : List Byte) : State :=
  s.modBb p fun b =>
    { b with packets := eraseFirst (fun x => x == k) b.packets, sent := frame :: b.sent, txTc := k.tc
             busyUntil := s.dtNs + wireNs p b k.wire, txEnd := s.dtNs + wireNs p b (k.wire - 12), txOver := false
             credits := match b.slopes.lookup k.tc with
               | some _ => bankPut k.tc ((b.credits.lookup k.tc).getD 0 - (k.wire : Int) * 8000000) b.credits
               | none => b.credits }

/-- Send a stream packet of a staged frame (R252 to R254). -/
def State.sendStream (s : State) (p : Nat) (k : TxPacket) (f : StagedFrame) : State :=
  let r := streamRec f.record
  let x := s.stream k.stream
  let f' := { f with started := true, stamp := if !f.started && r.sendTime then s.dtNs else f.stamp }
  let s := s.transmit p k (streamFrame (s.bbp p) r (rtpPacket r k x.rtpSeq (rtpTime f'.stamp) x.drops))
  let s := s.modBb p fun b => { b with staged := b.staged.map fun y => if y.id == f.id then f' else y }
  let s := s.modStream k.stream fun x => { x with rtpSeq := (x.rtpSeq + 1) % 2 ^ 32 }
  if k.marker then
    (s.unstage p f.id).modStream k.stream fun x => { x with counts := bump x.counts 39 24, drops := 0 }
  else s

/-- The 802.1AS message type of a frame; none for any other. (log 17 PRESUMED) -/
def asType (f : List Byte) : Option Nat := if natBE ((f.drop 12).take 2) = 0x88F7 then some (natBE ((f.drop 14).take 1) % 16) else none

/-- Local time in ns, which no step of Device Time moves. -/
def State.localNs (s : State) : Nat := s.time.mono / fracPerNs

/-- A frame of the port's own leaves; a Pdelay_Req is stamped (R243). -/
def State.sendOwn (s : State) (p : Nat) (k : TxPacket) : State :=
  let s := s.transmit p k k.bytes
  if asType k.bytes = some 2 then { s with bb := { s.bb with peer := { s.bb.peer with reqAt := s.localNs, resp := none } } } else s

/-- STREAM_PACKET_SEND (R244). A frame whose AGE_MAX has expired is discarded unsent (R261); a poisoned word ends or drops the frame (R255). -/
def execStreamPacketSend (p : Nat) (data : Delivery) (s : State) : Host.Outcome State Fault Refusal :=
  if !s.variant.hasBb p then .next s
  else if !(s.bbp p).link || s.dtNs < (s.bbp p).busyUntil then .next s
  else
    let s := s.bringCredits p
    match s.nextPacket p with
    | none => .next s
    | some k =>
      if k.stream < 64 then
        match (s.bbp p).staged.find? fun f => f.id == k.frame with
        | none => .next (s.modBb p fun b => { b with packets := eraseFirst (fun x => x == k) b.packets })
        | some f =>
          if !f.started && decide (f.since + (streamRec f.record).ageMax * cyclesPerUs ≤ s.now) then .next ((s.unstage p f.id).streamDrop k.stream .age)
          else
          let s := s.delivered 2 data
          if data = .poisoned then .next ((s.unstage p f.id).streamDrop k.stream .poison) else .next (s.sendStream p k f)
      else .next (s.sendOwn p k)

/-- STREAM_AGE_OUT: a staged frame whose first packet has not left AGE_MAX after its first row is discarded (R254). -/
def execStreamAgeOut (k : Nat) (s : State) : Host.Outcome State Fault Refusal :=
  if 64 ≤ k then .next s
  else
    let old := (List.range 4).findSome? fun p =>
      ((s.bbp p).staged.find? fun f =>
        f.stream == k && !f.started && decide (f.since + (streamRec f.record).ageMax * cyclesPerUs ≤ s.now)).map fun f => (p, f)
    match old with
    | none => .next s
    | some (p, f) => .next ((s.unstage p f.id).streamDrop k .age)

/-! 802.1AS (R243): frames as the standard lays them out (notes/assumptions/17). -/

/-- The clock identity of a port: its MAC address widened by FF-FE. (log 17 PRESUMED) -/
def clockIdentity (mac : Nat) : List Byte := bytesBE 3 (mac / 2 ^ 24) ++ [0xFF, 0xFE] ++ bytesBE 3 (mac % 2 ^ 24)

/-- An 802.1AS event or general message to the peer group address. (log 17 PRESUMED) -/
def asFrame (b : Bb) (type flags seq interval : Nat) (body : List Byte) : List Byte :=
  ethHeader 0x0180C200000E b.mac none 0x88F7 ++ [BitVec.ofNat 8 (0x10 + type), 2] ++ bytesBE 2 (34 + body.length) ++ [0, 0] ++ bytesBE 2 flags ++
    zeros 12 ++ clockIdentity b.mac ++ bytesBE 2 1 ++ bytesBE 2 seq ++ [5, BitVec.ofNat 8 interval] ++ body

/-- A Device Time as the 10-byte timestamp of the standard. -/
def asStamp (ns : Nat) : List Byte := bytesBE 6 (ns / 1000000000) ++ bytesBE 4 (ns % 1000000000)

/-- PDELAY_REQ_SEND: each second on the AS port. -/
def execPdelayReqSend (s : State) : Host.Outcome State Fault Refusal :=
  let p := s.time.asPort
  if s.time.source != .as || !(s.bbp p).link || s.now < s.bb.pdelayAt + cyclesPerS then .next s
  else
    let f := asFrame (s.bbp p) 2 0 (s.bb.pdelaySeq % 65536) 0 (zeros 20)
    .next ({ s with bb := { s.bb with pdelayAt := s.now, pdelaySeq := s.bb.pdelaySeq + 1 } }.bbSend p 7 f)

/-! Receiving (R242). -/

/-- Field of n bytes at an offset, most significant first. -/
def beAt (f : List Byte) (off n : Nat) : Nat := natBE ((f.drop off).take n)

/-- A frame that the port keeps, and its answers with their classes. -/
structure RxKept where
  answers : List (Nat × List Byte)
  deriving DecidableEq, Repr

/-- An ICMPv6 message with its checksum. (log 17 PRESUMED) -/
def icmp6 (src dst : Nat) (type code : Nat) (body : List Byte) : List Byte :=
  let h := fun ck => [BitVec.ofNat 8 type, BitVec.ofNat 8 code] ++ bytesBE 2 ck ++ body
  let n := 4 + body.length
  h (inetChecksum (onesSum (bytesBE 16 src ++ bytesBE 16 dst ++ bytesBE 4 n ++ bytesBE 4 58 ++ h 0) 0))

/-- An IPv4 packet addressed to the port. -/
def keepIpv4 (b : Bb) (f : List Byte) : Option RxKept :=
  let ip := f.drop 14
  let hl := beAt ip 0 1 % 16 * 4
  let total := beAt ip 2 2
  let body := (ip.take total).drop hl
  if beAt ip 0 1 / 16 ≠ 4 ∨ hl < 20 ∨ beAt ip 16 4 ≠ b.ipv4 ∨ beAt ip 6 2 % 16384 ≠ 0 then none
  else if beAt ip 9 1 = 17 then if b.doorEn && beAt body 2 2 == b.doorUdp then some { answers := [] } else none
  else if beAt ip 9 1 = 1 && beAt body 0 1 == 8 && b.echoEn then
    let h := fun ck => [0, 0] ++ bytesBE 2 ck ++ body.drop 4
    let icmp := h (inetChecksum (onesSum (h 0) 0))
    some { answers := [(b.doorTc, ethHeader (beAt f 6 6) b.mac none 0x0800 ++ ipv4Header b.ipv4 (beAt ip 12 4) 1 64 0 icmp.length ++ icmp)] }
  else none

/-- An IPv6 packet addressed to the port, or a solicitation of its address. -/
def keepIpv6 (b : Bb) (f : List Byte) : Option RxKept :=
  let ip := f.drop 14
  let body := (ip.drop 40).take (beAt ip 4 2)
  let src := beAt ip 8 16
  let next := beAt ip 6 1
  let reply := fun (dst : Nat) (m : List Byte) => ethHeader (beAt f 6 6) b.mac none 0x86DD ++ ipv6Header b.ipv6 dst 58 255 0 0 m.length ++ m
  if next = 58 && beAt body 0 1 == 135 && beAt body 8 16 == b.ipv6 then
    let unspecified := src == 0
    let dst := if unspecified then 0xFF020000000000000000000000000001 else src
    let m := icmp6 b.ipv6 dst 136 0 (bytesBE 4 (if unspecified then 0x20000000 else 0x60000000) ++ bytesBE 16 b.ipv6 ++ [2, 1] ++ bytesBE 6 b.mac)
    some { answers := [(b.doorTc, reply dst m)] }
  else if beAt ip 24 16 ≠ b.ipv6 then none
  else if next = 17 then if b.doorEn && beAt body 2 2 == b.doorUdp then some { answers := [] } else none
  else if next = 58 && beAt body 0 1 == 128 && b.echoEn then some { answers := [(b.doorTc, reply src (icmp6 b.ipv6 src 129 0 (body.drop 4)))] }
  else none

/-- An ARP request for the port's address. -/
def keepArp (b : Bb) (f : List Byte) : Option RxKept :=
  let a := f.drop 14
  if beAt a 6 2 ≠ 1 ∨ beAt a 24 4 ≠ b.ipv4 then none
  else some { answers := [(b.doorTc, ethHeader (beAt a 8 6) b.mac none 0x0806 ++ bytesBE 2 1 ++ bytesBE 2 0x0800 ++ [6, 4] ++ bytesBE 2 2 ++
    bytesBE 6 b.mac ++ bytesBE 4 b.ipv4 ++ (a.drop 8).take 10)] }

/-- An 802.1AS message: the AS port keeps all, any other of Bb 0 to 3 answers Pdelay_Req alone (R243). -/
def keepAs (s : State) (p : Nat) (b : Bb) (f : List Byte) : Option RxKept :=
  let h := f.drop 14
  let asPort := s.time.source == .as && s.time.asPort == p
  if p = 4 then none
  else if beAt h 0 1 % 16 = 2 then
    let who := (h.drop 20).take 10
    let seq := beAt h 30 2
    some { answers := [(7, asFrame b 3 0x0200 seq 0x7F (asStamp s.dtNs ++ who)), (7, asFrame b 0xA 0 seq 0x7F (asStamp s.dtNs ++ who))] }
  else if asPort then some { answers := [] }
  else none

/-- What the AS port takes from an 802.1AS message: the answers to its own Pdelay_Req give the partner's rate, from two responses, and the path delay, with
t1 and t4 its own times and t2 and t3 the partner's (R243; notes/assumptions/17). (log 17 PRESUMED) -/
def State.asTake (s : State) (p : Nat) (f : List Byte) : State :=
  let h := f.drop 14
  let own := (h.drop 44).take 10 == clockIdentity (s.bbp p).mac ++ bytesBE 2 1 && beAt h 30 2 == (s.bb.pdelaySeq + 65535) % 65536
  let stamp := beAt h 34 6 * 1000000000 + beAt h 40 4
  let y := s.bb.peer
  if s.time.source != .as || s.time.asPort != p || !own then s
  else match asType f with
    | some 3 => { s with bb := { s.bb with peer := { y with resp := some (beAt h 30 2, stamp, s.localNs) } } }
    | some 0xA =>
      match y.resp with
      | some (_, t2, t4) =>
        let rate : Rat := match y.last with
          | some (t3', t4') => if t4' < t4 then ((stamp : Int) - t3' : Int) / ((t4 - t4' : Nat) : Rat) else y.rate
          | none => y.rate
        let delay : Rat := (((t4 - y.reqAt : Nat) : Rat) * rate - (((stamp : Int) - t2 : Int) : Rat)) / 2
        { s with bb := { s.bb with peer := { y with resp := none, last := some (stamp, t4), rate := rate, delay := delay } } }
      | none => s
    | _ => s

/-- Offset of Device Time from the source at a Sync, in ns (04 R107): the path delay is counted in the source's time. (log 17 PRESUMED) -/
def State.asOffset (s : State) (x : AsSync) : Int :=
  ratRound (((x.received - x.origin : Int) : Rat) - s.bb.peer.delay * (1 + (x.rateOffset : Rat) / ((2 ^ 41 : Nat) : Rat)))

/-- What the AS port announces of itself: priority1, and no grandmaster capability (R243). (log 17 PRESUMED) -/
def asPriority1 : Nat := 255
def asGmCapable : Bool := false

/-- The VID of the port (Table 8-1): one under which an enabled stream of it sends tagged. (log 123 DEDUCED) -/
def State.ownVid (s : State) (p vid : Nat) : Bool :=
  (List.range 64).any fun k => let r := (s.stream k).inUse; r.enable && r.port == p && r.vlan && r.vid == vid

/-- A received frame without the tag that the port supports, and that tag (R240). -/
def State.untag (s : State) (p : Nat) (f : List Byte) : List Byte × List Byte :=
  if beAt f 12 2 = 0x8100 && s.ownVid p (beAt f 14 2 % 4096) then (f.take 12 ++ f.drop 16, (f.drop 12).take 4) else (f, [])

/-- What a port makes of a frame of at most 9216 bytes, FCS included, less its tag (R240, R242). (log 17 PRESUMED) -/
def State.keepUntagged (s : State) (p : Nat) (f : List Byte) : Option RxKept :=
  let b := s.bbp p
  let dst := beAt f 0 6
  let solicited := 0x3333FF000000 + b.ipv6 % 2 ^ 24
  if f.length < 14 then none
  else if !(dst == b.mac || dst == 0xFFFFFFFFFFFF || dst == solicited || dst == 0x0180C200000E) then none
  else match beAt f 12 2 with
    | 0x0800 => keepIpv4 b f
    | 0x86DD => keepIpv6 b f
    | 0x0806 => keepArp b f
    | 0x88F7 => keepAs s p b f
    | _ => none

/-- What a port makes of a frame of at most 9216 bytes, FCS included (R240): an answer goes under the tag of the question, but for
802.1AS. (log 17 PRESUMED, 123 DEDUCED) -/
def State.keepFrame (s : State) (p : Nat) (f : List Byte) : Option RxKept :=
  let u := s.untag p f
  if 9212 < f.length then none
  else (s.keepUntagged p u.1).map fun k =>
    { k with answers := k.answers.map fun a => if beAt a.2 12 2 = 0x88F7 then a else (a.1, a.2.take 12 ++ u.2 ++ a.2.drop 12) }

/-- BB_FRAME_RX (R242): keep, answer or discard; at most 20 000 frames are kept in a second. A door datagram is kept here
and acted on by the DOOR rows. (log 32 DEDUCED) -/
def execBbFrameRx (p : Nat) (frame : List Byte) (fecBad : Nat) (s : State) : Host.Outcome State Fault Refusal :=
  if !s.variant.hasBb p then .next s
  else if !(s.bbp p).link then .next s
  else
    let s := s.modBb p fun b => { b with counts := bump b.counts 11 0 fecBad }
    let s := if (s.bbp p).keptSince + cyclesPerS ≤ s.now then s.modBb p fun b => { b with kept := 0, keptSince := s.now } else s
    match s.keepFrame p frame with
    | some k =>
      if (s.bbp p).kept < 20000 then
        .next (k.answers.foldl (fun s a => s.bbSend p a.1 a.2) ((s.modBb p fun b => { b with kept := b.kept + 1 }).asTake p (s.untag p frame).1))
      else .next (s.modBb p fun b => { b with counts := bump b.counts 39 24 })
    | none => .next (s.modBb p fun b => { b with counts := bump b.counts 39 24 })

end Sys2Proof.Machine
end

