-- ==== Sys2Proof/Machine/Doors.lean ====
section
/-! DEFINITION. The note queues of the doors, and the sessions of the backbone door (12_mailbox_and_commands.md R359 to R363, R367, R373;
08_backbone.md R258 to R260; 16 R467). -/
namespace Sys2Proof.Machine

/-- LEN of a header word (12 Table 12-3). -/
def headerLen (w : Word) : Nat := fld w 27 20

/-- Mark the header of the message whose last `stored` payload words stand at the queue's end as torn. -/
def markTorn (l : List NoteWord) (stored : Nat) : List NoteWord :=
  let k := l.length - stored - 1
  l.zipIdx.map fun x => if x.2 = k then { x.1 with torn := some stored } else x.1

/-- A word that finds the queue full is refused: its message is torn (R360). A header that is refused leaves nothing stored, and is kept for its response. (log 174 DEDUCED) -/
def Note.refuse (n : Note) (x : NoteWord) : Note :=
  let n := { n with refused := (n.refused + 1) % 256
                    turned := some { cycle := x.at_, word := x, words := n.words, openLeft := n.openLeft, openStored := n.openStored } }
  if n.openLeft = 0 then { n with discard := headerLen x.w, lost := n.lost ++ [x] }
  else { n with discard := n.openLeft - 1, openLeft := 0, words := markTorn n.words n.openStored }

/-- A word is stored at the queue's end. -/
def Note.store (n : Note) (x : NoteWord) : Note :=
  let head := n.openLeft == 0
  { n with words := n.words ++ [x], openLeft := if head then headerLen x.w else n.openLeft - 1, openStored := if head then 0 else n.openStored + 1,
           turned := none }

/-- The queue as a taking in cycle `now` finds it: a push to 64 words in that cycle is stored (Table 12-14). -/
def Note.mended (n : Note) (now : Nat) : Note :=
  match n.turned with
  | some t =>
    if t.cycle = now then
      { n with words := t.words, openLeft := t.openLeft, openStored := t.openStored, discard := 0, lost := if t.openLeft = 0 then n.lost.dropLast else n.lost
               refused := (n.refused + 255) % 256 }.store t.word
    else n
  | none => n

/-- A message of this queue is being taken and words of it are still to come (R363). -/
def State.beingRead (s : State) (door note : Nat) : Bool :=
  match s.mail.taking with
  | some t => t.door == door && t.note == note && decide (t.words.length < headerLen t.header)
  | none => false

/-- A word is pushed to a note queue (R359, R360). The words of a message that is being taken go on to its reader. -/
def State.push (s : State) (door note : Nat) (w : Word) (session : Nat) : State :=
  let n := s.note door note
  let x : NoteWord := { w := w, at_ := s.now, session := session, torn := none }
  if n.discard != 0 then
    s.setNote door note { n with discard := n.discard - 1, turned := none, refused := if 64 ≤ n.words.length then (n.refused + 1) % 256 else n.refused }
  else if s.beingRead door note then
    (s.setNote door note { n with openLeft := n.openLeft - 1 }).modMail fun m =>
      { m with taking := m.taking.map fun t => { t with words := t.words ++ [w], since := s.now } }
  else if 64 ≤ n.words.length then s.setNote door note (n.refuse x)
  else s.setNote door note (n.store x)

/-- The queues take words: Phokel has started since the last reset above a core reset (R365; 14 R433). -/
def State.doorsUp (s : State) : Bool := s.rst.bootState == .running || s.rst.coreReset

/-- The one producer of a door that pushes now, by its session (Table 12-1): the host through BAR2, the device for an open session of the
backbone, the two-wire target, Phokel's own agents. (log 174 DEDUCED) -/
def State.producer (s : State) (door : Nat) : Option Nat :=
  match door with
  | 0 => if s.host.up then some 0 else none
  | 1 => (s.bb.sessions.find? fun x => x.isOpen).map fun x => x.no
  | d => if d < 4 then some 0 else none

/-- The queues of a door take words: those of Door 2 from the release of step 5 (16 Table 16-1), the others once Phokel has started. (log 183 DEDUCED) -/
def State.queueUp (s : State) (door : Nat) : Bool := if door = 2 then s.rst.released.getLsbD 4 else s.doorsUp

/-- DOOR_PUSH: a word of a door's own producer arrives (R358, R359). (log 174 DEDUCED) -/
def execDoorPush (door note : Nat) (w : Word) (s : State) : Host.Outcome State Fault Refusal :=
  if 3 ≤ note || !s.queueUp door then .next s
  else match s.producer door with
    | some x => .next (s.push door note w x)
    | none => .next s

/-- Door[d].Count[note] (Table 12-2). -/
def Note.count (n : Note) : Word :=
  mkWord [(39, 33, n.words.length), (32, 27, n.thresh), (26, 26, b2n (n.discard != 0 || !n.lost.isEmpty || n.words.any fun x => x.torn.isSome)), (25, 18, n.refused)]

/-- The message being taken is given up: its response, and its later words discarded as they arrive (R363, R391). -/
def State.dropTaking (s : State) (st : Status) : State :=
  match s.mail.taking with
  | none => s
  | some t =>
    let n := s.note t.door t.note
    let left := headerLen t.header - t.words.length
    let s := if left = 0 then s else s.setNote t.door t.note { n with discard := left, openLeft := 0 }
    let s := s.modMail fun m => { m with taking := none }
    if t.mute then s else s.respond t.door (fld t.header 39 28) (fld t.header 19 8) (fld t.header 7 0) t.session st []

/-- DOOR_WORD_TIMEOUT: a word due has not arrived 1 ms after the previous one was taken (R363). -/
def execDoorWordTimeout (s : State) : Host.Outcome State Fault Refusal :=
  .next (match s.mail.taking with
    | none => s
    | some t =>
      if t.words.length < headerLen t.header && decide (t.since + cyclesPerMs ≤ s.now) && !s.phokelStops then s.dropTaking .timeout else s)

/-- RESPONSE_RING_RELEASE: held responses go out while Rec[0] takes them (11 R345). -/
def execResponseRingRelease (s : State) : Host.Outcome State Fault Refusal := .next (s.rec0Release s.host.held.length)

/-! Load (R373). -/

/-- How long, in cycles, the oldest heart-note header has waited; none where there is none. -/
def State.heartWait (s : State) : Option Nat :=
  (List.range 4).foldl (fun (b : Option Nat) d =>
    match (s.note d 1).words with
    | x :: _ => match b with | some w => some (max w (s.now - x.at_)) | none => some (s.now - x.at_)
    | [] => b) none

/-- A new shed level and its entry. (log 117 DEDUCED) -/
def State.setShed (s : State) (n : Nat) : State :=
  let cross := decide (n < 2) != decide (s.mail.shed < 2)
  (s.modMail fun m => { m with shed := n, shedSince := s.now, loopSince := if cross then s.now else m.loopSince }).logPhokel evMc 0x80 n

/-- SHED_LEVEL_RISE (R373). (log 117 DEDUCED) -/
def execShedLevelRise (s : State) : Host.Outcome State Fault Refusal :=
  let w := s.heartWait.getD 0
  let isOver := match s.mail.shed with
    | 0 => decide (2 * cyclesPerMs < w) | 1 => decide (5 * cyclesPerMs < w) | 2 => decide (10 * cyclesPerMs < w) | _ => false
  .next (if isOver && s.doorsUp && !s.phokelStops then s.setShed (s.mail.shed + 1) else s)

/-- SHED_LEVEL_FALL (R373). (log 117 DEDUCED) -/
def execShedLevelFall (s : State) : Host.Outcome State Fault Refusal :=
  .next (if s.mail.shed != 0 && decide (s.heartWait.getD 0 < cyclesPerMs) && decide (s.mail.shedSince + cyclesPerS ≤ s.now) && !s.phokelStops then
      s.setShed (s.mail.shed - 1)
    else s)

/-- While the heart wait is 1 ms or more, the second of R373 does not run. -/
def State.stepShed (s : State) : State :=
  if s.mail.shed != 0 && decide (cyclesPerMs ≤ s.heartWait.getD 0) then s.modMail fun m => { m with shedSince := s.now } else s

/-! Sessions of the backbone door (08 R258 to R260). -/

/-- The fields of a datagram (Table 8-4): TYPE, SESSION, SEQ, body and TAG; none where it breaks the layout. -/
structure Dgram where
  session : Nat
  seq : Nat
  body : List Byte
  tag : List Byte
  deriving DecidableEq, Repr

/-- Read a datagram of a type whose TAG has `tag` bytes. -/
def dgramOf (type tag : Nat) (d : List Byte) : Option Dgram :=
  let len := beAt d 2 2
  if beAt d 0 1 = 1 && beAt d 1 1 == type && d.length == 16 + len + tag then
    some { session := beAt d 4 4, seq := beAt d 8 8, body := (d.drop 16).take len, tag := d.drop (16 + len) }
  else none

/-- The door is open on a port (R258; 13 Table 13-13, R400). -/
def State.doorOpenOn (s : State) (p : Nat) : Bool :=
  (s.bbp p).link && (s.bbp p).doorEn && s.doorsUp && (s.sec.lifecycle == .ownedOpen || s.sec.lifecycle == .ownedSealed) && s.sec.doorSecret.isSome &&
    s.ledger.pstate != .hold

/-- In RETIRED an enabled door answers REFUSED (13 R396). -/
def State.doorRetired (s : State) (p : Nat) : Bool := (s.bbp p).link && (s.bbp p).doorEn && s.doorsUp && s.sec.lifecycle == .retired

def State.authCount (s : State) (p : Nat) : State := s.modBb p fun b => { b with doorCounts := bump b.doorCounts 39 24 }

/-- REFUSED, and its count. -/
def State.doorRefuse (s : State) (p : Nat) (peer : Peer) (session seq : Nat) : State := (s.doorSend p peer (doorHeader 9 0 session seq)).authCount p

def setSession (l : List Session) (x : Session) : List Session := l.map fun y => if y.no = x.no then x else y

/-- What a session's signatures cover. (log 44 DESIGN CHOICE) -/
def Session.signed (x : Session) : List Byte := x.nc ++ x.nd ++ bytesBE 4 x.no

/-- A HELLO that is taken: a session number, a nonce and the device's signature. (log 86 DEDUCED) -/
def State.hello (s : State) (p : Nat) (peer : Peer) (slot : Nat) (nc : List Byte) : State :=
  let d := State.drawBytes 32 s
  let s := d.2
  let x : Session :=
    { no := s.bb.nextSession, bb := p, peer := peer, keySlot := slot, nc := nc, nd := d.1, isOpen := false, key := [], lastSeq := 0, ownSeq := 0, since := s.now }
  match s.keySign .identity "gv-door" x.signed with
  | (none, s) => s
  | (some sign, s) =>
    let s := { s with bb := { s.bb with sessions := s.bb.sessions ++ [x], nextSession := (s.bb.nextSession + 1) % 2 ^ 32 } }
    s.doorSend p peer (doorHeader 2 (x.nd ++ sign).length x.no 0 ++ (x.nd ++ sign))

/-- DOOR_HELLO: at most 16 a second, and 4 sessions. -/
def execDoorHello (bb : Nat) (peer : Peer) (dgram : List Byte) (s : State) : Host.Outcome State Fault Refusal :=
  onUnit 5 bb s
    (match dgramOf 1 0 dgram with
     | none => s
     | some d =>
       let slot := beAt d.body 0 1
       if d.body.length != 33 || d.session != 0 || decide (3 < slot) then s
       else if !s.doorOpenOn bb then
         (if s.doorRetired bb then s.doorRefuse bb peer 0 d.seq else s)
       else
         let new := s.bb.hellos = 0 || decide (s.bb.helloSince + cyclesPerS ≤ s.now)
         let s := { s with bb := { s.bb with sessions := s.bb.sessions.filter fun x => x.isOpen || decide (s.now < x.since + cyclesPerS)
                                             hellos := if new then 1 else s.bb.hellos + 1, helloSince := if new then s.now else s.bb.helloSince } }
         if 16 < s.bb.hellos || 4 ≤ s.bb.sessions.length then s.doorRefuse bb peer 0 d.seq else s.hello bb peer slot (d.body.drop 1))

/-- DOOR_OPEN: within 1 s, signed by the owner key of the slot. (log 85 DEDUCED) -/
def execDoorOpen (bb : Nat) (peer : Peer) (dgram : List Byte) (s : State) : Host.Outcome State Fault Refusal :=
  onUnit 5 bb s
    (match dgramOf 3 0 dgram with
     | none => s
     | some d =>
       if !s.doorOpenOn bb then (if s.doorRetired bb then s.doorRefuse bb peer d.session d.seq else s)
       else match s.bb.sessions.find? fun x => x.no == d.session && !x.isOpen && x.bb == bb && x.peer == peer with
         | none => s.doorRefuse bb peer d.session d.seq
         | some x =>
           let pub := (s.sec.ownerPub.getD x.keySlot none).getD []
           let good := decide (s.now ≤ x.since + cyclesPerS) && s.sec.ownerOk x.keySlot pub && ed448Verify pub "gv-door" (x.signed ++ bytesBE 5 s.chipId.toNat) d.body
           if !good then ({ s with bb := { s.bb with sessions := s.bb.sessions.filter fun y => y.no != x.no } }).doorRefuse bb peer d.session d.seq
           else
             let key := kmac256 (s.sec.doorSecret.getD []) x.signed 32 "gv-door-key"
             let s := { s with bb := { s.bb with sessions := setSession s.bb.sessions { x with isOpen := true, key := key, since := s.now } } }
             s.doorSend bb peer (doorTagged key 4 x.no 0 []))

/-- The session of a tagged datagram, where its TAG is good. -/
def State.tagged (s : State) (type : Nat) (d : Dgram) : Option Session :=
  match s.bb.sessions.find? fun x => x.no == d.session && x.isOpen with
  | none => none
  | some x => if doorTagged x.key type d.session d.seq d.body = doorHeader type d.body.length d.session d.seq ++ d.body ++ d.tag then some x else none

/-- Words of a MSG body. -/
def bodyWords (b : List Byte) : List Word := (List.range (b.length / 5)).map fun i => BitVec.ofNat 40 (beAt b (5 * i) 5)

/-- DOOR_MSG (R260). One that arrives in the cycle in which the session's 60 s expire, or later, is dropped (R261). (log 32 DEDUCED) -/
def execDoorMsg (bb : Nat) (peer : Peer) (dgram : List Byte) (s : State) : Host.Outcome State Fault Refusal :=
  onUnit 5 bb s
    (match dgramOf 5 32 dgram with
     | none => s
     | some d =>
       let note := beAt d.body 0 1
       let ws := bodyWords (d.body.drop 1)
       if !s.doorOpenOn bb then (if s.doorRetired bb then s.doorRefuse bb peer d.session d.seq else s)
       else match s.tagged 5 d with
         | none => s.authCount bb
         | some x =>
           if x.since + 60 * cyclesPerS ≤ s.now then s
           else if decide (2 < note) || d.body.length % 5 != 1 || ws.length != headerLen (pw ws 0) + 1 then s
           else if d.seq ≤ x.lastSeq then s.modBb bb fun b => { b with doorCounts := bump b.doorCounts 23 8 }
           else if 64 < (s.note 1 note).words.length + ws.length then s.doorSend bb peer (doorTagged x.key 7 x.no d.seq [])
           else
             let s := { s with bb := { s.bb with sessions := setSession s.bb.sessions { x with lastSeq := d.seq, since := s.now } } }
             ws.foldl (fun (s : State) w => s.push 1 note w x.no) s)

/-- DOOR_CLOSE. -/
def execDoorClose (bb : Nat) (peer : Peer) (dgram : List Byte) (s : State) : Host.Outcome State Fault Refusal :=
  let _ := peer
  onUnit 5 bb s
    (match dgramOf 8 32 dgram with
     | none => s
     | some d =>
       if !s.doorOpenOn bb then s
       else match s.tagged 8 d with
         | none => s
         | some x => s.sessionsClose fun y => y.no == x.no)

/-- DOOR_SESSION_IDLE: 60 s without a MSG. -/
def execDoorSessionIdle (session : Nat) (s : State) : Host.Outcome State Fault Refusal :=
  .next (s.sessionsClose fun x => x.no == session && x.isOpen && decide (x.since + 60 * cyclesPerS ≤ s.now))

end Sys2Proof.Machine
end

