-- ==== Sys2Proof/Machine/Flash.lean ====
section
/-! DEFINITION. The boot flash: boot record, configuration area and flash map (13_security.md R401, R402, R407, R409). -/
namespace Sys2Proof.Machine

def zeroBytes (n : Nat) : List Byte := List.replicate n 0
def bytesAt (l : List Byte) (off n : Nat) : List Byte := (l.drop off).take n
def leAt (l : List Byte) (off n : Nat) : Nat := natLE (bytesAt l off n)

/-! The boot record (R402). -/

/-- Bytes 0 to 17 of a copy; the rest of its 4 KiB is 0. -/
def BootRecord.bytes (r : BootRecord) : List Byte :=
  let body := ascii "GVBR" ++ bytesLE 8 r.seq ++ [BitVec.ofNat 8 r.active, BitVec.ofNat 8 r.tryByte]
  body ++ bytesLE 4 (crc32c body).toNat

/-- The copy of 4096 bytes is one whose CRC is good. -/
def bootRecordGood (b : List Byte) : Bool := b.take 4 == ascii "GVBR" && leAt b 14 4 == (crc32c (b.take 14)).toNat

/-- A record is written over the copy with the older SEQ. -/
def Security.writeBoot (x : Security) (active tryByte : Nat) : Security :=
  let r : BootRecord := { seq := x.bootSeq + 1, active, tryByte }
  let x := { x with bootSeq := r.seq, active, tryByte }
  if x.bootA.seq ≤ x.bootB.seq then { x with bootA := r } else { x with bootB := r }

/-- The copy that the boot ROM takes: the one with the higher SEQ whose CRC is good. -/
def Security.bootCopy (x : Security) (goodA goodB : Bool) : Option BootRecord :=
  if goodA && (!goodB || decide (x.bootB.seq ≤ x.bootA.seq)) then some x.bootA
  else if goodB then some x.bootB
  else none

/-- A copy of the boot record is in force. -/
def Security.takeBoot (x : Security) (r : BootRecord) : Security := { x with bootSeq := r.seq, active := r.active, tryByte := r.tryByte }

/-! The configuration area (R402, R407). -/

/-- The identity certificate of Table 13-10: the vendor's key and signature are the device's own constants. -/
def State.identityCert (s : State) : List Byte :=
  ascii "GVIC" ++ [1] ++ zeroBytes 3 ++ bytesLE 5 s.chipId.toNat ++ zeroBytes 3 ++ deviceId ++ identityPub ++ zeroBytes 7 ++
    (List.range 57).map Config.vendorCert ++ zeroBytes 103 ++ (List.range 114).map (fun i => Config.vendorCert (57 + i)) ++ zeroBytes 14

/-- The area as read: its items, as a layout that the manual does not give places them. (log 169 DESIGN CHOICE) -/
def State.configArea (s : State) : List Byte :=
  Config.configArea s.identityCert s.sec.commissionStored s.sec.doorSecretStored s.sec.lastSeq

/-- M5 (R407). (log 169 DESIGN CHOICE) -/
def State.measM5 (s : State) : List Byte := shake256 s.configArea 64

/-! The flash map (Table 13-6). -/

inductive FlashRegion where
  | recordA | recordB | config | slotA | slotB | reserved
  deriving DecidableEq, Repr

/-- Offset, size and content of the regions. -/
def flashMap : List (Nat × Nat × FlashRegion) :=
  [(0x0000000, 0x1000, .recordA), (0x0001000, 0x1000, .recordB), (0x0010000, 0x100000, .config), (0x0400000, 28 * 1048576, .slotA),
    (0x2000000, 28 * 1048576, .slotB), (0x3C00000, 4 * 1048576, .reserved)]

/-- What the device has written of a region, from its first byte on. -/
def State.flashRegion (s : State) : FlashRegion → List Byte
  | .recordA => s.sec.bootA.bytes
  | .recordB => s.sec.bootB.bytes
  | .config => s.configArea
  | .slotA => (s.sec.slots.getD 0 { image := [], staged := false }).image
  | .slotB => (s.sec.slots.getD 1 { image := [], staged := false }).image
  | .reserved => []

/-- The region of a flash offset, and the offset in it. -/
def flashPlace (offset : Nat) : Option (FlashRegion × Nat) :=
  (flashMap.find? fun r => decide (r.1 ≤ offset ∧ offset < r.1 + r.2.1)).map fun r => (r.2.2, offset - r.1)

/-! The ROLLBACK fuses (R412). -/

/-- Writing one ROLLBACK fuse takes 50 µs, in cycles (R412). (log 167 DESIGN CHOICE) -/
def fuseCycles : Nat := 12500

/-- VERSION w0 (12 Table 12-5). (log 88 DEDUCED) -/
def Security.version0 (x : Security) : Word :=
  mkWord [(39, 32, x.major), (31, 24, x.minor), (23, 8, x.patch), (7, 7, x.active)]

/-- An activation has ended well: its response (R411). -/
def State.activated (s : State) : State := (s.modSec fun x => { x with activation := none }).finishWait .fwActivate .ok [s.sec.version0]

/-- The ROLLBACK fuse being written is complete; the next one follows, and after the last the event and the response (R411, R412). (log 167 DESIGN CHOICE) -/
def State.fuseDone (s : State) (f : FuseRun) : State :=
  let n := s.sec.rollback + 1
  let more := decide (n < f.target)
  let s := s.modSec fun x => { x with rollback := n, fuses := if more then some { f with doneAt := s.now + fuseCycles } else none }
  if more then s
  else
    let s := s.raiseSec 7 n
    if s.sec.activation.isSome && !s.rst.coreReset then s.activated else s

end Sys2Proof.Machine
end

