-- ==== Sys2Proof/Machine/RingCommands.lean ====
section
/-! DEFINITION. The ring's commands and the events of its drives (09_sillage_ring.md; 12_mailbox_and_commands.md R386). -/
namespace Sys2Proof.Machine

/-! Registers (Table 9-11). -/

def RingState.code : RingState → Nat
  | .off => 0 | .recovering => 1 | .run => 2 | .stopped => 3 | .sealed => 4 | .noDrive => 5

/-- Ring.Status. -/
def State.ringStatus (s : State) : Word :=
  let r := s.ring
  let seg := match r.filling, r.span with | some g, _ => g.index | none, some sp => r.nextSsn - sp.firstSsn | none, none => 0
  mkWord [(39, 37, r.state.code), (36, 33, maskOf r.members), (32, 25, seg), (24, 20, r.windows.length),
    (19, 19, b2n (s.rst.phokel && decide (s.ledger.allow < r.unsealedMax))), (18, 18, b2n r.retrieval.isSome)]

/-- Ring.NextSsn: the SSN of the filling segment. -/
def Ring.fillingSsn (r : Ring) : Nat := match r.filling with | some g => g.ssn | none => r.nextSsn

/-! Formation. -/

/-- A drive stands ready: accepted at detection (R263). (log 113 DEDUCED) -/
def Drive.ready (d : Drive) : Bool := d.state == .spare || d.state == .member

/-- The ring's own state at the start of a RING_ID. (log 165 DESIGN CHOICE) -/
def Ring.fresh (r : Ring) (id : BitVec 128) (members : List Nat) (slots : Nat) : Ring :=
  let r := members.foldl (fun (r : Ring) d => r.setDrive d { r.drive d with state := .member, writeSlot := 1, drained := false, inReset := false }) r
  { r with state := .off, starting := none, resumeRun := false, ringId := id, formatted := true, sealPub := ed448Pub (sealSeed id), slots := slots, members := members
           nextSsn := 0, chain := chainStart id, span := none, nextSpan := 0, segments := [], openRecs := [], live := []
           closedSpans := [], spanRecs := [], windows := [], u := 0, retrieval := none }

def minNat : List Nat → Nat
  | [] => 0
  | a :: r => r.foldl min a

/-- Four draws of 32 bits as one number of 128 bits (R268). -/
def State.drawRingId (s : State) : BitVec 128 × State :=
  let b := s.drawBytes 16
  (BitVec.ofNat 128 (natLE b.1), b.2)

/-- LBAs 18 to 255 of slot 0 of a new member hold zeroes (R267). -/
def Ring.zeroSlot0 (now : Nat) (r : Ring) (ms : List Nat) : Ring := ms.foldl (fun (r : Ring) d => r.submit now d .format .writeZeroes 18 238 []) r

/-- Both copies of the label are written, so that no other ring's label stands on a new member (R268). (log 165 DESIGN CHOICE) -/
def Ring.labelBoth (now : Nat) (r : Ring) : Ring := (r.writeLabels now).writeLabels now

/-- RING_FORMAT. (log 113 DEDUCED) -/
def execRingFormat (m : Msg) (s : State) : Host.Outcome State Fault Refusal :=
  .next (mailRun 0x500 permitR0 m s false
    (lenIs m 2 && m.w 0 == 0x464F524D00 && zeroFld (m.w 1) 35 0 && fld (m.w 1) 39 36 != 0 &&
      decide (fld (m.w 1) 39 36 < 2 ^ s.variant.drives)) fun s =>
    let ms := bitsOf 4 (fld (m.w 1) 39 36)
    if !(s.ring.state == .off || s.ring.state == .stopped) || !s.sec.keysUp || !(ms.all fun d => (s.ring.drive d).ready) then .done .state [] s
    else
      let x := s.drawRingId
      let slots := min 131071 (minNat (ms.map fun d => (s.ring.drive d).slots))
      let old := s.ring.members.filter fun d => !ms.contains d
      let s := old.foldl (fun (s : State) d => s.modDrive d fun y => { y with state := if y.state == .member then .spare else y.state }) x.2
      .wait .ringFormat (s.modRing fun r => ((r.fresh x.1 ms slots).zeroSlot0 s.now ms).labelBoth s.now))

/-! Starting (R291). -/

/-- A little-endian field of an image. -/
def leOf (b : List Byte) (off n : Nat) : Nat := natLE ((b.drop off).take n)

/-- A Device Time of 10 bytes (R267), in ns. -/
def timeOf (b : List Byte) (off : Nat) : Nat := let v := leOf b off 10; v / 2 ^ 32 * 1000000000 + v % 2 ^ 32

def idOf (b : List Byte) (off : Nat) : BitVec 128 := BitVec.ofNat 128 (leOf b off 16)

/-- A copy of a label whose CHECK is good (R268, Table 9-2). -/
def labelGood (b : List Byte) : Bool :=
  b.length == 4096 && b.take 4 == ascii "GVRL" && leOf b 4 1 == 1 && leOf b 4092 4 == (crc32c (b.take 4092)).toNat

/-- The copy that a reader takes: the higher LABEL_SEQ whose CHECK is good (R268). -/
def labelOf (a b : List Byte) : Option (List Byte) :=
  if labelGood a && (!labelGood b || decide (leOf b 8 8 ≤ leOf a 8 8)) then some a else if labelGood b then some b else none

/-- The label found on a drive. -/
def foundLabel (f : RingFound) (d : Nat) : Option (List Byte) := (f.labels.lookup d).bind fun x => labelOf x.1 x.2

/-- Drives that stand ready. -/
def State.readyDrives (s : State) : List Nat := (List.range s.variant.drives).filter fun d => (s.ring.drive d).ready

/-- RING_ID of the ring found: that of the lowest drive with a good label. (log 126 DESIGN CHOICE) -/
def State.foundId (s : State) (f : RingFound) : Option (BitVec 128) := (s.readyDrives.findSome? fun d => foundLabel f d).map fun b => idOf b 16

/-- Members of a ring that are present: labelled in this session, or found with its label. -/
def State.presentMembers (s : State) (f : RingFound) (id : BitVec 128) : List Nat :=
  s.readyDrives.filter fun d => s.ring.members.contains d || (foundLabel f d).any fun b => idOf b 16 == id

/-- The label with the highest LABEL_SEQ among the members. (log 126 DESIGN CHOICE) -/
def newestLabel (f : RingFound) (ms : List Nat) : List Byte :=
  (ms.filterMap fun d => foundLabel f d).foldl (fun a b => if a.isEmpty || decide (leOf a 8 8 < leOf b 8 8) then b else a) []

/-- A label's window table (Table 9-2), under the windows that Phokel holds (R286, R299). -/
def mergeWindows (label : List Byte) (held : List (Nat × Window)) : List (Nat × Window) :=
  let fromLabel := (List.range 16).filterMap fun i =>
    let at_ := 128 + 32 * i
    let st := leOf label (at_ + 20) 1
    if st = 1 || st = 2 then
      some (i, ({ state := if st = 2 then .held else .pending, start := timeOf label at_, stop := timeOf label (at_ + 10)
                  trigger := leOf label (at_ + 21) 1, ext := none } : Window))
    else none
  (held ++ fromLabel.filter fun x => !held.any fun y => y.1 == x.1).foldl (fun l x => bankPut x.1 x.2 l) []

/-- A span record's signature and chain verify (R293). -/
def spanVerifies (pub image : List Byte) : Bool :=
  let head := image.take 19456
  let first := leOf image 40 8
  let chain := (List.range (leOf image 8 2)).foldl (fun c i => chainNext c ((image.drop (3072 + 64 * i)).take 64) (first + i)) ((image.drop 100).take 64)
  ed448Verify pub "gv-seal" head ((image.drop 19456).take 114) && chain == (image.drop 164).take 64

/-- The fields of a span record of this ring that the writer keeps (Table 9-6). -/
def spanRecOf (id : BitVec 128) (b : List Byte) : Option SpanRec :=
  if b.length == 20480 && b.take 4 == ascii "GVSP" && idOf b 16 == id then
    some { no := leOf b 32 8, dirSlot := leOf b 10 2, firstSsn := leOf b 40 8, count := leOf b 8 2, reason := leOf b 5 1, image := b }
  else none

/-- The span records of the directories, by number: of several with one number, one that verifies. -/
def foundSpans (id : BitVec 128) (f : RingFound) : List SpanRec :=
  let all := f.records.filterMap (spanRecOf id)
  let good := fun (x : SpanRec) => spanVerifies (ed448Pub (sealSeed id)) x.image
  let once := (all.filter good ++ all.filter fun x => !good x).foldl (fun (l : List SpanRec) x => if l.any fun y => y.no == x.no then l else l ++ [x]) []
  sortByKey (fun x => x.no) once

/-- The span with the highest SPAN and a good signature (R291). -/
def lastSpan (id : BitVec 128) (l : List SpanRec) : Option SpanRec :=
  l.reverse.find? fun x => spanVerifies (ed448Pub (sealSeed id)) x.image

/-- A slot's open block is intact and names this segment (R291, Table 9-3). -/
def openIntact (id : BitVec 128) (x : FoundSlot) (ssn : Nat) : Bool :=
  let b := x.image
  b.length == 67108864 && b.take 4 == ascii "GVSG" && leOf b 4 1 == 1 && leOf b 5 1 == x.drive && leOf b 8 8 == ssn && idOf b 16 == id && leOf b 40 4 == x.slot

/-- D_n of a segment image (R274). -/
def imageDigest (b : List Byte) : List Byte := shake256 (b.take 67108736) 64

/-- A segment that RING_START accepts as sealed: open and close block intact, digest and chain right (R291). -/
def slotSealed (id : BitVec 128) (prev : List Byte) (ssn : Nat) (x : FoundSlot) : Bool :=
  let b := x.image
  openIntact id x ssn && leOf b 67104768 8 == ssn && (b.drop 67108736).take 64 == imageDigest b &&
    (b.drop 67108800).take 64 == chainNext prev (imageDigest b) ssn

/-- Capture times of a segment image, from its close block. -/
def imageTimes (b : List Byte) : Nat × Nat := (timeOf b (67104768 + 24), timeOf b (67104768 + 34))

/-- Segments accepted from an SSN on, at most a span of them (R275, R291), with the chain after them. -/
def acceptSegs (id : BitVec 128) (slots : List FoundSlot) : Nat → Nat → List Byte → List (FoundSlot × SpanSeg) × List Byte
  | 0, _, c => ([], c)
  | n + 1, ssn, c =>
    match slots.find? (slotSealed id c ssn) with
    | none => ([], c)
    | some x =>
      let dg := imageDigest x.image
      let c' := chainNext c dg ssn
      let r := acceptSegs id slots n (ssn + 1) c'
      ((x, { drive := x.drive, slot := x.slot, lost := false, digest := some dg, chain := some c' }) :: r.1, r.2)

/-- The segments of a span record, with the capture times of their slots (Table 9-6). -/
def SpanRec.segs (x : SpanRec) (slots : List FoundSlot) : List LiveSeg :=
  (List.range x.count).map fun i =>
    let d := leOf x.image (1024 + 8 * i) 1
    let k := leOf x.image (1028 + 8 * i) 4
    let t := match slots.find? fun y => y.drive == d && y.slot == k && leOf y.image 67104768 8 == x.firstSsn + i with
      | some y => imageTimes y.image
      | none => (1, 0)
    { ssn := x.firstSsn + i, span := x.no, drive := d, slot := k, capMin := t.1, capMax := t.2, lost := (leOf x.image 68 32).testBit i }

/-- Segments whose slots no later one has taken. -/
def newestInSlots (l : List LiveSeg) : List LiveSeg :=
  l.foldl (fun (a : List LiveSeg) x => (a.filter fun y => !(y.drive == x.drive && y.slot == x.slot)) ++ [x]) []

/-- The write pointer of a drive: the slot after its newest segment (R269). -/
def pointerAfter (l : List LiveSeg) (slots d : Nat) : Nat :=
  match (l.filter fun x => x.drive == d).getLast? with
  | some x => if x.slot < slots then x.slot + 1 else 1
  | none => 1

/-- DATA of a trouble-log entry with both values of a capacitance check (10 R308). -/
def Ledger.capEntry (l : Ledger) (inHold : Bool) : Nat := l.capUf * 2 ^ 44 + l.capMeasUf * 2 ^ 24 + b2n inHold * 2 ^ 23

/-- LEDGER_DEGRADED and its entry (10 R308). -/
def State.degrade (s : State) (inHold : Bool) : State :=
  ((s.modLedger fun l => { l with degraded := true }).raiseLog evPower 3 0 (s.ledger.capEntry inHold)).attn attnLedger

/-- CAP_MEAS_UF fails the tolerance (10 R308). -/
def Ledger.fails (l : Ledger) : Bool := l.capMeasUf != 0 && decide (l.capMeasUf * 100 < l.capUf * (100 - l.capTolPct))

/-- A HOLD measurement found in the log tail (10 R308). -/
def State.applyHoldCap (s : State) (cap : Option Nat) : State :=
  match cap with
  | none => s
  | some c =>
    let s := s.modLedger fun l => { l with capMeasUf := c }
    if s.ledger.fails then s.degrade true else s

/-- The ring as RING_START finds it: the last span with a good signature, and the segments to be signed as RECOVERED (R291). (log 145 DESIGN CHOICE) -/
def State.ringFind (s : State) (f : RingFound) (id : BitVec 128) (ms : List Nat) : State :=
  let label := newestLabel f ms
  let recs := foundSpans id f
  let last := lastSpan id recs
  let firstSsn := match last with | some x => x.firstSsn + x.count | none => 0
  let no := match last with | some x => x.no + 1 | none => 0
  let prev := match last with | some x => (x.image.drop 164).take 64 | none => chainStart id
  let good := acceptSegs id f.slots 256 firstSsn prev
  let taken : List LiveSeg := good.1.zipIdx.map fun g =>
    let t := imageTimes g.1.1.image
    { ssn := firstSsn + g.2, span := no, drive := g.1.1.drive, slot := g.1.1.slot, capMin := t.1, capMax := t.2, lost := false }
  let live := newestInSlots ((recs.flatMap fun x => x.segs f.slots) ++ taken)
  let slots := leOf label 32 4
  let s := s.modRing fun r =>
    let r := ms.foldl (fun (r : Ring) d => r.setDrive d { r.drive d with state := .member, writeSlot := pointerAfter live slots d, labelNext := (f.labels.lookup d).any fun x => labelOf x.1 x.2 == some x.1 }) r
    { r with ringId := id, formatted := true, sealPub := ed448Pub (sealSeed id), members := ms, labelSeq := leOf label 8 8, slots := slots
             nextSsn := firstSsn + good.1.length, chain := good.2, nextSpan := no, spanRecs := recs, live := live
             windows := mergeWindows label r.windows, labelDue := true }
  if good.1.isEmpty then s
  else
    s.modRing fun r =>
      { r with nextSpan := no + 1
               closedSpans := [{ no := no, reason := 6, members := ms, firstSsn := firstSsn, count := good.1.length
                                 dirSlot := r.freeDirSlot (last.map fun x => x.dirSlot), openTime := s.dtNs, closeTime := s.dtNs, closedAt := s.now
                                 prevChain := prev, debugOpen := s.debugSpan, segs := good.1.map fun x => x.2 }] }

/-- Recording resumes at the next SSN. -/
def State.ringRun (s : State) : State := (s.modRing fun r => { r with state := .run }).openSpan s.ring.members

/-- RING_START has read what it needs: the ring runs, or first signs a RECOVERED span; with no member found it ends (R291). (log 166 DEDUCED) -/
def State.ringStarted (s : State) (x : Starting) : State :=
  let s := s.modRing fun r => { r with starting := none }
  let r := s.ring
  let again := r.formatted && (x.was == .stopped || !r.live.isEmpty || r.nextSsn != 0)
  let id := if r.formatted then some r.ringId else s.foundId x.found
  let ms := match id with | some id => s.presentMembers x.found id | none => []
  if ms.isEmpty then (s.modRing fun r => { r with state := x.was }).finishWait .ringStart .state
  else
    let s := if r.formatted then s.modRing fun r => { r with members := ms, labelDue := r.labelDue || again } else s.ringFind x.found (id.getD 0) ms
    let s := ((s.modRing fun r => { r with labelHeld := false }).trimWindows).applyHoldCap x.found.holdCapUf
    if s.ring.closedSpans.isEmpty then
      let last := if s.ring.nextSpan = 0 then s.draw else (s.ring.nextSpan - 1, s)
      let s := last.2.ringRun
      s.finishWait .ringStart .ok [s.ringStatus, BitVec.ofNat 40 last.1]
    else s

/-- Where no Read of RING_START is outstanding any more, it goes on. -/
def State.startNext (s : State) : State :=
  match s.ring.starting with
  | some x => if (s.ring.nvme ++ s.ring.nvmeWait).any fun c => c.for_ == .start then s else s.ringStarted x
  | none => s

/-- Reads of a RING_START: labels, log tail and directory of a drive, and its slots that are read ahead (R264, R267, R291). -/
def Ring.startReads (now : Nat) (r : Ring) (found : RingFound) (d : Nat) : Ring :=
  let r := ((r.submitReads now d .start 0 2).submitReads now d .start 2 16).submitReads now d .start 256 16125
  (found.slots.filter fun x => x.drive == d).foldl (fun (r : Ring) x => r.submitReads now d .start (slotLba x.slot) 16384) r

/-- What a Read of RING_START that has failed would have returned is missing: both copies of the label, or a slot. Span records stand on every member. (log 166 DEDUCED) -/
def foundWithout (x : RingFound) (d lba : Nat) : RingFound :=
  if lba = 0 then { x with labels := x.labels.filter fun l => l.1 != d }
  else { x with slots := x.slots.filter fun y => !(y.drive == d && y.slot == lba / 16384) }

/-- RING_START reads the labels, log tails and directories of the drives that stand ready, and the slots after the last span (R291). `found` is what
they hold. (log 166 DEDUCED) -/
def execRingStart (m : Msg) (found : RingFound) (s : State) : Host.Outcome State Fault Refusal :=
  .next (mailRun 0x501 permitR m s false (lenIs m 0) fun s =>
    let r := s.ring
    let up := r.state == .run || r.state == .recovering || r.state == .noDrive
    let ds := s.readyDrives
    if up || !s.sec.keysUp || ds.isEmpty then .done .state [] s
    else if !r.closedSpans.isEmpty then .done .busy [] s
    else .wait .ringStart (s.modRing fun r =>
      ds.foldl (fun (r : Ring) d => r.startReads s.now found d) { r with state := .recovering, starting := some { found := found, was := r.state } }))

/-- The writer stops: open records end without a TAG piece, and the span closes with reason STOP (R386, 10 R298). -/
def State.ringHalt (s : State) : State :=
  let s := s.ring.openRecs.foldl (fun s o => (s.recFlush o false).2.recDrop ((s.recFlush o false).1)) s
  (s.closeSpan 2 none).modRing fun r => { r with state := .stopped }

/-- RING_STOP. -/
def execRingStop (m : Msg) (s : State) : Host.Outcome State Fault Refusal :=
  .next (mailRun 0x502 permitR m s false (lenIs m 0) fun s =>
    if !(s.ring.state == .run || s.ring.state == .noDrive) then .done .state [] s
    else if s.ring.span.isSome then .wait .ringStop s.ringHalt
    else .done .ok [BitVec.ofNat 40 (s.ring.nextSpan - 1)] (s.modRing fun r => { r with state := .stopped }))

/-- RING_CFG (R283). -/
def execRingCfg (m : Msg) (s : State) : Host.Outcome State Fault Refusal :=
  .next (mailRun 0x503 permitR m s false (lenIs m 1 && zeroFld (m.w 0) 33 0 && within 2 32 (fld (m.w 0) 39 34)) fun s =>
    let s' := s.modRing fun r => { r with unsealedMax := fld (m.w 0) 39 34 * 67108864 }
    if s'.ringPlanOk then okNext s' else .done .noResource [] s)

/-- The reasons of R279 for which a plan is refused, whatever its ENABLE: those of an unbound context follow from the reset values of its binding. -/
def State.planRefused (s : State) (c : Nat) (w : Word) : Bool :=
  let b := (s.ctx c).bind
  if bit w 38 then b.kind == 3 || !(s.planRec c 1).sillage else !b.toRing

/-- RING_PLAN (R278, R279, R283). (log 112 DEDUCED) -/
def execRingPlan (m : Msg) (s : State) : Host.Outcome State Fault Refusal :=
  let c := fld (m.w 0) 39 32
  let w := m.w 1
  .next (mailRun 0x504 permitR m s false
    (lenIs m 2 && zeroFld (m.w 0) 31 0 && ctxArg s c && zeroFld w 24 0 &&
      !s.planRefused c w) fun s =>
    if (s.ctx c).state == .unbound then
      if bit w 39 then .done .state [] s else okNext (s.modRing fun r => { r with plans := bankSet (fun _ => 0) r.plans c w })
    else
      let s' := s.modRing fun r => { r with planPending := bankPut c (Due.accept s.now (r.planPending.lookup c) w) r.planPending }
      if s'.ringPlanOk then okNext s' else .done .noResource [] s)

/-! Windows. -/

/-- RING_FREEZE (R284 to R286). -/
def execRingFreeze (m : Msg) (s : State) : Host.Outcome State Fault Refusal :=
  let now := bit (m.w 0) 13
  let t := if now then some s.dtNs else ptpNs (m.w 1) (m.w 2)
  .next (mailRun 0x505 permitRLB m s false
    (lenIs m 3 && zeroFld (m.w 0) 12 0 && t.isSome && (!now || (m.w 1 == 0 && m.w 2 == 0))) fun s =>
    match s.freeze (t.getD 0) (fld (m.w 0) 39 27 * 100000000) (fld (m.w 0) 26 14 * 100000000) 0xFF 0xFFF with
    | (some i, s) => .done .ok [mkWord [(39, 36, i)]] s
    | (none, s) => .done .noResource [] s)

/-- RING_RELEASE. -/
def execRingRelease (m : Msg) (s : State) : Host.Outcome State Fault Refusal :=
  let i := fld (m.w 0) 39 36
  .next (mailRun 0x506 permitRL m s false (lenIs m 1 && zeroFld (m.w 0) 35 0) fun s =>
    match s.ring.windows.lookup i with
    | none => .done .state [] s
    | some w => okNext (s.releaseWindow i w))

/-- RING_WINDOW. -/
def execRingWindow (m : Msg) (s : State) : Host.Outcome State Fault Refusal :=
  .next (mailRun 0x508 permitRLB m s false (lenIs m 1 && zeroFld (m.w 0) 35 0) fun s =>
    match s.ring.windows.lookup (fld (m.w 0) 39 36) with
    | none => .done .ok [0, 0, 0, 0, 0] s
    | some w =>
      .done .ok ([mkWord [(39, 38, if w.state == .held then 2 else 1), (37, 30, w.trigger)]] ++ ptpWords w.start ++ ptpWords w.stop) s)

/-! Retrieval (R292). -/

/-- The data ring of a retrieval as Engine 30's Channel 0. -/
def retrievalChannel (c : Channel) (addr size : Nat) : Channel :=
  { c.closed 960 with enable := true, dir := 0, size := size, ringLo := BitVec.ofNat 40 addr, ringHi := BitVec.ofNat 40 (addr / 2 ^ 40)
                      state := .empty, fetching := true }

/-- An item that is delivered without an image: LOST or OVERWRITTEN. -/
def State.noImage (s : State) (x : Retrieval) : Option Nat :=
  if x.bySpan then (if s.ring.spanRecs.any fun r => r.no == x.next then none else some 4)
  else match s.ring.live.find? fun l => l.ssn == x.next with
    | some l => if l.lost then some 3 else none
    | none => some 4

/-- The item can be read now: a span record is signed, a segment sealed. -/
def State.itemReady (s : State) (x : Retrieval) : Bool :=
  if x.bySpan then !(s.ring.closedSpans.any fun c => c.no == x.next) && !(s.ring.span.any fun sp => sp.no == x.next)
  else match s.ring.segments.find? fun g => g.ssn == x.next with | some g => g.sealed | none => true

/-- Where a retrieval's next item lies: drive, first LBA, blocks (R267, R292); none where its drive is not
there. A drained drive stays readable until it is re-admitted (15 R454). -/
def Ring.itemPlace (r : Ring) (x : Retrieval) : Option (Nat × Nat × Nat) :=
  if x.bySpan then
    match r.members, r.spanRecs.find? fun y => y.no == x.next with
    | d :: _, some y => some (d, dirLba y.dirSlot, 5)
    | _, _ => none
  else match r.live.find? fun l => l.ssn == x.next with
    | some l => if (r.drive l.drive).ready then some (l.drive, slotLba l.slot, 16384) else none
    | none => none

/-- Read the next item from its drive, once an image of it lies there (R292). -/
def State.nextRead (s : State) : State :=
  match s.ring.retrieval with
  | none => s
  | some x =>
    if x.reading || x.awaiting.isSome || !s.itemReady x || (s.noImage x).isSome then s
    else match s.ring.itemPlace x with
      | none => s.modRing fun r => { r with retrieval := some { x with reading := true, failed := true } }
      | some (d, lba, n) =>
        s.modRing fun r => { r with retrieval := some { x with reading := true } }.submitReads s.now d (.item x.next) lba n

/-- Reads of an item that have not completed. -/
def Ring.itemReads (r : Ring) (no : Nat) : Bool := (r.nvme ++ r.nvmeWait).any fun c => c.for_ == .item no

/-- RING_READ with RR other than 0. -/
def execRingRead (m : Msg) (s : State) : Host.Outcome State Fault Refusal :=
  if fld (m.w 0) 38 23 = 0 then .refused (.illFormed "RING_READ with RR 0")
  else
    let bySpan := bit (m.w 0) 39
    let first := (m.w 1).toNat
    let last := (m.w 2).toNat
    let stop := if bySpan then s.ring.nextSpan else s.ring.nextSsn
    .next (mailRun 0x507 permitR0 m s false
      (lenIs m 7 && zeroFld (m.w 0) 14 0 && within 2 15 (fld (m.w 0) 22 19) && within 4 15 (fld (m.w 0) 18 15) &&
        hostAddrOk (m.w 4) && hostAddrOk (m.w 6) && decide (first ≤ last) && (!s.ring.formatted || decide (last < stop))) fun s =>
      if !s.ring.formatted then .done .state [] s
      else if s.ring.retrieval.isSome then .done .busy [] s
      else
        let x : Retrieval :=
          { bySpan := bySpan, rate := fld (m.w 0) 38 23, next := first, last := last, dataAddr := hostAddr (m.w 3) (m.w 4)
            dataSize := fld (m.w 0) 22 19, verdictAddr := hostAddr (m.w 5) (m.w 6), verdictSize := fld (m.w 0) 18 15
            verdictWritten := 0, awaiting := none, reading := false, failed := false }
        let s' := s.modRing fun r => { r with retrieval := some x }
        if s'.ringPlanOk then okNext (s'.modChan 30 0 fun c => retrievalChannel c x.dataAddr x.dataSize).nextRead else .done .noResource [] s)

/-- A retrieval ends: its image in flight is given up. -/
def State.endRetrieval (s : State) : State :=
  (s.modEngine 30 fun x => { x with readbacks := x.readbacks.filter fun r => r.kind != .image }).modChan 30 0 (Channel.closed 960)
    |>.modRing fun r => { r with retrieval := none }

/-- RING_READ with RR 0. -/
def execRingReadEnd (m : Msg) (s : State) : Host.Outcome State Fault Refusal :=
  if fld (m.w 0) 38 23 ≠ 0 then .refused (.illFormed "RING_READ with RR other than 0")
  else
    .next (mailRun 0x507 permitR0 m s false (lenIs m 7 && zeroFld (m.w 0) 14 0 && hostAddrOk (m.w 4) && hostAddrOk (m.w 6)) fun s =>
      okNext (if s.ring.retrieval.isSome then s.endRetrieval else s))

/-- Write the verdict of the current item, and go on to the next (R292, Table 9-8, 11 R344). -/
def State.verdict (s : State) (v : Nat) : State :=
  match s.ring.retrieval with
  | none => s
  | some x =>
    let prot :=
      if x.bySpan then
        match s.ring.spanRecs.find? fun r => r.no == x.next with
        | some sp => s.ring.live.any fun l => decide (sp.firstSsn ≤ l.ssn) && decide (l.ssn < sp.firstSsn + sp.count) && s.ring.protects l.capMin l.capMax
        | none => false
      else s.ring.live.any fun l => l.ssn == x.next && s.ring.protects l.capMin l.capMax
    let w1 := mkWord [(39, 36, v), (35, 35, b2n x.bySpan), (34, 34, b2n prot)]
    let s := s.hostWrite (x.verdictAddr + 16 * (x.verdictWritten % 2 ^ x.verdictSize)) (hostForms [BitVec.ofNat 40 x.next, w1])
    let n := x.verdictWritten + 1
    let s := s.hostWrite (x.verdictAddr + 16 * 2 ^ x.verdictSize) (bytesLE 8 (n % 2 ^ 20))
    let s := s.modRing fun r => { r with retrieval := some { x with verdictWritten := n, next := x.next + 1, awaiting := none, reading := false, failed := false } }
    if x.next = x.last then s.endRetrieval else s.nextRead

/-- The verdict on an item whose image was read (Table 9-9). -/
def State.judge (s : State) (x : Retrieval) (image : List Byte) : Nat :=
  if x.bySpan then
    if !spanVerifies s.ring.sealPub image then 6 else if natLE ((image.drop 5).take 1) = 6 then 1 else 0
  else
    let d := shake256 (image.take 67108736) 64
    match s.ring.spanRecs.find? fun r => decide (r.firstSsn ≤ x.next) && decide (x.next < r.firstSsn + r.count) with
    | some sp =>
      if !spanVerifies s.ring.sealPub sp.image then 6
      else if d != (sp.image.drop (3072 + 64 * (x.next - sp.firstSsn))).take 64 then 5
      else if sp.reason = 6 then 1 else 0
    | none =>
      match s.ring.segments.find? fun g => g.ssn == x.next with
      | some g => if g.digest == some d then 2 else 5
      | none => 5

/-- RETRIEVAL_ITEM (R292): the next item, once its Reads have completed, with its image as the drive returned it; without one where the
drive has reported an error. -/
def execRetrievalItem (image : Option (List Byte)) (s : State) : Host.Outcome State Fault Refusal :=
  .next (match s.ring.retrieval with
    | none => s
    | some x =>
      if x.awaiting.isSome || decide (2 ^ x.verdictSize ≤ x.verdictWritten) || !s.hostOpen || s.ledger.pstate != .run || !s.itemReady x then s
      else match s.noImage x with
        | some v => s.verdict v
        | none =>
          let s := s.nextRead
          if s.ring.itemReads x.next then s
          else match image, s.ring.retrieval.any fun x => x.failed with
            | some bytes, false =>
              let size := if x.bySpan then 20480 else 67108864
              let t := s.takeDesc 30 0 size
              if t.1 then
                let s := t.2.giveFrame 30 0 [{ offset := 0, bytes := bytes.take size, ext := true }] [] false
                s.modRing fun r => { r with retrieval := r.retrieval.map fun x => { x with awaiting := some (x.next, s.judge x bytes) } }
              else t.2
            | _, _ => s.verdict 7)

/-! Drives. -/

/-- Insert a drive into a formation, ascending. -/
def addMember (ms : List Nat) (d : Nat) : List Nat := insertBy id d (ms.filter fun x => x != d)

/-- A re-admitted drive joins the ring: a label, empty slots, a span closed with DRIVE_ADDED (R289). -/
def State.joinDrive (s : State) (d : Nat) : State :=
  let s := s.modRing fun r => { r with joining := none }
  if !s.ring.formatted then
    ((s.modDrive d fun x => { x with inReset := false }).logPhokel (evDrive d) 0x81 4).finishWait (.unitReadmit 5 d) .ok
  else if decide ((s.ring.drive d).slots < s.ring.slots) then s.finishWait (.unitReadmit 5 d) .noResource
  else
    let ms := addMember s.ring.members d
    let s := s.modRing fun r =>
      { (r.setDrive d { r.drive d with state := .member, writeSlot := 1, drained := false }) with
          live := r.live.map fun (l : LiveSeg) => if l.drive = d then { l with lost := true } else l }.zeroSlot0 s.now [d]
    let s := if s.ring.span.isSome then s.closeSpan 5 (some ms)
      else if s.ring.state == .noDrive && s.ring.resumeRun then (s.modRing fun r => { r with members := ms, state := .run }).openSpan ms
      else if s.ring.state == .noDrive then s.modRing fun r => { r with members := ms, state := .stopped }
      else s.modRing fun r => { r with members := ms }
    ((s.modRing fun r => r.labelBoth s.now).logPhokel (evDrive d) 0x81 2).finishWait (.unitReadmit 5 d) .ok

/-- The queues of an accepted drive: Set Features (Number of Queues), then Create I/O Completion Queue and Create I/O Submission Queue for
each of the eight pairs (R264, Table 9-1). (log 124 DESIGN CHOICE) -/
def Ring.makeQueues (now : Nat) (r : Ring) (d : Nat) : Ring :=
  (0x09 :: (List.range 8).flatMap fun _ => [0x05, 0x01]).foldl (fun (r : Ring) op => r.submit now d .queues (.admin op) 0 0 []) r

/-- A drive has answered Identify: it is accepted with its queues, or refused (R263, R264). (log 166 DEDUCED) -/
def State.identified (s : State) (d : Nat) : State :=
  let ok := (s.ring.drive d).info.any driveOk
  if !ok then
    let s := s.raise (evDrive d) 1
    if s.ring.joining == some d then (s.modRing fun r => { r with joining := none }).finishWait (.unitReadmit 5 d) .fault else s
  else
    let s := (s.modDrive d fun x => { x with state := .spare }).modRing fun r => r.makeQueues s.now d
    if s.ring.joining == some d then s.joinDrive d else s

/-- DRIVE_DETECT (R263 to R265): Identify of the controller and of namespace 1 is submitted; `info` is what they report. (log 166 DEDUCED) -/
def execDriveDetect (d : Nat) (info : DriveInfo) (s : State) : Host.Outcome State Fault Refusal :=
  onUnit s.variant.drives d s
    (if (s.ring.drive d).ready || s.ledger.pstate == .low then s
     else
       ((s.modRing fun r => r.dropCommands d).modDrive d fun x =>
         { x with state := .init, width := info.width, gen := info.gen, vwc := info.vwc, slots := driveSlots info, info := some info, drained := false }).modRing fun r =>
           (r.submit s.now d .identify (.admin 0x06) 0 0 []).submit s.now d .identify (.admin 0x06) 0 0 [])

/-- Commands for a purpose are outstanding at a drive. -/
def Ring.outstanding (r : Ring) (d : Nat) (f : NvmeFor) : Bool := (r.nvme ++ r.nvmeWait).any fun c => c.drive == d && c.for_ == f

/-- What follows the completion of a command (R265, R268, R270, R282). -/
def State.nvmeDone (s : State) (d : Nat) (f : NvmeFor) : State :=
  match f with
  | .close ssn =>
    let s := s.modRing fun r => r.modSegment ssn fun g => { g with closeWritten := true }
    let s := if (s.ring.drive d).vwc then s.modRing fun r => r.submit s.now d (.flush ssn) .flush 0 0 [] else s
    (s.trySeal ssn).nextRead
  | .flush ssn => ((s.modRing fun r => r.modSegment ssn fun g => { g with flushed := true }).trySeal ssn).nextRead
  | .identify => if s.ring.outstanding d .identify then s else s.identified d
  | .start => s.startNext
  | .label | .format =>
    if (s.ring.nvme ++ s.ring.nvmeWait).any fun c => c.for_ == .label || c.for_ == .format then s
    else s.finishWait .ringFormat .ok (wordsOfNat 4 s.ring.ringId.toNat)
  | _ => s

/-- A command has completed with an error: a Write or Flush is submitted once more for its range, and a second error loses the drive (R266);
an item whose Read fails is reported so (R292), a drive whose Identify fails is refused (R263), and what RING_START cannot read it does not
have. (log 124 DESIGN CHOICE) -/
def State.nvmeError (s : State) (d : Nat) (c : NvmeCmd) : State :=
  let s := s.modDrive d fun x => { x with cmdErrors := satAdd 15 x.cmdErrors 1 }
  match c.op with
  | .read =>
    if c.for_ = .start then
      (s.modRing fun r => { r with starting := r.starting.map fun x => { x with found := foundWithout x.found d c.lba } }).startNext
    else
    s.modRing fun r => { r with retrieval := r.retrieval.map fun x => { x with failed := x.failed || c.for_ == .item x.next } }
  | .admin _ =>
    if c.for_ = .identify then
      let s := s.modDrive d fun x => { x with info := none }
      if s.ring.outstanding d .identify then s else s.identified d
    else s
  | .write | .flush | .writeZeroes => if c.retried then s.driveLost d 2 else s.modRing fun r => r.queue s.now { c with retried := true }

/-- NVME_COMPLETION (R264, R266). -/
def execNvmeCompletion (d cid : Nat) (ok : Bool) (s : State) : Host.Outcome State Fault Refusal :=
  onUnit s.variant.drives d s
    (match s.ring.nvme.find? fun c => c.drive == d && c.cid == cid with
     | none => s
     | some c =>
       let s := s.modRing fun r => { r with nvme := eraseFirst (fun x => x.drive == d && x.cid == cid) r.nvme }
       let s := if ok then s.nvmeDone d c.for_ else s.nvmeError d c
       (s.modRing fun r => r.queueNext s.now d).drainDrive d)

/-- NVME_TIMEOUT (R266). -/
def execNvmeTimeout (d : Nat) (s : State) : Host.Outcome State Fault Refusal :=
  onUnit s.variant.drives d s
    (if s.ring.nvme.any fun c => c.drive == d && decide (c.at_ + 2 * cyclesPerS ≤ s.now) then (s.driveLost d 1).startNext else s)

/-- DRIVE_LINK_DOWN (R266). -/
def execDriveLinkDown (d : Nat) (s : State) : Host.Outcome State Fault Refusal :=
  onUnit s.variant.drives d s (s.driveLost d 3).startNext

/-- CONTROLLER_FATAL_STATUS (R266). -/
def execControllerFatalStatus (d : Nat) (s : State) : Host.Outcome State Fault Refusal :=
  onUnit s.variant.drives d s (s.driveLost d 4).startNext

/-! Segments and spans. -/

/-- A rehearsal holds segments open while it lets U grow (10 R306). -/
def Ledger.holdsSegments (l : Ledger) : Bool := match l.commission with | some (.grow _ _) => true | _ => false

/-- Close a full segment: as the span's last it closes the span FULL (R275). -/
def State.closeFullSegment (s : State) (g : Segment) : State :=
  let s := if g.index = 255 && (s.ring.span.any fun sp => sp.no == g.span) then s.closeSpan 1 (some s.ring.members)
    else s.modRing fun r => r.closeSegment s.now g false
  s.trimWindows

/-- SEGMENT_CLOSE (R270). -/
def execSegmentClose (s : State) : Host.Outcome State Fault Refusal :=
  .next (if s.ledger.holdsSegments then s
    else match s.ring.segments.find? fun g => g.full && !g.closed with
      | none => s
      | some g => s.closeFullSegment g)

/-- SEGMENT_DIGEST_DONE (R274). -/
def execSegmentDigestDone (s : State) : Host.Outcome State Fault Refusal := .next s.digestDone

/-- SPAN_SIGN_DONE (R276); a RECOVERED span leaves the ring in RUN (R291). -/
def execSpanSignDone (s : State) : Host.Outcome State Fault Refusal :=
  .next (match s.ring.closedSpans with
    | [] => s
    | c :: _ =>
      let s' := s.signSpan.nextRead
      if c.reason = 6 && s'.ring.state == .recovering then
        let last := if c.no = 0 then s'.draw else (c.no - 1, s')
        let s' := last.2.ringRun
        s'.finishWait .ringStart .ok [s'.ringStatus, BitVec.ofNat 40 last.1]
      else s')

/-- WINDOW_HELD (R285). -/
def execWindowHeld (w : Nat) (s : State) : Host.Outcome State Fault Refusal :=
  onUnit 16 w s
    (match s.ring.windows.lookup w with
     | none => s
     | some x =>
       if x.state == .pending && decide (x.stop < s.dtNs) && !(s.ring.segments.any fun g => !g.closed && decide (g.openTime ≤ ptp80 x.stop)) then
         s.setWindows fun ws => bankPut w { x with state := .held } ws
       else s)

/-- LABEL_WRITE (R268, 10 R299). -/
def execLabelWrite (s : State) : Host.Outcome State Fault Refusal :=
  .next (if s.ring.labelDue && s.ring.formatted && !s.ring.members.isEmpty && !s.ring.labelHeld && s.ledger.pstate != .low then s.modRing fun r => r.writeLabels s.now else s)

end Sys2Proof.Machine
end

