-- ==== Sys2Proof/Machine/Debug.lean ====
section
/-! DEFINITION. Debug sessions (13_security.md R414, R415, R417 to R420; 12 Table 12-12). -/
namespace Sys2Proof.Machine


/-- The scope that an instruction of the port belongs to; IDCODE and BYPASS are always available (R414). (log 178 PRESUMED) -/
def tapScope : TapInstr → Option Nat
  | .idcode | .bypass => none
  | .sample | .extest => some 2
  | .halt | .run | .step | .clusterMemory => some 0
  | .trace => some 1

/-- The instruction's scope is open, or it needs none. -/
def Security.tapAllowed (x : Security) (i : TapInstr) : Bool :=
  match tapScope i with
  | none => true
  | some k => x.debugOpen.contains k

/-- Close scopes that are open (R414): halted cores run on, an instruction of the scope gives way to IDCODE, and the open span keeps its
mark (09 Table 9-6). (log 178 PRESUMED) -/
def State.closeScopes (s : State) (p : Nat → Bool) : State :=
  let gone := s.sec.debugOpen.filter p
  let s := s.markSpan.modSec fun x =>
    let y := { x with debugOpen := x.debugOpen.filter fun k => !p k }
    { y with halted := y.halted && y.debugOpen.contains 0, tap := if y.tapAllowed y.tap then y.tap else .idcode }
  gone.foldl (fun (s : State) k => s.raiseSec 3 k) s

/-- The challenge of Table 13-12 with this nonce. (log 86 DEDUCED) -/
def State.challengeBytes (s : State) (scope : Nat) (nonce : List Byte) : List Byte :=
  ascii "GVDC" ++ [1, BitVec.ofNat 8 scope, BitVec.ofNat 8 s.sec.lifecycle.code, BitVec.ofNat 8 s.ledger.pstate.code] ++ bytesLE 5 s.chipId.toNat ++
    zeroBytes 3 ++ deviceId ++ nonce ++ bytesLE 10 (ptp80 s.dtNs) ++ zeroBytes 182

/-- Issue a challenge; a later one takes its place. None while challenges are refused (R415, Table 13-14). -/
def State.issue (s : State) (scope : Nat) : Option State :=
  if decide (s.now < s.sec.refuseUntil) || s.ledger.pstate == .hold then none
  else
    let n := State.drawBytes 32 s
    some (n.2.modSec fun x => { x with challenge := some { scope := scope, bytes := s.challengeBytes scope n.1, issued := s.now } })

/-- A failed response; the eighth stops challenges for 60 s, and counting begins anew (R415). DATA counts those of the last 60 s (R419). -/
def State.authFail (s : State) : State :=
  let fails := s.now :: s.sec.debugFails.filter fun t => decide (s.now < t + 60 * cyclesPerS)
  let s := s.modSec fun x =>
    if 8 ≤ x.failRun + 1 then { x with debugFails := fails, failRun := 0, refuseUntil := s.now + 60 * cyclesPerS }
    else { x with debugFails := fails, failRun := x.failRun + 1 }
  s.raiseSec 4 fails.length

/-- Whose key: the vendor's, or an owner slot's that is not revoked. -/
def Security.signerMatches (x : Security) (signer : Nat) (pub : List Byte) : Bool :=
  if signer = 0 then vendorHashOf pub == vendorRootBytes else within 0x10 0x13 signer && x.ownerOk (signer - 0x10) pub

/-- The same for a slot that may be revoked (check 3 of R398). -/
def Security.signerHash (x : Security) (signer : Nat) (pub : List Byte) : Bool :=
  if signer = 0 then vendorHashOf pub == vendorRootBytes else within 0x10 0x13 signer && x.slotHolds (signer - 0x10) pub

/-- Signers that open a scope (Table 13-13). -/
def debugSigner (l : Lifecycle) (scope signer : Nat) : Bool :=
  let vendor := signer == 0
  let owner := within 0x10 0x13 signer
  match l with
  | .factory => vendor
  | .ownedOpen => owner
  | .ownedSealed => owner && scope != 2
  | .retired => vendor || owner

/-- A response is good (R415). -/
def State.responseGood (s : State) (c : Challenge) (r : List Byte) : Bool :=
  let signer := leAt r 6 1
  let pub := bytesAt r 128 57
  r.length == 320 && bytesAt r 0 4 == ascii "GVDR" && leAt r 4 1 == 1 && leAt r 5 1 == c.scope && bytesAt r 64 64 == shake256 c.bytes 64 &&
    decide (s.now < c.issued + 60 * cyclesPerS) && debugSigner s.sec.lifecycle c.scope signer && s.sec.signerMatches signer pub &&
    ed448Verify pub "gv-debug" (r.take 192) (bytesAt r 192 114)

/-- Boundary scan may take the balls (R418). -/
def State.scanAllowed (s : State) : Bool :=
  ((List.range s.variant.ports).all fun n => (s.port n).state == .off && !(s.supply n).want && !(s.supply n).latched) &&
    (s.ring.state == .off || s.ring.state == .stopped || s.ring.state == .sealed) && (List.range 5).all fun p => !(s.bbp p).link

/-- A session of a scope opens; in OWNED-SEALED the open span is marked (09 Table 9-6). -/
def State.openScope (s : State) (k : Nat) : State :=
  (s.modSec fun x => { x with debugOpen := insertBy id k (x.debugOpen.filter fun j => j != k), debugSinceBoot := true, heldOpening := none }).markSpan.raiseSec 2 k

/-- What a response comes to. -/
inductive Opening where
  | opened (s : State)
  | held (s : State)
  | failed (s : State)
  | refused (s : State)
  deriving DecidableEq, Repr

/-- A response for the challenge outstanding, which is used up. (log 87 DEDUCED) -/
def State.respondDebug (s : State) (r : List Byte) : Opening :=
  match s.sec.challenge with
  | none => .failed s.authFail
  | some c =>
    let s := s.modSec fun x => { x with challenge := none }
    if s.ledger.pstate = .hold then .refused s
    else if !s.responseGood c r then .failed s.authFail
    else if c.scope = 2 && !s.scanAllowed then .refused s
    else if s.ledger.pstate = .low then
      .held (s.modSec fun x => { x with heldOpening := some { scope := c.scope, signer := leAt r 6 1, deadline := s.now + 100 * cyclesPerMs } })
    else .opened (s.openScope c.scope)

def execDebugChallenge (m : Msg) (s : State) : Host.Outcome State Fault Refusal :=
  let k := fld (m.w 0) 39 38
  .next (mailRun 0x703 permitRL0 m s false (lenIs m 3 && k != 3 && zeroFld (m.w 0) 37 0 && hostAddrOk (m.w 2)) fun s =>
    match s.issue k with
    | none => .done .denied [] s
    | some t => .done .ok [256] (t.hostWrite (hostAddr (m.w 1) (m.w 2)) ((t.sec.challenge.map fun c => c.bytes).getD [])))

def execDebugOpen (m : Msg) (host : List Byte) (s : State) : Host.Outcome State Fault Refusal :=
  .next (mailRun 0x704 permitRL0 m s false (lenIs m 3 && zeroFld (m.w 0) 39 16 && fld (m.w 0) 15 0 == 320 && hostAddrOk (m.w 2)) fun s =>
    if s.sec.heldOpening.isSome then .done .busy [] s
    else if !s.loadsOpen || decide (host.length < 320) then .done .fault [] s
    else match s.respondDebug host with
      | .opened t => okNext t
      | .held t => .wait .debugOpen t
      | .failed t => .done .denied [] t
      | .refused t => .done .state [] t)

/-- DEBUG_CLOSE: every open session. -/
def execDebugClose (m : Msg) (s : State) : Host.Outcome State Fault Refusal :=
  .next (mailRun 0x705 permitRL0 m s false (lenIs m 0) fun s => okNext (s.closeScopes fun _ => true))

/-- An instruction of the port: refused unless its scope is open (R414); the cores are halted, and run on. (log 178 PRESUMED) -/
def State.tapRun (s : State) (i : TapInstr) : State :=
  s.modSec fun x =>
    if !x.tapAllowed i then { x with tapRefused := true }
    else { x with tap := i, tapRefused := false, halted := match i with | .halt => true | .run => false | _ => x.halted }

/-- DEBUG_PORT_ACCESS: the same through the IEEE 1149.1 port, and its other instructions. -/
def execDebugPortAccess (a : DebugAccess) (s : State) : Host.Outcome State Fault Refusal :=
  .next (if !s.rst.alwaysOn then s
    else match a with
      | .challenge k => if k < 3 then (s.issue k).getD s else s
      | .response r =>
        if s.sec.heldOpening.isSome then s
        else match s.respondDebug r with
          | .opened t => t | .held t => t | .failed t => t | .refused t => t
      | .close => s.closeScopes fun _ => true
      | .instruction i => s.tapRun i)

/-- The lifecycle state and the owner's fuses as they now are still permit a held opening (Table 13-13). (log 180 DEDUCED) -/
def Security.mayOpen (x : Security) (h : HeldOpening) : Bool :=
  debugSigner x.lifecycle h.scope h.signer && (h.signer = 0 || !x.ownerRevoked.getD (h.signer - 0x10) true)

/-- DEBUG_DOMAINS_ACKNOWLEDGE: Phokel has powered the domains of a held opening (Table 13-14), which R415 and R418 must still permit. (log 180 DEDUCED) -/
def execDebugDomainsAcknowledge (s : State) : Host.Outcome State Fault Refusal :=
  .next (match s.sec.heldOpening with
    | none => s
    | some h =>
      let none' := s.modSec fun x => { x with heldOpening := none }
      if h.deadline ≤ s.now || s.phokelStops then s
      else if !s.sec.mayOpen h then none'.authFail.finishWait .debugOpen .denied
      else if h.scope = 2 && !s.scanAllowed then none'.finishWait .debugOpen .state
      else (s.openScope h.scope).finishWait .debugOpen .ok)

/-- DEBUG_ACK_TIMEOUT. -/
def execDebugAckTimeout (s : State) : Host.Outcome State Fault Refusal :=
  .next (match s.sec.heldOpening with
    | none => s
    | some h =>
      if h.deadline ≤ s.now then ((s.modSec fun x => { x with heldOpening := none }).authFail).finishWait .debugOpen .denied else s)

end Sys2Proof.Machine
end

