-- ==== Sys2Proof/Machine/Requests.lean ====
section
/-! DEFINITION. Signed requests, owner keys, the lifecycle, the door secret and attestation (13_security.md R392 to R400, R408, R409; 12
Table 12-12). -/
namespace Sys2Proof.Machine

/-- A signed request (Table 13-5). -/
structure Request where
  kind : Nat
  signer : Nat
  arg : Nat
  seq : Nat
  newPub : List Byte
  secret : List Byte
  signerPub : List Byte
  deriving DecidableEq, Repr

/-- The verdict on a request. -/
inductive RequestVerdict where
  | ok (r : Request)
  | denied
  | bad
  deriving DecidableEq, Repr

/-- The checks of R398 in order; `accept` is check 4. -/
def State.checkRequest (s : State) (b : List Byte) (kind arg : Nat) (accept : Request → Bool) : RequestVerdict :=
  let r : Request :=
    { kind := leAt b 5 1, signer := leAt b 6 1, arg := leAt b 7 1, seq := leAt b 8 8, newPub := bytesAt b 32 57, secret := bytesAt b 96 32, signerPub := bytesAt b 256 57 }
  if b.length != 512 || bytesAt b 0 4 != ascii "GVRQ" || leAt b 4 1 != 1 || r.kind != kind || r.arg != arg then .bad
  else if bytesAt b 16 16 != deviceId then .bad
  else if !(if r.signer = 0x20 then r.signerPub == r.newPub && kind == 1 else s.sec.signerHash r.signer r.signerPub) then .bad
  else if !accept r then .denied
  else if !ed448Verify r.signerPub "gv-request" (b.take 320) (bytesAt b 320 114) then .bad
  else if r.seq ≤ s.sec.lastSeq.getD (kind - 1) 0 then .bad
  else .ok r

/-- Answer a request: `go` carries an acceptable one out. One that host memory does not return whole ends with FAULT (11 R343). -/
def State.onRequest (s : State) (b : List Byte) (kind arg : Nat) (accept : Request → Bool) (go : Request → State → Verdict) : Verdict :=
  if !s.loadsOpen || decide (b.length < 512) then .done .fault [] s
  else match s.checkRequest b kind arg accept with
    | .denied => .done .denied [] s
    | .bad => .done .badArg [] (s.raiseSec 5 kind)
    | .ok r => go r s

/-- The request is accepted: its SEQ is kept. -/
def State.keepSeq (s : State) (r : Request) : State := s.modSec fun x => { x with lastSeq := setAt x.lastSeq (r.kind - 1) r.seq }

def requestLen (m : Msg) : Bool := zeroFld (m.w 0) 36 16 && fld (m.w 0) 15 0 == 512 && hostAddrOk (m.w 2)

def Security.installed (x : Security) : List Nat := (List.range 4).filter fun k => (x.ownerHash.getD k none).isSome
def Security.unrevoked (x : Security) : List Nat := x.installed.filter fun k => !x.ownerRevoked.getD k true

/-- The request's signer is an owner slot that is not revoked. -/
def Security.byOwner (x : Security) (r : Request) : Bool := within 0x10 0x13 r.signer && x.unrevoked.contains (r.signer - 0x10)

/-- OWNER_KEY, install (R397). (log 44 DESIGN CHOICE) -/
def execOwnerKeyInstall (m : Msg) (host : List Byte) (s : State) : Host.Outcome State Fault Refusal :=
  let slot := fld (m.w 0) 39 38
  if bit (m.w 0) 37 then .refused (.illFormed "OWNER_KEY_INSTALL with REVOKE set")
  else
    let accept := fun (r : Request) => match s.sec.lifecycle with
      | .factory => r.signer == 0
      | .ownedOpen => if s.sec.installed.isEmpty then r.signer == 0x20 else s.sec.byOwner r
      | _ => s.sec.byOwner r
    .next (mailRun 0x706 permitR0 m s (s.sec.lifecycle == .retired) (lenIs m 3 && requestLen m) fun s =>
      s.onRequest host 1 slot accept fun r s =>
        if s.sec.installed.contains slot then .done .badArg [] s
        else okNext ((s.keepSeq r).modSec fun x => { x with ownerHash := setAt x.ownerHash slot (some (ownerHashOf r.newPub)), ownerPub := setAt x.ownerPub slot (some r.newPub) }))

/-- OWNER_KEY, revoke (R397): the last unrevoked slot may sign for itself as far as BAD_ARG. (log 176 DEDUCED) -/
def execOwnerKeyRevoke (m : Msg) (host : List Byte) (s : State) : Host.Outcome State Fault Refusal :=
  let slot := fld (m.w 0) 39 38
  if !bit (m.w 0) 37 then .refused (.illFormed "OWNER_KEY_REVOKE with REVOKE clear")
  else
    .next (mailRun 0x706 permitR0 m s (s.sec.lifecycle == .retired) (lenIs m 3 && requestLen m) fun s =>
      s.onRequest host 2 slot (fun r => s.sec.byOwner r && (r.signer != 0x10 + slot || decide (s.sec.unrevoked.length < 2))) fun r s =>
        if !s.sec.unrevoked.contains slot || decide (s.sec.unrevoked.length < 2) then .done .badArg [] s
        else okNext (((s.keepSeq r).modSec fun x => { x with ownerRevoked := setAt x.ownerRevoked slot true }).raiseSec 8 slot))

/-- The target state of LIFECYCLE_SET. -/
def lifecycleOf : Nat → Lifecycle
  | 0 => .factory | 1 => .ownedOpen | 2 => .ownedSealed | _ => .retired

/-- Table 13-2 has this transition. -/
def transition (a b : Lifecycle) : Bool :=
  match a, b with
  | .factory, .ownedOpen => true
  | .ownedOpen, .ownedSealed => true
  | .ownedOpen, .retired => true
  | .ownedSealed, .retired => true
  | _, _ => false

/-- Its condition; a ring has stopped once its last span is signed. (log 176 DEDUCED) -/
def State.lifecycleReady (s : State) (b : Lifecycle) : Bool :=
  match b with
  | .ownedSealed => !s.sec.installed.isEmpty
  | .retired => (s.ring.state == .off || s.ring.state == .stopped || s.ring.state == .sealed) && s.ring.closedSpans.isEmpty
  | _ => true

/-- The signers that a transition takes (Table 13-2); one that the table does not have is judged as its nearest row. (log 176 DEDUCED) -/
def Security.lifecycleSigner (x : Security) (next : Lifecycle) (r : Request) : Bool :=
  match x.lifecycle, next with
  | .factory, _ => r.signer == 0
  | .ownedOpen, .ownedSealed => x.byOwner r
  | _, _ => if x.installed.isEmpty then r.signer == 0 else x.byOwner r

/-- LIFECYCLE_SET (R392, R393). (log 176 DEDUCED) -/
def execLifecycleSet (m : Msg) (host : List Byte) (s : State) : Host.Outcome State Fault Refusal :=
  let k := fld (m.w 0) 39 38
  let next := lifecycleOf k
  .next (mailRun 0x707 permitR0 m s false (lenIs m 3 && zeroFld (m.w 0) 37 37 && requestLen m) fun s =>
    s.onRequest host 3 k (s.sec.lifecycleSigner next) fun r s =>
      if !transition s.sec.lifecycle next || !s.lifecycleReady next then .done .state [] s
      else
        let s := (s.keepSeq r).modSec fun x => { x with lifecycle := next }
        let s := s.closeScopes fun j => next == .ownedSealed && j == 2
        let s := s.markSpan
        let s := if next = .retired then (s.modSec fun x => { x with doorSecret := none }).sessionsClose fun _ => true else s
        okNext (s.raiseSec 6 k))

/-- DOOR_SECRET_SET (R399, R400). (log 87 DEDUCED) -/
def execDoorSecretSet (m : Msg) (host : List Byte) (s : State) : Host.Outcome State Fault Refusal :=
  let open_ := s.sec.lifecycle == .ownedOpen || s.sec.lifecycle == .ownedSealed
  .next (mailRun 0x708 permitR0 m s (!open_) (lenIs m 3 && zeroFld (m.w 0) 39 37 && requestLen m) fun s =>
    s.onRequest host 4 0 (fun r => if s.sec.installed.isEmpty then r.signer == 0 else s.sec.byOwner r) fun r s =>
      if r.secret.all fun b => b == 0 then .done .badArg [] s
      else
        let s := (s.keepSeq r).modSec fun x => { x with doorSecret := some r.secret, doorSecretStored := some (xorBytes r.secret doorWrap, doorCheck r.secret) }
        okNext (s.sessionsClose fun _ => true))

/-! Attestation (R408, R409). -/

/-- Bytes 0 to 1023 of the quote (Table 13-9). (log 86 DEDUCED) -/
def State.quoteBody (s : State) (nonce : List Byte) : List Byte :=
  let x := s.sec
  let flags := b2n (!x.debugOpen.isEmpty) + 2 * b2n x.debugSinceBoot + 4 * b2n x.slotFallback + 8 * b2n s.ring.formatted + 16 * b2n s.ledger.degraded
  let owner := maskOf x.installed + 16 * maskOf ((List.range 4).filter fun k => x.ownerRevoked.getD k false)
  let meas := fun (k : Nat) => x.measLog.getD k (zeroBytes 64)
  ascii "GVAQ" ++ [1, BitVec.ofNat 8 x.lifecycle.code, BitVec.ofNat 8 flags, BitVec.ofNat 8 (maskOf x.debugOpen)] ++ bytesLE 5 s.chipId.toNat ++
    [BitVec.ofNat 8 x.rollback, BitVec.ofNat 8 x.active, BitVec.ofNat 8 owner] ++ deviceId ++ nonce ++ bytesLE 10 (ptp80 s.dtNs) ++
    [BitVec.ofNat 8 x.major, BitVec.ofNat 8 x.minor] ++ bytesLE 2 x.patch ++ zeroBytes 2 ++ x.chain ++ (List.range 6).flatMap meas ++
    ((List.range 4).flatMap fun k => (x.ownerHash.getD k none).getD (zeroBytes 32)) ++
    (if s.ring.formatted then ringIdBytes s.ring.ringId ++ s.ring.sealPub else zeroBytes 73) ++ zeroBytes 7 ++ bytesLE 8 (x.lastSeq.getD 3 0) ++
    identityPub ++ zeroBytes 223

def execAttestQuote (m : Msg) (s : State) : Host.Outcome State Fault Refusal :=
  .next (mailRun 0x700 permitR0 m s (s.sec.lifecycle == .retired) (lenIs m 9 && hostAddrOk (m.w 8)) fun s =>
    let body := s.quoteBody (payloadBytes m 0 32)
    match s.keySign .identity "gv-attest" body with
    | (none, s) => .done .denied [] s
    | (some sign, s) => .done .ok [1536] (s.hostWrite (hostAddr (m.w 7) (m.w 8)) (body ++ sign ++ zeroBytes 14 ++ s.identityCert)))

end Sys2Proof.Machine
end

