-- ==== Sys2Proof/Machine/Outputs.lean ====
section
/-! DEFINITION. The output, Accord and check-unit commands (12_mailbox_and_commands.md Table 12-9;
07_outputs_and_accord.md R206, R207, R224, R225, R227, R230, R234 to R237; 11_host_link_and_dma.md R329). -/
namespace Sys2Proof.Machine

/-! OUT_CFG (R206, R207). -/

/-- Reserved bits of an output record are 0, and its stride is a multiple of 64. (log 111 DEDUCED) -/
def outReservedOk (w : List Word) : Bool :=
  zeroFld (pw w 0) 12 0 && zeroFld (pw w 1) 8 0 && zeroFld (pw w 2) 8 0 && zeroFld (pw w 3) 8 0 && zeroFld (pw w 4) 19 0 &&
    zeroFld (pw w 5) 5 0 && zeroFld (pw w 6) 23 0 && fld (pw w 4) 39 20 % 64 == 0

/-- Destinations of a format (Table 7-3). -/
def formatDest (r : OutRec) : Bool :=
  match r.format with
  | 0 | 2 | 3 => !r.sillage
  | 1 => !r.sillage && !r.backbone
  | 4 | 5 => !r.backbone
  | _ => !r.backbone && !r.sillage

/-- The format belongs to the output (Table 7-3). -/
def formatOf (o format : Nat) (bytes : Bool) : Bool :=
  if bytes then o == 2 && format == 0xB
  else match o with
    | 0 => decide (format ≤ 3)
    | 1 => format == 4 || format == 5
    | _ => format == 8 || format == 9 || format == 0xA

/-- Delivered size within the limits of Table 7-3. A resampled height is not known beforehand. (log 111 DEDUCED) -/
def sizeOk (r : OutRec) : Bool :=
  let w := if r.transposes then r.outH else r.outW
  let h := if r.transposes then r.outW else r.outH
  let open_ := r.resample && r.transposes
  (open_ || within 16 (if 8 ≤ r.format then 16384 else 8192) w) &&
    (match r.format with
     | 2 | 3 | 0xA => open_ || w % 2 == 0
     | 4 | 5 => w % 16 == 0 && h % 8 == 0
     | _ => true)

/-- Within 4:1 either way. -/
def ratioOk (a b : Nat) : Bool := decide (a ≤ 4 * b) && decide (b ≤ 4 * a)

/-- The conversion suits the format (R207). -/
def cscSuits (format csc : Nat) : Bool :=
  match format with
  | 0 | 1 | 9 => csc == 0
  | 2 | 3 | 4 | 5 => within 1 6 csc
  | _ => true

/-- A line with its trailer fits the stride (R235). (log 111 DEDUCED) -/
def strideOk (r : OutRec) (line extra : Nat) : Bool := decide (line + extra ≤ strideOf r.strideField line)

/-- What R207 asks of a record by itself, whatever the binding. -/
def recFormOk (o : Nat) (r : OutRec) : Bool :=
  formatDest r && r.cropW != 0 && r.cropH != 0 && (o == 2 || (!r.resample && !r.stamps)) &&
    !(r.resample && (r.rsPitch == 0 || decide (r.rsPitch ≤ r.rsOrigin))) && !(r.transposes && r.backbone)

/-- Sizes of a record whose output takes pixels (R207). -/
def recSizeOk (r : OutRec) : Bool := ratioOk r.cropW r.outW && (r.resample || ratioOk r.cropH r.outH) && sizeOk r

/-- A record for an unbound context passes R207 as far as no binding has a say. (log 111 DEDUCED) -/
def recAloneOk (o : Nat) (r : OutRec) : Bool := recFormOk o r && (formatOf o r.format true || (formatOf o r.format false && recSizeOk r))

/-- A record passes R207 for an output of a bound context, whether it enables the output or not. (log 111 DEDUCED) -/
def State.outRecOk (s : State) (c o : Nat) (r : OutRec) : Bool :=
  let x := s.ctx c
  let b := x.bind
  let bytes := b.kind == 3
  let extra := s.hostExtra c o
  let mosaic := o == 2 && visionSrc x.inForce == 0
  let scales := r.cropW != r.outW || (!r.resample && r.cropH != r.outH)
  formatOf o r.format bytes && recFormOk o r && decide (r.cropX + r.cropW ≤ b.width) && decide (r.cropY + r.cropH ≤ b.height) &&
    (if bytes then strideOk r b.width extra
     else
       recSizeOk r &&
         !(mosaic && (scales || (cfaOf x.inForce != 0 && (r.cropX % 2 == 1 || r.cropY % 2 == 1)))) && (r.format != 0xA || mosaic) &&
         cscSuits r.format (cscOf x.inForce o) && strideOk r (formatLine r.format (if r.transposes then r.outH else r.outW)) extra)

/-- OUT_CFG (R205 to R211, R237). (log 111 DEDUCED) -/
def execOutCfg (m : Msg) (s : State) : Host.Outcome State Fault Refusal :=
  let c := fld (m.w 0) 39 32
  let o := fld (m.w 0) 31 30
  let w := m.payload.drop 1
  let x := s.ctx c
  let r := outRec x.bind w
  let bound := x.state != .unbound
  let argsOk := lenIs m 9 && ctxArg s c && o != 3 && zeroFld (m.w 0) 29 0 && outReservedOk w && (if bound then s.outRecOk c o r else recAloneOk o r)
  .next (mailRun 0x400 permitR m s false argsOk fun s =>
    if !bound || x.bind.bypass || (r.host && (x.out o).ring.isNone) then .done .state [] s
    else
      let s' := s.modCtx c fun x => x.modOut o fun y => { y with pending := some (Due.accept s.now y.pending w) }
      if (r.enable && ((r.host && !(s'.hostSumOk && s'.enginesOk)) || !s'.memOk)) || s.overloads s' then .done .noResource [] s else okNext s')

/-! OUT_COEF_LOAD (R211). -/

/-- n signed 16-bit values, least significant byte first; bytes beyond the end are 0. -/
def int16s : Nat → List Byte → List Int
  | 0, _ => []
  | n + 1, l => signed 16 (natLE (l.take 2)) :: int16s n (l.drop 2)

/-- The 512 coefficients of a load, or none where one lies outside 12 bits or a phase does not sum to 1024. -/
def coefTable (host : List Byte) : Option (List Int) :=
  let l := int16s 512 host
  let ok := (List.range 64).all fun p => ((l.drop (8 * p)).take 8).foldl (· + ·) 0 == 1024
  if ok && l.all fun v => decide (-2048 ≤ v) && decide (v ≤ 2047) then some l else none

def execOutCoefLoad (m : Msg) (host : List Byte) (s : State) : Host.Outcome State Fault Refusal :=
  let c := fld (m.w 0) 39 32
  let o := fld (m.w 0) 31 30
  let argsOk := lenIs m 3 && ctxArg s c && o != 3 && zeroFld (m.w 0) 28 0 && hostAddrOk (m.w 2) && (decide (host.length < 1024) || (coefTable host).isSome)
  .next (mailRun 0x401 permitR0 m s false argsOk fun s =>
    if (s.ctx c).state == .unbound then .done .state [] s
    else
      let l := (coefTable host).getD []
      loaded host 1024 s (okNext (s.modCtx c fun x => x.modOut o fun y => if bit (m.w 0) 29 then { y with coefV := l } else { y with coefH := l })))

/-! Host rings (R329). -/

/-- Set up a channel for a ring of host buffers. -/
def State.openChannel (s : State) (e ch size prio : Nat) (output : Bool) (context out : Nat) (ringLo ringHi tagLo tagHi : Word) : State :=
  s.modChan e ch fun c =>
    { c.closed (32 * e + ch) with enable := true, size := size, prio := prio, output := output, context := context, out := out
                                  ringLo := ringLo, ringHi := ringHi, tagLo := tagLo, tagHi := tagHi, state := .empty }

/-- The response that names a channel. -/
def channelWord (e ch : Nat) (event : Bool) : Word := mkWord ([(39, 35, e), (34, 30, ch)] ++ if event then [(29, 18, evCompletion e ch)] else [])

/-- OUT_HOST_RING: OUTPUT 3 names an Accord's canvas. -/
def execOutHostRing (m : Msg) (s : State) : Host.Outcome State Fault Refusal :=
  let c := fld (m.w 0) 39 32
  let o := fld (m.w 0) 31 30
  let size := fld (m.w 0) 29 26
  let argsOk := lenIs m 5 && (if o = 3 then decide (c < s.variant.accords) else ctxArg s c) && within 2 15 size && zeroFld (m.w 0) 23 0 &&
    hostAddrOk (m.w 2) && hostAddrOk (m.w 4) && fld (m.w 1) 4 0 == 0
  .next (mailRun 0x402 permitR0 m s false argsOk fun s =>
    let old := if o = 3 then (s.accord c).ring else ((s.ctx c).out o).ring
    let busy := if o = 3 then s.canvasOn c && bit (pw (s.accord c).planned 0) 23 else (s.planRec c o).enable && (s.planRec c o).host
    if (o != 3 && ((s.ctx c).state == .unbound || (s.ctx c).bind.bypass)) || (old.isSome && busy) then .done .state [] s
    else
      match old with
      | some (e, ch) =>
        .done .ok [channelWord e ch true] (s.openChannel e ch size (fld (m.w 0) 25 24) true c o (m.w 1) (m.w 2) (m.w 3) (m.w 4))
      | none =>
        match s.place 0 with
        | none => .done .noResource [] s
        | some (e, ch) =>
          let s := if o = 3 then s.modAccord c fun a => { a with ring := some (e, ch) }
            else s.modCtx c fun x => x.modOut o fun y => { y with ring := some (e, ch) }
          .done .ok [channelWord e ch true] (s.openChannel e ch size (fld (m.w 0) 25 24) true c o (m.w 1) (m.w 2) (m.w 3) (m.w 4)))

/-! Accords (R224, R225, R227, R230). -/

/-- A canvas record passes R224, whether it enables the canvas or not. (log 111 DEDUCED, 139 DEDUCED) -/
def canvasOk (w : List Word) : Bool :=
  let width := fld (pw w 1) 39 27
  let height := fld (pw w 1) 26 15
  let period := fld (pw w 2) 39 4
  let timing := fld (pw w 0) 30 29
  let format := fld (pw w 0) 38 35
  decide (format ≤ 3) && cscSuits format (fld (pw w 0) 34 31) && timing != 3 && fld (pw w 0) 20 13 != 0 && within 16 7680 width &&
    width % 2 == 0 && within 8 2160 height && (timing == 2 || (period != 0 && decide (width * height * 16000000000 ≤ 497664000 * period))) &&
    !(format == 1 && bit (pw w 0) 22)

def canvasReservedOk (w : List Word) : Bool :=
  zeroFld (pw w 0) 12 0 && zeroFld (pw w 1) 14 0 && zeroFld (pw w 2) 3 0 && zeroFld (pw w 3) 7 0 && zeroFld (pw w 4) 9 0

/-- Accord loads within 12 GB/s each, and external memory within R32 (R230). -/
def State.accordsOk (s : State) : Bool := ((List.range s.variant.accords).all fun a => decide (s.accordLoad a ≤ 12000000000)) && s.memOk

/-- Local time, and Device Time, in 1/16 ns. -/
def State.local16 (s : State) : Int := (s.time.mono : Int) / 2 ^ 28
def State.dt16 (s : State) : Int := s.dt.fdiv (2 ^ 28)

/-- A canvas whose frames follow a source would exceed the pixel rate of R224. -/
def State.canvasTooFast (s : State) (a : Nat) : Bool :=
  fld (pw (s.accord a).planned 0) 30 29 == 2 && decide ((497664000 : Rat) < ratOf (s.canvasW a * s.canvasH a) * s.canvasRate a)

def execAccordCfg (m : Msg) (s : State) : Host.Outcome State Fault Refusal :=
  let a := fld (m.w 0) 39 38
  let w := m.payload.drop 1
  let on := bit (pw w 0) 39
  let s' := s.modAccord a fun x => { x with pending := some (Due.accept s.now x.pending w) }
  let argsOk := lenIs m 6 && decide (a < s.variant.accords) && zeroFld (m.w 0) 37 0 && canvasReservedOk w && canvasOk w && !s'.canvasTooFast a
  .next (mailRun 0x403 permitR m s false argsOk fun s =>
    if on && bit (pw w 0) 23 && (s.accord a).ring.isNone then .done .state [] s
    else if on && (!s'.accordsOk || (bit (pw w 0) 23 && !(s'.hostSumOk && s'.enginesOk))) then .done .noResource [] s
    else if (s.accord a).state == .off then
      okNext (s'.modAccord a fun x =>
        { x with lastStart := if fld (pw w 0) 30 29 = 1 then s.dt16 else s.local16, lockAt := s.local16, dueAt := [], lockStale := false })
    else okNext s')

/-- A source record holds no reserved value; the context of an enabled one has an enabled display output (R224). (log 111 DEDUCED, 139 DEDUCED) -/
def State.sourceOk (s : State) (w : List Word) : Bool :=
  let c := fld (pw w 0) 38 31
  within 32 7680 (fld (pw w 2) 39 27) && within 32 2160 (fld (pw w 2) 26 15) && ctxArg s c &&
    (!bit (pw w 0) 39 || ((s.ctx c).state != .unbound && (s.planRec c 0).enable))

def execAccordSource (m : Msg) (s : State) : Host.Outcome State Fault Refusal :=
  let a := fld (m.w 0) 39 38
  let k := fld (m.w 0) 37 34
  let w := m.payload.drop 1
  let on := bit (pw w 0) 39
  let s' := s.modAccord a fun x => x.setSource k { x.source k with pending := some (Due.accept s.now (x.source k).pending w) }
  let argsOk := lenIs m 4 && decide (a < s.variant.accords) && zeroFld (m.w 0) 33 0 && zeroFld (pw w 0) 9 0 && zeroFld (pw w 1) 14 0 &&
    zeroFld (pw w 2) 14 0 && s.sourceOk w && !s'.canvasTooFast a
  .next (mailRun 0x404 permitR m s false argsOk fun s =>
    if (on && !s'.accordsOk) || s.overloads s' then .done .noResource [] s else okNext s')

/-- A source record that names this mesh slot. -/
def namesMesh (w : List Word) (slot : Bool) : Bool := bit (pw w 0) 39 && bit (pw w 0) 10 == slot

def execAccordMeshLoad (m : Msg) (host : List Byte) (s : State) : Host.Outcome State Fault Refusal :=
  let a := fld (m.w 0) 39 38
  let k := fld (m.w 0) 37 34
  let slot := bit (m.w 0) 33
  let argsOk := lenIs m 3 && decide (a < s.variant.accords) && zeroFld (m.w 0) 32 0 && hostAddrOk (m.w 2)
  .next (mailRun 0x405 permitR0 m s false argsOk fun s =>
    let x := (s.accord a).source k
    if namesMesh x.cfg slot || (Due.waiting x.pending).any fun w => namesMesh w slot then .done .state [] s
    else
      let ws := wordsOfHost 1089 host
      loaded host (8 * 1089) s (okNext (s.modAccord a fun y => y.setSource k (if slot then { x with meshB := some ws } else { x with meshA := some ws }))))

def execAccordOverlay (m : Msg) (s : State) : Host.Outcome State Fault Refusal :=
  let a := fld (m.w 0) 39 38
  let argsOk := lenIs m 5 && decide (a < s.variant.accords) && zeroFld (m.w 0) 36 0 && hostAddrOk (m.w 2) && hostAddrOk (m.w 4)
  .next (mailRun 0x406 permitR0 m s false argsOk fun s =>
    okNext (s.modAccord a fun x =>
      { x with overlayPending := some (Due.accept s.now x.overlayPending (hostAddr (m.w 1) (m.w 2), hostAddr (m.w 3) (m.w 4), fld (m.w 0) 37 37)) }))

/-! CHECK_ASSIGN (R234 to R236). -/

/-- Another unit watches this output, or is being assigned to it. -/
def State.watched (s : State) (k c o : Nat) : Bool :=
  (List.range 32).any fun j =>
    let w := Due.planned (s.check j).pending (s.check j).cfg
    j != k && fld w 39 38 != 0 && fld w 36 29 == c && fld w 28 27 == o

/-- A new assignment takes effect: comparisons begin with the frame numbered `no`. -/
def Check.assign (x : Check) (w : Word) (no : Nat) (pending : Option (Due Word)) : Check :=
  { x with cfg := w, pending := pending, prev := none, frozenRaised := false, firstFrame := no, counts := setFld x.counts 23 16 0 }

def execCheckAssign (m : Msg) (s : State) : Host.Outcome State Fault Refusal :=
  let k := fld (m.w 0) 39 35
  let mode := fld (m.w 0) 34 33
  let dirIn := bit (m.w 0) 32
  let c := fld (m.w 0) 31 24
  let o := fld (m.w 0) 23 22
  let cfg := mkWord [(39, 38, mode), (37, 37, b2n dirIn), (36, 29, c), (28, 27, o), (26, 23, fld (m.w 0) 21 18), (22, 15, fld (m.w 0) 17 10)]
  let b := (s.ctx c).bind
  let bound := ctxArg s c && (s.ctx c).state != .unbound
  let r := s.planRec c o
  let compatOk := mode != 3 || !bound ||
    (if dirIn then o == 2 && b.kind == 3 && decide (4 < b.width)
     else !r.enable || strideOk r (if b.kind = 3 then b.width else formatLine r.format (if r.transposes then r.outH else r.outW)) 4)
  let argsOk := lenIs m 1 && ctxArg s c && o != 3 && zeroFld (m.w 0) 9 0 && (mode == 0 || (fld (m.w 0) 17 10 != 0 && !s.watched k c o && compatOk))
  .next (mailRun 0x407 permitR m s false argsOk fun s =>
    let x := s.check k
    if mode != 0 && !bound then .done .state [] s
    else if mode = 0 && (s.ctx (fld x.cfg 36 29)).state == .unbound || mode = 0 && fld x.cfg 39 38 = 0 then okNext (s.setCheck k (x.assign cfg 0 none))
    else
      let s' := s.setCheck k { x with pending := some (Due.accept s.now x.pending cfg) }
      if mode = 3 && !dirIn && !(s'.hostSumOk && s'.enginesOk) then .done .noResource [] s else okNext s')

/-- A frame start of a context: assignments to its outputs, and removals from them, take effect (R234). -/
def State.checkStart (s : State) (c no : Nat) : State :=
  (List.range 32).foldl (fun (s : State) k =>
    let x := s.check k
    match x.pending with
    | some d =>
      match d.ready s.now with
      | some w => if fld w 39 38 != 0 && fld w 36 29 == c || fld w 39 38 == 0 && fld x.cfg 36 29 == c then s.setCheck k (x.assign w no (d.rest s.now)) else s
      | none => s
    | none => s) s

end Sys2Proof.Machine
end

