-- ==== Sys2Proof/Machine/Windows.lean ====
section
/-! DEFINITION. The windows of gates (04_travel_and_time.md R129 to R131). -/
namespace Sys2Proof.Machine

/-- REF and MODE of a gate record (Table 4-9). -/
def Gate.ref (g : Gate) : Nat := fld g.w2 39 38
def Gate.mode (g : Gate) : Nat := fld g.w2 37 36
def Gate.events (g : Gate) : Bool := bit g.w2 35

/-- (v − START) mod n < (END − START) mod n. -/
def inWindow (n v start stop : Nat) : Bool := decide ((v + n - start % n) % n < (stop % n + n - start % n) % n)

/-- A WINDOW gate is open at a travel value, a short stamp and a phase (R129, R130). -/
def Gate.holds (g : Gate) (travel stamp : Word) (phase : Nat) : Bool :=
  match g.ref with
  | 0 => decide (signed 40 g.w0.toNat ≤ signed 40 travel.toNat) && decide (signed 40 travel.toNat < signed 40 g.w1.toNat)
  | 1 => inWindow (2 ^ 40) stamp.toNat g.w0.toNat g.w1.toNat
  | _ => inWindow 65536 phase (fld g.w0 15 0) (fld g.w1 15 0)

/-- A gate is open at given values of its references. -/
def Gate.openAt (g : Gate) (travel stamp : Word) (phase : Nat) : Bool :=
  match g.mode with | 0 => g.holds travel stamp phase | 1 => true | _ => false

/-- A gate judged at a row stamp (07 R214). A row stamp holds no phase: that of the row is a value left open
(notes/assumptions/34). (log 34 DESIGN CHOICE) -/
def State.gateAtRow (s : State) (k : Nat) (r : RowStamp) : Bool × State :=
  let g := s.gate k
  if g.mode = 0 && g.ref = 2 then
    let d := s.draw
    (g.openAt r.travel r.t (d.1 % 65536), d.2)
  else (g.openAt r.travel r.t 0, s)

end Sys2Proof.Machine
end

