-- ==== Sys2Proof/Machine/Shed.lean ====
section
/-! DEFINITION. Lines and frames in a context's ring (05_ingest_and_contexts.md R147 to R150, R169; 01_architecture.md R40),
and shedding (05 R158). -/
namespace Sys2Proof.Machine

def Context.frame? (x : Context) (no : Nat) : Option Frame := x.frames.find? fun f => f.no == no
def Context.modFrame (x : Context) (no : Nat) (f : Frame → Frame) : Context :=
  { x with frames := x.frames.map fun y => if y.no == no then f y else y }
def State.modFrame (s : State) (c no : Nat) (f : Frame → Frame) : State := s.modCtx c fun x => x.modFrame no f

/-- Lines that the Facet has yet to take, oldest first. -/
def Context.untaken (x : Context) : List Line := x.ring.filter fun l => !l.taken
/-- Words stored and not yet taken: pend (05 R157). -/
def Context.pend (x : Context) : Nat := (x.untaken.map fun l => l.words).foldl (· + ·) 0
/-- Words of a partition in use. -/
def Context.fill (x : Context) : Nat := (x.ring.map fun l => l.words).foldl (· + ·) 0

/-- Rows that stages 3, 7 and 9 hold: two in 3 and 7, two in 9 (06 R201, Table 6-9). -/
def stageLag : Nat := 4

/-- The stages that may ask for a line's replay have passed it: the line lies behind the rows that they hold, or its frame has ended (01 R40). (log 150 DEDUCED) -/
def Context.passed (x : Context) (l : Line) : Bool :=
  match x.frame? l.frame with
  | some f => f.shed || f.home == 0x1F || decide (l.y + (if x.bind.kind = 3 then 0 else stageLag) < f.rows.length)
  | none => true

/-- Lines leave the ring once the Facet, with its stages, and the raw tap are through with them (01 R40; 05 R150). (log 150 DEDUCED) -/
def Context.release (x : Context) : Context := { x with ring := x.ring.filter fun l => !(l.taken && l.tapped && !l.waits && x.passed l) }

/-- FLAGS of a frame gain a bit. -/
def Frame.flag (f : Frame) (b : BitVec 16) : Frame := { f with flags := f.flags ||| b }

/-! Rings and their partitions (R147 to R149). -/

/-- The context bound to a virtual channel of a port, as packets find it: an unbinding that waits for delivery alone has taken
effect here, and a change of this very cycle has not (R169). A context whose partition waits for others to shrink is not yet bound
(notes/assumptions/162). (log 162 DEDUCED) -/
def State.ctxOn (s : State) (n vc : Nat) : Option Nat :=
  s.bound.find? fun c =>
    let x := s.ctx c
    x.bind.port == n && x.bind.vc == vc && !(x.unbindPending && x.state != .inFrame && x.unbindAt != s.now) && x.ringWords != 0 && !(x.state == .waitStart && x.boundAt == s.now)

/-- Words now stored in a port's ring. -/
def State.ringFill (s : State) (n : Nat) : Nat := sumNat ((s.portCtxs n).map fun x => (s.ctx x.1).fill)

/-- The partition of a context can take one line (R149). -/
def State.lineRoom (s : State) (c : Nat) : Bool := let x := s.ctx c; decide (x.fill + x.bind.lineWords ≤ x.ringWords)

/-- Room for a line whose header has just arrived; lines before it that still wait for the end of their cycle come first. (log 142 DEDUCED) -/
def State.headerRoom (s : State) (n vc dt : Nat) : Bool :=
  match s.ctxOn n vc with
  | some c => 
    let x := s.ctx c
    dt != x.bind.dt || decide (x.fill + ((x.ring.filter fun l => l.waits).length + 1) * x.bind.lineWords ≤ x.ringWords)
  | none => true

/-- Room that the arrival of a header sees: space released in the same cycle counts (R149, R169); a packet that has ended is
judged when the cycle ends. (log 142 DEDUCED) -/
def State.seeRelease (s : State) (c : Nat) : State :=
  s.modPort (s.ctx c).bind.port fun p =>
    { p with packet := p.packet.map fun k => if k.headAt = s.now && !k.room then { k with room := s.headerRoom (s.ctx c).bind.port k.vc k.dt } else k }

/-! Shedding (R158). -/

/-- Contexts that a Facet holds now. -/
def State.members (s : State) (f : Nat) : List Nat := s.bound.filter fun c => (s.ctx c).home == f

/-- Contexts by class and number as lists take them: bulk first and highest number first, or safety first and lowest number
first. -/
def State.byClassDown (s : State) (l : List Nat) : List Nat := sortByKey (fun c => (3 - (s.ctx c).bind.cls) * 256 + (255 - c)) l
def State.byClassUp (s : State) (l : List Nat) : List Nat := sortByKey (fun c => (s.ctx c).bind.cls * 256 + c) l

/-- The frame that c has opened in this cycle is shed after all: the choice of a victim comes first (05 R169). -/
def State.shedFrame (s : State) (c : Nat) : State :=
  let x := s.ctx c
  match (if x.state = .inFrame then x.frame? x.frameNo else none) with
  | some f =>
    if f.openedAt != s.now || f.shed then s
    else
      let s := match s.ring.openRec? c true f.no with | some d => s.recDrop d | none => s
      ((s.setCtx c
        ({ x with shedNow := true, counts0 := bump x.counts0 39 24
                  ring := x.ring.map fun (l : Line) => if l.frame == f.no then { l with taken := true } else l }.modFrame f.no fun y =>
          { y with shed := true, formed := [], rows := [] }).release).raise (evCtx c) 1).seeRelease c
  | none => s

/-- Choose one more victim (Table 5-2). -/
def State.addVictim (s : State) (f : Nat) : State :=
  match s.byClassDown ((s.members f).filter fun c => !(s.ctx c).victim) with
  | c :: _ => (s.modCtx c fun x => { x with victim := true }).shedFrame c
  | [] => s

/-- pend has reached 7/8 of the partition. -/
def Context.brimful (x : Context) : Bool := x.pend != 0 && decide (7 * x.ringWords ≤ 8 * x.pend)

/-- A line of context c has been stored, or its partition has changed; `full`: pend had reached 7/8 before (R158). (log 141 DEDUCED) -/
def State.shedUp (s : State) (c : Nat) (full : Bool) : State :=
  let x := s.ctx c
  let f := x.home
  if f = 0x1F then s
  else
    let s := if !(s.facet f).shedding && x.pend != 0 && decide (3 * x.ringWords ≤ 4 * x.pend) then
        ((s.modFacet f fun y => { y with shedding := true }).addVictim f).raise (evFacet f) 1
      else s
    if (s.facet f).shedding && !(s.ctx c).victim && !full && x.brimful then s.addVictim f
    else s

/-- Shedding ends when every context's pend is below a quarter (R158). -/
def State.shedDown (s : State) (f : Nat) : State :=
  if (s.facet f).shedding && (s.members f).all fun c => (s.ctx c).pend == 0 || decide (4 * (s.ctx c).pend < (s.ctx c).ringWords) then
    let s := s.modFacet f fun y => { y with shedding := false }
    ((s.members f).foldl (fun (s : State) c => s.modCtx c fun x => { x with victim := false }) s).raise (evFacet f) 1
  else s

/-! Partitions (R148). -/

/-- Partitions of a port as its bindings ask for them. -/
def State.askedRings (s : State) (n : Nat) : List (Nat × Nat) := partitions (s.ringTotal n) (s.portCtxs n)

/-- They take effect when no frame of the port is open and each holds what is stored in it (R148). (log 103 DEDUCED, 162 DEDUCED) -/
def State.settlePartitions (s : State) (n : Nat) : State :=
  let l := s.askedRings n
  if l.any fun x => (s.ctx x.1).state == .inFrame || decide (x.2 < (s.ctx x.1).fill) then s
  else l.foldl (fun s x => s.modCtx x.1 fun y => { y with ringWords := x.2 }) s

/-- Partitions that take effect on a port, judged like the lines stored in them (R148, R158). -/
def State.settleRings (s : State) (n : Nat) : State :=
  let t := s.settlePartitions n
  let t := (s.portCtxs n).foldl (fun (t : State) x => t.shedUp x.1 (s.ctx x.1).brimful) t
  (s.portCtxs n).foldl (fun (t : State) x => t.shedDown (t.ctx x.1).home) t

/-- A line has been stored: PEAK_WORDS, and what its pend sets off (R158, R172); `full`: pend had reached 7/8 before. -/
def State.lineStored (s : State) (c : Nat) (full : Bool) : State :=
  let n := (s.ctx c).bind.port
  let fill := s.ringFill n
  (s.modPort n fun p => { p with peak := max p.peak fill }).shedUp c full

/-- Partitions that differ from what the bindings ask for take effect as soon as they can (R148). -/
def State.stepRings (s : State) : State :=
  ((s.bound.map fun c => (s.ctx c).bind.port).eraseDups).foldl (fun (s : State) n =>
    if (s.askedRings n).any fun x => (s.ctx x.1).ringWords != x.2 then s.settleRings n else s) s

/-- A line that found no room, at the end of its header's cycle: room released in the cycle takes it, or it is missing (R149, R169). -/
def State.judgeLine (s : State) (c : Nat) (l : Line) : State :=
  let x := s.ctx c
  let fits := s.lineRoom c
  let s := s.setCtx c
    { x with ring := x.ring.map fun (y : Line) => if y.frame == l.frame && y.y == l.y then
               (if fits then { y with words := x.bind.lineWords, missing := false, waits := false } else { y with bytes := [], waits := false }) else y
             counts1 := if fits then x.counts1 else bump x.counts1 7 0 }
  let s := s.modCtx c Context.release
  if fits then s.lineStored c x.brimful else s.raise (evPort x.bind.port) 0x0F

end Sys2Proof.Machine
end

