-- ==== Sys2Proof/Machine/FacetRun.lean ====
section
/-! DEFINITION. Frames in a Facet: the first row of a frame (07 R214, R217; 08 R254; 09 R281), concealment (06 R200), the
frame's end with its outputs, tag blocks, checks and statistics (06 R190, R201; 07 R205 to R236), and frames that are
lost (15 R445). -/
namespace Sys2Proof.Machine

/-! Rows. -/

/-- Distance of the nearest row of the same colours. -/
def phaseStep (p : ParamSet) : Nat := if cfaOf p = 0 then 1 else 2

/-- Concealed rows (held as empty lists) take the nearest earlier row of their phase, or the row mirrored in (06 R200); a
row that mirrors onto nothing holds open bytes (notes/assumptions/16). -/
def resolveRows (d n : Nat) (rows : List (List Byte)) : List (List Byte) :=
  (rows.zipIdx.foldl (fun (acc : List (List Byte)) (r : List Byte × Nat) =>
    let v :=
      if !r.1.isEmpty || n = 0 then r.1
      else if d ≤ r.2 then acc.getD (d - 1) []
      else
        let m := rows.getD (d - r.2) []
        if m.isEmpty then (List.range n).map fun x => BitVec.ofNat 8 (Config.openSample 3 x r.2) else m
    v :: acc) []).reverse

/-- A SHORT frame padded by repeating its last line (05 Table 5-3). -/
def padTo (n : Nat) (l : List α) : List α :=
  match l.getLast? with
  | some v => l ++ List.replicate (n - l.length) v
  | none => l

/-- Rows and stamps of a frame as its outputs see them. -/
def Frame.picture (f : Frame) (b : Bind) : List (List Byte) × List RowStamp :=
  let rows := resolveRows (phaseStep f.params) b.lineBytes f.rows
  let pad := !f.isOpen && b.padShort && f.flags &&& flagShort != 0
  if pad then (padTo b.height rows, padTo b.height f.stamps) else (rows, f.stamps)

/-- The stages over the rows taken so far. -/
def Frame.staged (f : Frame) (x : Context) (rows : List (List Byte)) : Staged := runStages x.bind f.params f.shade f.defects (match x.lc with | some g => if g.1 = f.home then some g.2 else none | none => none) rows

def Frame.inUse (f : Frame) (b : Bind) (o : Nat) : OutRec := outRec b (f.outs.getD o [])

/-- CAPTURE_TIME in ns: row 0's mid-exposure (Table 7-7). -/
def State.capture (s : State) (f : Frame) : Nat :=
  match f.stamps with | t :: _ => s.unstamp t.t | [] => s.dtNs

/-! The first row. -/

/-- The plan in force takes coding, or raw, frames of this number. -/
def Ring.plans? (r : Ring) (c no : Nat) (coding : Bool) : Bool :=
  let w := r.plan c
  bit w 39 && bit w 38 == coding && no % (fld w 37 34 + 1) == 0

/-- A frame as the ring is asked for it: DT is that of a raw record (R271, R280). -/
def State.askRing (s : State) (c frame : Nat) (raw : Bool) : Skipped :=
  let b := (s.ctx c).bind
  { context := c, frame := frame, raw := raw, dt := if raw then b.dt else 0, reserve := s.recordF c (!raw), cls := b.cls }

/-- The plan's gate at the frame's first row (07 R214). (log 112 DEDUCED) -/
def State.planGate (s : State) (c : Nat) (t : RowStamp) : Bool × State :=
  let w := s.ring.plan c
  if bit w 33 then s.gateAtRow (fld w 32 25) t else (true, s)

/-- The destinations of a frame that an output forms, at its first row: descriptor, staging, ring space. (log 112 DEDUCED, 115 DEDUCED) -/
def State.beginOutput (s : State) (c o : Nat) (f : Frame) (t : RowStamp) : State :=
  let x := s.ctx c
  let b := x.bind
  let r := f.inUse b o
  let at_ := f.compat.getD o none
  let size := r.size b
  let h := if !r.host then (false, s)
    else match (x.out o).ring with
      | none => (false, s.hostDrop c o)
      | some (e, ch) =>
        let g := s.takeDesc e ch (r.hostBytes b (if at_ == some false then 4 else 0) (if at_ == some true then 4 else 0))
        if g.1 then g else (false, g.2.hostDrop c o)
  let s := h.2
  let s := if o = 0 && r.backbone then s.stageFrames false c r.format size.1 size.2 (s.unstamp t.t) else s
  let k := if o = 1 && r.sillage && !f.ringAsked && s.ring.plans? c f.no true then
      let g := s.planGate c t
      if g.1 then g.2.ringAdmit (g.2.askRing c f.no false) else (false, g.2)
    else (false, s)
  k.2.modFrame c f.no fun y => { y with hostOk := y.hostOk.set o h.1, ringAsked := y.ringAsked || k.1 }

/-- The first row of a frame reaches its Facet: gates, decimation and destinations are decided (R214). -/
def State.beginFrame (s : State) (c no : Nat) : State :=
  match (s.ctx c).frame? no with
  | none => s
  | some f =>
    if f.begun then s
    else
      let t := f.stamps.headD { t := s.stamp, travel := 0, degraded := false }
      let s := s.modFrame c no fun y => { y with begun := true, formed := [false, false, false], hostOk := [false, false, false] }
      (List.range 3).foldl (fun (s : State) o =>
        let r := f.inUse (s.ctx c).bind o
        if !r.enable || no % (r.decimate + 1) ≠ 0 then s
        else
          let g := if r.gateEn then s.gateAtRow r.gate t else (true, s)
          let s := g.2
          if !g.1 then s.modCtx c fun x => x.modOut o fun y => { y with counts := bump y.counts 23 16 }
          else s.beginOutput c o { f with formed := f.formed.set o true } t |>.modFrame c no fun y => { y with formed := y.formed.set o true }) s

/-! Display lines on their way to streams (08 R254). -/

/-- Rows by which an output's rows lag behind the input, so that none leaves before every row that it depends on: the rows that the stages hold,
and more where the windows of the stages in use together reach further (06 R201). (log 27 DEDUCED) -/
def Frame.lag (f : Frame) (b : Bind) : Nat := max stageLag (rowReach b f.params)

/-- One display line as it is sent: its number and its bytes (R213). (log 27 DEDUCED) -/
def displayLine (f : Frame) (x : Context) (r : OutRec) (rows : PxImg) (k : Nat) : Nat × List Byte :=
  let l := (subsample r.format [verticalRow r (x.out 0).coefV rows k]).map fun l => l.map (reducePx 0 f.params r.format)
  let l := l.headD []
  let l := if r.orient % 2 = 1 then l.reverse else l
  (if 2 ≤ r.orient then r.outH - 1 - k else k, packLine r.format l)

/-- Hand over the display lines that have formed; one that would be the frame's last, if the frame closed now, is held. With a tag block
the frame ends, and the last line brings it. (log 27 DEDUCED) -/
def State.feedDisplay (s : State) (c : Nat) (f : Frame) (tag : Option (List Word)) : State :=
  let x := s.ctx c
  let r := f.inUse x.bind 0
  if !(f.formed.getD 0 false) || !r.backbone || (s.openStaged false c).isEmpty then s
  else
    let pic := f.picture x.bind
    let rows := scaledRows 0 f.params r (x.out 0).coefH (f.staged x pic.1)
    let ready := (List.range r.outH).filter fun k =>
      rowYields r rows.length k && (tag.isSome || decide (r.cropY + rowNeeds r k + f.lag x.bind < f.rows.length))
    let closing := (List.range r.outH).filter fun k => rowYields r rows.length k
    let ready := if tag.isSome || closing.getLast? != ready.getLast? then ready else ready.dropLast
    let fresh := ready.filter fun k => decide (f.sent ≤ k)
    let s := fresh.foldl (fun s k =>
      let l := displayLine f x r rows k
      s.streamLine false c r.format r.outW l.1 l.2 (if some k = ready.getLast? then tag else none)) s
    let s := s.modFrame c f.no fun y => { y with sent := f.sent + fresh.length }
    if tag.isSome && ready.isEmpty then s.streamLost false c else s

/-! Lines on their way to the host (R213, R217). -/

/-- The direction of the COMPAT unit of an output, as its frame has it. -/
def Frame.compatIs (f : Frame) (o : Nat) (dirIn : Bool) : Bool := f.compat.getD o none == some dirIn

/-- The Facet's host-bound output buffers in bytes (R217). -/
def hostBuffers : Nat := 2097152

/-- Bytes that wait in the host-bound buffers of a Facet. What lies in external memory waits there (01 R19). -/
def State.hostQueued (s : State) (f : Nat) : Nat :=
  sumNat ((s.bound.filter fun c => (s.ctx c).home == f).flatMap fun c =>
    (List.range 3).map fun o => match ((s.ctx c).out o).ring with
      | some (e, ch) => sumNat ((s.chan e ch).transfers.map fun t => if t.ext then 0 else t.bytes.length)
      | none => 0)

/-- The host destination drops a frame in progress: what has been written stays, and the descriptor goes back DROPPED (R217). (log 27 DEDUCED) -/
def State.hostLost (s : State) (c o : Nat) (f : Frame) (e ch : Nat) : State :=
  ((s.dropDesc e ch).hostDrop c o).modFrame c f.no fun y => { y with hostOk := y.hostOk.set o false }

/-- A resampled output whose rows' places are known as they form: no flip, no rotation, one plane. -/
def OutRec.inGridOrder (r : OutRec) : Bool := r.resample && decide (r.orient < 2) && (formatPlanes r.format r.outH).length == 1

/-- The resampled rows that the first m rows of the crop give. -/
def State.resampledRows (s : State) (c o : Nat) (f : Frame) (r : OutRec) (m : Nat) : Resampled :=
  let x := s.ctx c
  let pic := f.picture x.bind
  resample r f.no (x.out o).lastRow ((scaledRows o f.params r (x.out o).coefH (f.staged x pic.1)).take m) pic.2

/-- Rows of an output that its frame has formed for good: those that later input rows do not change. A flipped resampled frame, whose height
is known at its end alone, hands none over before. (log 27 DEDUCED, 151 DEDUCED) -/
def State.hostRows (s : State) (c o : Nat) (f : Frame) (r : OutRec) (avail : Nat) : Nat :=
  let x := s.ctx c
  if x.bind.kind = 3 then f.rows.length - 1
  else if r.resample then
    let m := min avail (f.rows.length - f.lag x.bind - r.cropY)
    if r.inGridOrder && 2 ≤ m then (s.resampledRows c o f r m).rows.length else 0
  else
    let n := yielded o r avail fun k => decide (r.cropY + rowNeeds r k + f.lag x.bind < f.rows.length)
    if r.transposes then n / 16 * 16 else n

/-- Rows `a` to `a + n` of an output as host transfers. Under COMPAT OUT a line that is delivered in tiles gets its trailer when it is whole. -/
def State.hostBand (s : State) (c o : Nat) (f : Frame) (r : OutRec) (a n : Nat) : List Transfer :=
  let x := s.ctx c
  let b := x.bind
  let pic := f.picture b
  let compat := f.compatIs o false
  let extra := if compat then 4 else 0
  if b.kind = 3 then
    let cut := if f.compatIs o true then 4 else 0
    let l := ((pic.1.drop a).take n).map fun l => l.take (l.length - cut)
    lineTransfers compat (lineOffsets 0xB r.strideField extra (b.width - cut, b.height) (0, a) [l])
  else
    let rows := scaledRows o f.params r (x.out o).coefH (f.staged x pic.1)
    let band := if r.resample then ((s.resampledRows c o f r rows.length).rows.drop a).take n
      else (List.range n).map fun k => verticalRow r (x.out o).coefV rows (a + k)
    let full := if r.resample then (r.outW, a + n) else if r.transposes then (r.outH, r.outW) else (r.outW, r.outH)
    lineTransfers (compat && !r.transposes) (lineOffsets r.format r.strideField extra full (bandBase r.orient r.outH a n) (packPlanes r.format (deliverRows o f.params r band)))

/-- Hand rows over to the host as they form; the frame is dropped there where the Facet's buffers overflow (R217). -/
def State.feedHostTo (s : State) (c o : Nat) (f : Frame) (n : Nat) : State :=
  let r := f.inUse (s.ctx c).bind o
  let sent := f.hostSent.getD o 0
  match ((s.ctx c).out o).ring with
  | some (e, ch) =>
    if !f.hostOk.getD o false || n ≤ sent then s
    else
      let ts := s.hostBand c o f r sent (n - sent)
      if hostBuffers < s.hostQueued f.home + sumNat (ts.map fun t => t.bytes.length) then s.hostLost c o f e ch
      else (s.giveLines e ch ts).modFrame c f.no fun y => { y with hostSent := y.hostSent.set o n }
  | none => s

/-- The rows that have formed for good, of every output. (log 27 DEDUCED) -/
def State.feedHost (s : State) (c : Nat) (f : Frame) : State :=
  (List.range 3).foldl (fun (s : State) o =>
    let r := f.inUse (s.ctx c).bind o
    if f.formed.getD o false && r.host && f.hostOk.getD o false then
      let avail := cropRows r (f.picture (s.ctx c).bind).1.length
      s.feedHostTo c o f (s.hostRows c o f r avail)
    else s) s

/-! Check units (R233 to R236). -/

/-- A frame of an output has been formed: the unit that watches it compares. -/
def State.checkFrame (s : State) (c o no : Nat) (crc : BitVec 32) (lineErrors : Nat) : State :=
  (List.range 32).foldl (fun (s : State) k =>
    let x := s.check k
    if fld x.cfg 39 38 = 0 || fld x.cfg 36 29 ≠ c || fld x.cfg 28 27 ≠ o || 2 ^ 39 ≤ (no + 2 ^ 40 - x.firstFrame) % 2 ^ 40 then s
    else match fld x.cfg 39 38 with
      | 1 =>
        let x' := { x with seq := (x.seq + 1) % 256, lastCrc := crc }
        if x.expectedAt s.now (no % (fld x.cfg 26 23 + 1)) = crc then s.setCheck k x'
        else (s.setCheck k { x' with counts := bump x.counts 39 24 }).raise (evCheck k) 1
      | 2 =>
        match x.prev with
        | none => s.setCheck k { x with prev := some crc }
        | some v =>
          let x' := { x with seq := (x.seq + 1) % 256, lastCrc := crc, prev := some crc }
          if v = crc then
            let x' := { x' with counts := bump x.counts 23 16 }
            if fld x'.counts 23 16 = fld x.cfg 22 15 && !x.frozenRaised then (s.setCheck k { x' with frozenRaised := true }).raise (evCheck k) 2
            else s.setCheck k x'
          else
            let x' := { x' with counts := setFld x.counts 23 16 0, frozenRaised := false }
            if x.frozenRaised then (s.setCheck k x').raise (evCheck k) 3 else s.setCheck k x'
      | _ =>
        if lineErrors = 0 then s else (s.setCheck k { x with counts := bump x.counts 15 0 lineErrors }).raise (evCheck k) 4) s

/-! The end of a frame. -/

/-- Where a frame's record lies in the ring (R231): none for a frame that the ring did not take. -/
def State.ringPlace (s : State) (c no : Nat) : Option (Nat × Bool × Nat) :=
  match (s.ring.openRec? c false no).bind recPlace with
  | some (ssn, off) => some (ssn, true, off)
  | none => ((s.ring.openRec? c true no).bind recPlace).map fun p => (p.1, false, p.2)

/-- Facts of an output frame for its tag blocks. (log 33 DEDUCED) -/
def State.tagFacts (s : State) (c o : Nat) (f : Frame) (r : OutRec) (of : OutFrame) (ring : Option (Nat × Bool × Nat)) : TagFacts :=
  let b := (s.ctx c).bind
  { kind := o, format := r.format, context := c, port := b.port, vc := b.vc, frameNo := f.no, capture := s.capture f
    first := (of.stamps.head?.map fun t => t.2).getD 0, last := (of.stamps.getLast?.map fun t => t.2).getD 0, exposure := f.exposure
    gain := f.gain, flags := f.flags ||| of.flags, linesIn := f.lines, crc := of.crc, ring := ring, width := of.width
    height := of.height, payload := of.payload (r.hostFormat b) r.strideField, outStamp := s.stamp }

/-- A display frame as an Accord source (R223, R226): 10-bit codes widened from 8 bits, still in the display format's
components. -/
def sourceCodes (format : Nat) (codes : PxImg) : List (List (Nat × Nat × Nat)) :=
  let w := fun v => if format = 0 || format = 2 then 4 * v + v / 64 else v
  let pair := fun (l : List Px) => if 2 ≤ format then l.zipIdx.map fun q => let e := l.getD (q.2 / 2 * 2) q.1; ({ r := q.1.r, g := e.g, b := e.b } : Px) else l
  codes.map fun l => (pair l).map fun q => (w q.r, w q.g, w q.b)

/-- An Accord has this context's display output as a source. -/
def State.isSource (s : State) (c : Nat) : Bool :=
  (List.range s.variant.accords).any fun a => (List.range 16).any fun k =>
    let x := (s.accord a).source k
    (bit (pw x.cfg 0) 39 && fld (pw x.cfg 0) 38 31 == c) || (Due.waiting x.pending).any fun w => bit (pw w 0) 39 && fld (pw w 0) 38 31 == c

/-- A source frame is complete, in the buffer of the oldest: canvases locked to it fall due, those of an OFF Accord by the records that
wait (R223, R228). -/
def State.sourceDone (s : State) (c : Nat) (f : SourceFrame) : State :=
  let s := s.modCtx c fun x => { x with sources := (f :: x.sources).take 3 }
  (List.range s.variant.accords).foldl (fun (s : State) a =>
    s.modAccord a fun x =>
      let r := x.running
      let w := pw r 0
      if bit w 39 && fld w 30 29 == 2 && fld (pw (x.lockSource (fld w 28 25)) 0) 38 31 == c then
        { x with dueAt := x.dueAt ++ [s.local16 + 16 * fld (pw r 3) 39 8], lockAt := s.local16, lockStale := false }
      else x) s

/-- The last rows of a finished frame, its row-stamp table and its tag block go to the host (R216). A resampled frame whose direction turned
while it was received is written again, as its whole run of rows has it. A flipped one is read from the resampler's buffers in external memory
(01 R19; R222). (log 151 DEDUCED) -/
def State.deliverHost (s : State) (c o : Nat) (f : Frame) (of : OutFrame) (t : TagFacts) : State :=
  let b := (s.ctx c).bind
  let r := f.inUse b o
  let fmt := r.hostFormat b
  let trailer := f.compatIs o false
  let bytes := b.kind = 3
  let whole := r.resample && !r.inGridOrder
  let again := r.inGridOrder && !resampleSteady r f.stamps (cropRows r f.stamps.length)
  let f := if again then { f with hostSent := f.hostSent.set o 0 } else f
  let s := if whole then s else s.feedHostTo c o f (if r.transposes && !bytes then of.width else of.height)
  let ok := match (s.ctx c).frame? f.no with | some f => f.hostOk.getD o false | none => false
  match ((s.ctx c).out o).ring with
  | some (e, ch) =>
    if !ok then s
    else
      let ts := (if whole then fromMemory (of.transfers fmt r.strideField trailer) else [])
        ++ (if trailer && r.transposes && !bytes && !whole then of.trailers fmt r.strideField else []) ++ (if r.stamps then of.tableTransfer fmt r.strideField trailer else [])
      (s.giveFrame e ch ts (t.block 0 ((s.ctx c).out o).dropsHost) false).modCtx c fun x => x.modOut o fun y => { y with dropsHost := 0 }
  | none => s

/-- Deliver one finished output frame (R216, R223, R231; 09 R272). -/
def State.deliver (s : State) (c o : Nat) (f : Frame) (of : OutFrame) (ring : Option (Nat × Bool × Nat)) : State :=
  let x := s.ctx c
  let r := f.inUse x.bind o
  let y := x.out o
  let t := s.tagFacts c o f r of ring
  let s := if f.hostOk.getD o false then s.deliverHost c o f of t else s
  let s := if o = 0 && r.backbone then s.feedDisplay c f (some (t.block 1 0)) else s
  let s := if o = 0 && s.isSource c then
      s.sourceDone c { seq := (match x.sources with | z :: _ => z.seq | [] => 0) + 1, doneAt := s.now, rows := sourceCodes r.format of.codes
                       csc := cscOf f.params 0, width := of.width, height := of.height, flags := t.flags, capture := t.capture, firstTravel := t.first }
    else s
  if o = 1 then
    match s.ring.openRec? c false f.no with
    | some d =>
      (s.recEnd d (t.block 2 y.dropsRing) false).modCtx c fun x => x.modOut o fun y => { y with dropsRing := 0 }
    | none => s
  else s

/-- Poisoned ranges that lie within n bytes, as a record lists them (01 R39; 09 Table 9-4). -/
def badRanges (n : Nat) (l : List (Nat × Nat)) : List (Nat × Nat × Nat) :=
  (l.filter fun (p : Nat × Nat) => decide (p.1 + p.2 ≤ n) && p.2 != 0).map fun (p : Nat × Nat) => (p.1, p.2, 1)

/-- Form one output of a frame that has ended (Table 7-1): it is counted and checked, and a coding frame's payload goes to the ring. -/
def State.finishOutput (s : State) (c o : Nat) (f : Frame) (of : OutFrame) : State :=
  let s := s.modCtx c fun x => x.modOut o fun y =>
    { y with counts := bump y.counts 39 24, rsCounts := bump (bump y.rsCounts 39 20 of.skipped) 19 0 of.omitted, lastRow := of.last }
  let s := if of.omitted = 0 then s else s.raise (evCtx c) 8
  let s := s.checkFrame c o f.no of.crc of.lineErrors
  match (if o = 1 then s.ring.openRec? c false f.no else none) with
  | some d =>
    let s := s.recStage { d with capture := some (s.capture f) } (of.planes.flatten.flatten) (badRanges of.planes.flatten.flatten.length f.codingBad)
    match s.ring.openRec? c false f.no with
    | some d => (s.recFlush d false).2
    | none => s
  | none => s

/-- The outputs of a frame that has ended: all are formed before any tag block, so that each says where the ring holds the frame (R231). -/
def State.endOutputs (s : State) (c : Nat) (f : Frame) (l : List (Nat × OutFrame)) : State :=
  let s := l.foldl (fun (s : State) x => s.finishOutput c x.1 f x.2) s
  let ring := s.ringPlace c f.no
  l.foldl (fun (s : State) x => s.deliver c x.1 f x.2 ring) s

/-- A coding record that the ring took at the frame's start and whose output has not formed the frame goes without a TAG piece (09 R281). -/
def State.dropCoding (s : State) (c no : Nat) : State :=
  match s.ring.openRec? c false no with
  | some d => s.recDrop d
  | none => s

/-- The raw record's payload is all staged: its pieces are placed before any tag block is formed (09 R272). -/
def State.flushRaw (s : State) (c no : Nat) : State :=
  match s.ring.openRec? c true no with
  | some d => (s.recFlush d false).2
  | none => s

/-- End the raw record of a frame with its TAG piece (09 R272). (log 29 DEDUCED) -/
def State.endRaw (s : State) (c : Nat) (f : Frame) : State :=
  match s.ring.openRec? c true f.no with
  | none => s
  | some d =>
    let b := (s.ctx c).bind
    let y := (s.ctx c).out 1
    let t : TagFacts :=
      { kind := 2, format := 0xB, context := c, port := b.port, vc := b.vc, frameNo := f.no, capture := s.capture f
        first := (f.stamps.head?.map fun t => t.travel).getD 0, last := (f.stamps.getLast?.map fun t => t.travel).getD 0
        exposure := f.exposure, gain := f.gain, flags := f.flags, linesIn := f.lines, crc := ~~~d.crc, ring := s.ringPlace c f.no
        width := b.width, height := min 65535 f.lines, payload := d.offset, outStamp := s.stamp }
    (s.recEnd d (t.block 2 y.dropsRing) false).modCtx c fun x => x.modOut 1 fun y => { y with dropsRing := 0 }

/-- The statistics of a frame wait to be written (06 R190 to R192). -/
def State.statsOf (s : State) (c : Nat) (f : Frame) (st : Staged) : State :=
  let b := (s.ctx c).bind
  let a := frameStats b f.params st
  let d : StatsDue :=
    { frame := f.no, sofStamp := (f.stamps.head?.map fun t => t.t).getD s.stamp, paramFrame := f.paramFrame, sumSat := a.sumSat
      aValid := stageEn f.params 6 && b.kind != 2, bValid := stageEn f.params 11, zonesX := statsZonesX f.params, zonesY := statsZonesY f.params
      satTotal := min (2 ^ 40 - 1) a.sat, body := a.body }
  s.modCtx c fun x =>
    { x with statsDue := x.statsDue ++ [d], lc := some (f.home, st.means), pipeCounts := bump (bump x.pipeCounts 39 24 st.dynamic) 23 8 st.clipped }

/-- A frame has ended and all of its lines have been taken: its outputs, its records and its statistics. (log 27 DEDUCED) -/
def State.endFrame (s : State) (c : Nat) (f : Frame) : State :=
  let s := s.flushRaw c f.no
  let x := s.ctx c
  let s :=
    if f.shed || f.home = 0x1F then s
    else
      let pic := f.picture x.bind
      if x.bind.kind = 3 then
        if f.formed.getD 2 false then s.endOutputs c f [(2, formBytes (f.compatIs 2 true) x.bind.width x.bind.height pic.1 pic.2)] else s
      else
        let st := f.staged x pic.1
        let l := ([1, 0, 2].filter fun o => f.formed.getD o false).map fun o => (o, formOutput o f.params (f.inUse x.bind o) (x.out o) f.no st pic.2)
        (s.endOutputs c f l).statsOf c f st
  let s := (s.dropCoding c f.no).endRaw c f
  s.modCtx c fun x => { x with frames := x.frames.filter fun y => y.no != f.no }.release

/-- Clocks for which a line occupies the Facet (R157). -/
def Bind.clocks (b : Bind) : Nat := if b.kind = 3 then ceilDiv b.width 8 else ceilDiv b.width 4

/-- A line, or the substitute for a missing one, has passed a Facet: LINES and the clocks of BUSY (R200, R204). -/
def State.lineTaken (s : State) (f clocks : Nat) : State :=
  s.modFacet f fun y => { y with counts := bump y.counts 39 20, busy := (s.now, clocks) :: y.busy.filter fun t => decide (s.now < t.1 + cyclesPerMs) }

/-- Oldest line not yet taken, where it is the place of a missing one: it is concealed (05 R149; 06 R200). -/
def State.concealMissing : Nat → State → Nat → State
  | 0, s, _ => s
  | n + 1, s, c =>
    let x := s.ctx c
    match x.untaken with
    | l :: _ =>
      match x.frame? l.frame with
      | some f =>
        if l.missing && !l.waits && f.home != 0x1F then
          let b := x.bind
          let s := s.beginFrame c l.frame
          let s := s.modCtx c fun x =>
            ({ x with ring := x.ring.map fun (y : Line) => if y.frame == l.frame && y.y == l.y then { y with taken := true } else y }.modFrame l.frame fun y =>
              ({ y with rows := y.rows ++ [[]], concealed := y.concealed + 1 }).flag flagConcealed).release
          State.concealMissing n ((s.lineTaken f.home b.clocks).modFacet f.home fun z => { z with counts := bump z.counts 19 10 }) c
        else s
      | none => s
    | [] => s

/-- The oldest frame of a context that has ended, and whose lines the Facet and the raw tap are through with. (log 30 DEDUCED) -/
def Context.endedFrame (x : Context) : Option Frame :=
  match x.frames with
  | f :: _ => if !f.isOpen && !(x.ring.any fun l => l.frame == f.no && !(l.taken && l.tapped)) then some f else none
  | [] => none

/-- A context whose unbinding waits for its last frame is freed (05 R165): its plan, its host rings and its record end. -/
def State.freeCtx (s : State) (c : Nat) : State :=
  let x := s.ctx c
  let chans := ((List.range 3).filterMap fun o => (x.out o).ring) ++ (match x.statsRing with | some r => [r] | none => [])
  let s := chans.foldl (fun (s : State) r => s.modChan r.1 r.2 (Channel.closed (32 * r.1 + r.2))) s
  let s := s.modRing fun r => { r with plans := bankSet (fun _ => (0 : Word)) r.plans c 0, planPending := bankDel c r.planPending }
  let s := (s.setCtx c (x.renewed c)).modLedger fun l =>
    { l with capSteps := l.capSteps.filter fun y => y != c, thermalSteps := l.thermalSteps.filter fun y => y != c }
  (s.settleRings x.bind.port).finishWait (.ctxUnbind c) .ok

/-- Frames of a context that have become whole end, oldest first; a pending unbinding takes effect, but not in the cycle of its command (05 R169). (log 30 DEDUCED) -/
def State.settleFrames : Nat → State → Nat → State
  | 0, s, _ => s
  | n + 1, s, c =>
    let s := s.concealMissing (s.ctx c).ring.length c
    match (s.ctx c).endedFrame with
    | some f => State.settleFrames n (s.endFrame c f) c
    | none => if (s.ctx c).unbindPending && (s.ctx c).unbindAt != s.now && (s.ctx c).frames.isEmpty then s.freeCtx c else s

/-- In HOLD the Facets have stopped: nothing ends (10 R309). -/
def State.settleCtx (s : State) (c : Nat) : State :=
  if s.ledger.pstate = .hold then s else s.settleFrames ((s.ctx c).frames.length + 1) c

/-! Frames that are lost (15 R445). -/

/-- No destination receives a frame in flight: descriptors are written back DROPPED, streams end, coding records get no
TAG piece, and every destination counts the frame. Raw records go on. -/
def State.loseFrame (s : State) (c : Nat) (f : Frame) : State :=
  let x := s.ctx c
  let s := (List.range 3).foldl (fun (s : State) o =>
    let r := f.inUse x.bind o
    if !r.enable then s
    else
      let s := if !r.host then s
        else if f.hostOk.getD o false then
          match (x.out o).ring with
          | some (e, ch) => (s.dropDesc e ch).hostDrop c o
          | none => s
        else if f.begun then s
        else s.modCtx c fun x => x.modOut o fun y => { y with dropsHost := satAdd 16 y.dropsHost 1 }
      let s := if o = 0 && r.backbone then
          if f.begun then s.streamLost false c
          else (List.range 64).foldl (fun (s : State) k => if s.feeds k false c then s.modStream k fun z => { z with drops := satAdd 16 z.drops 1 } else s) s
        else s
      if o = 1 then
        match s.ring.openRec? c false f.no with
        | some d => (s.recDrop d).modCtx c fun x => x.modOut 1 fun y => { y with dropsRing := satAdd 16 y.dropsRing 1 }
        | none => s
      else s) s
  (s.modCtx c fun x =>
    ({ x with ring := x.ring.map fun (l : Line) => if l.frame == f.no then { l with taken := true } else l }.modFrame f.no fun y =>
      { y with shed := true, formed := [], rows := [] }).release).seeRelease c

end Sys2Proof.Machine
end

