-- ==== Sys2Proof/Machine/Homes.lean ====
section
/-! DEFINITION. Where contexts live: moves (05_ingest_and_contexts.md R165), quarantine and re-homing (15_service_and_faults.md R443 to R448, R455), reductions and their undoing (15 R447, R452). -/
namespace Sys2Proof.Machine

/-! Placement (15 R446, R447). -/

/-- Halvings of a context's processed frames as planned: the reduction of R447 that is coming or stands. -/
def Context.plannedReduction (x : Context) : Nat := match x.reductionPending with | some (k, _) => k | none => x.reduction

/-- A context as placement counts it. -/
def State.homeLoad (s : State) (c : Nat) : Load := { s.loadOf c with halvings := (s.ctx c).plannedReduction }

/-- The power cap and the thermal limit leave the reserve clock in use (01 R30, 17 R485). -/
def State.reserveAllowed (s : State) : Bool := (s.ledger.capDw == 0 || decide (s.ledger.planDw ≤ s.ledger.capDw)) && !s.board.thermalLimit

/-- The reserve clock is open to re-homing (01 R30). -/
def State.reserveOpen (s : State) : Bool := ((List.range s.variant.facets).any fun f => (s.facet f).state == .quarantined) && s.reserveAllowed

def State.homeCap (s : State) : Rat := if s.reserveOpen then reserveCap else facetCap

/-- Pixel rate admitted to a Facet. -/
def State.facetRate (s : State) (f : Nat) : Rat := sumRat ((s.facetCtxs f).map fun c => (s.homeLoad c).rate)

/-- A Facet has a slot and line memory for one more context. -/
def State.roomy (s : State) (f c : Nat) : Bool :=
  let l := (s.facetCtxs f).filter fun d => d != c
  (s.facet f).state == .run && decide (l.length < 6) && lineMemoryOk ((l ++ [c]).map s.homeLoad)

/-- It can take the context at a number of halvings. -/
def State.takes? (s : State) (f c halvings : Nat) : Bool :=
  s.roomy f c && decide (s.facetRate f + { s.loadOf c with halvings := halvings : Load }.rate ≤ s.homeCap)

/-- Of some Facets, the one with the least load; of equals the lowest number. -/
def State.mostSpare (s : State) (l : List Nat) : Option Nat :=
  l.foldl (fun (b : Option Nat) f => match b with | none => some f | some g => if s.facetRate f < s.facetRate g then some f else b) none

/-- The Facet that takes a context (R446). -/
def State.homeFor (s : State) (c halvings : Nat) : Option Nat := s.mostSpare ((List.range s.variant.facets).filter fun f => s.takes? f c halvings)

def State.planMove (s : State) (c f at_ : Nat) : State := s.modCtx c fun x => { x with movePending := some (f, at_) }

/-- One step of reduction, planned (R447). -/
def State.planReduce (s : State) (c at_ : Nat) : State :=
  let s := s.modCtx c fun x => { x with reductionPending := some (x.plannedReduction + 1, at_) }
  { s with service := { s.service with steps := .reduce c :: s.service.steps } }

/-- A parking, planned. (log 84 DEDUCED) -/
def State.planPark (s : State) (c at_ : Nat) : State :=
  let x := s.ctx c
  let from_ := match x.movePending with | some (g, _) => g | none => x.home
  let s := s.planMove c 0x1F at_
  { s with service := { s.service with steps := .park c from_ :: s.service.steps } }

/-- Reduce lower classes of a Facet until it takes the context; none where they do not suffice. (log 84 DEDUCED) -/
def State.reduceFor : Nat → State → Nat → Nat → Nat → Option State
  | 0, _, _, _, _ => none
  | n + 1, s, f, c, at_ =>
    if s.takes? f c (s.ctx c).plannedReduction then some s
    else
      match s.byClassDown ((s.facetCtxs f).filter fun d => decide ((s.ctx c).bind.cls < (s.ctx d).bind.cls) && decide ((s.ctx d).plannedReduction < 3)) with
      | d :: _ => State.reduceFor n (s.planReduce d at_) f c at_
      | [] => none

/-- Reduce a bulk context itself until a Facet takes it. -/
def State.reduceSelf : Nat → State → Nat → Nat → Option State
  | 0, _, _, _ => none
  | n + 1, s, c, at_ =>
    match s.homeFor c (s.ctx c).plannedReduction with
    | some f => some (s.planMove c f at_)
    | none => if (s.ctx c).plannedReduction < 3 then State.reduceSelf n (s.planReduce c at_) c at_ else none

/-- Find a home for one displaced context, making room where none is (R446, R447). -/
def State.placeCtx : Nat → State → Nat → Nat → State
  | 0, s, _, _ => s
  | n + 1, s, c, at_ =>
    match s.homeFor c (s.ctx c).plannedReduction with
    | some f => s.planMove c f at_
    | none =>
      let room := (s.mostSpare ((List.range s.variant.facets).filter fun f => s.roomy f c)).bind fun f => (s.reduceFor 19 f c at_).map fun t => t.planMove c f at_
      match room with
      | some t => t
      | none =>
        match (if (s.ctx c).bind.cls = 3 then s.reduceSelf 4 c at_ else none) with
        | some t => t
        | none =>
          let homed := s.bound.filter fun d =>
            decide ((s.ctx c).bind.cls < (s.ctx d).bind.cls) && (match (s.ctx d).movePending with | some (g, _) => g != 0x1F | none => (s.facet (s.ctx d).home).state == .run && (s.ctx d).home != 0x1F)
          match s.byClassDown homed with
          | d :: _ => State.placeCtx n (s.planPark d at_) c at_
          | [] => if (s.ctx c).bind.cls = 0 then s else s.planPark c at_

/-- A CTX_MOVE of the context is pending. -/
def State.commandedMove (s : State) (c : Nat) : Bool := s.mail.inflight.any fun i => i.wait == .ctxMove c

/-- Contexts that must leave their Facet. -/
def State.displaced (s : State) : List Nat :=
  s.byClassUp (s.bound.filter fun c =>
    let x := s.ctx c
    x.home != 0x1F && (s.facet x.home).state != .run && !s.commandedMove c)

/-- Steps planned and not in effect are withdrawn, and every displaced context is placed (R446, R455). -/
def State.plan (s : State) (at_ : Nat) : State :=
  let waiting := fun (r : RoomStep) => match r with
    | .reduce c => (s.ctx c).reductionPending.isSome
    | .park c _ => (s.ctx c).movePending.isSome
  let s := { s with service := { s.service with steps := s.service.steps.filter fun r => !waiting r } }
  let s := s.bound.foldl (fun (s : State) c =>
    if s.commandedMove c then s else s.modCtx c fun x => { x with movePending := none, reductionPending := none }) s
  s.displaced.foldl (fun (s : State) c => State.placeCtx 160 s c at_) s

/-- CONCEAL_1S (R443). -/
def State.conceal1s (s : State) (f : Nat) : Nat := ((s.facet f).conceals.filter fun t => decide (s.dtNs < t + 1000000000)).length

/-- SLOTS of Facet[f].Status. -/
def State.slotMask (s : State) (f : Nat) : Nat := maskOf ((s.members f).map fun c => (s.ctx c).slot)

/-- Quarantine of a Facet (R444 to R447, R455). -/
def State.quarantine (s : State) (f : Nat) : State :=
  let here := s.members f
  let y := s.facet f
  let data := s.slotMask f * 2 ^ 58 + s.conceal1s f * 2 ^ 48
  let s := s.modFacet f fun y => { y with state := .quarantined, launched := false, reserve := false, shedding := false, visiting := none, testEnd := none }
  let s := if y.shedding then s.raise (evFacet f) 1 else s
  let s := s.raiseLog (evFacet f) 3 0 data
  let s := s.finishWait (.unitReadmit 1 f) .fault
  let s := s.finishWait (.unitDrain 1 f) .ok
  let s := here.foldl (fun (s : State) c =>
    let s := s.modCtx c fun x => { x with victim := false, lc := none }
    (s.ctx c).frames.foldl (fun (s : State) y => if y.home = f then s.loseFrame c y else s) s) s
  let s := s.bound.foldl (fun (s : State) c =>
    if s.commandedMove c && (match (s.ctx c).movePending with | some (g, _) => g == f | none => false) then
      (s.modCtx c fun x => { x with movePending := none }).finishWait (.ctxMove c) .fault
    else s) s
  let s := s.plan (s.now + 5 * cyclesPerMs)
  here.foldl (fun (s : State) c => s.settleCtx c) s

/-! Moves at a frame start (05 R165; 15 R446 to R448). -/

/-- A Facet whose last context has left under UNIT_DRAIN is drained (15 Table 15-4). (log 120 DEDUCED) -/
def State.settleDrain (s : State) (f : Nat) : State :=
  if (s.facet f).state == .draining && (s.members f).isEmpty && !(s.bound.any fun c => (s.ctx c).frames.any fun y => y.home == f) then
    ((s.modFacet f fun y => { y with state := .drained }).logPhokel (evFacet f) 0x81 2).finishWait (.unitDrain 1 f) .ok
  else s

/-- Pixel rate of the contexts that a Facet holds, at the reductions in force. -/
def State.heldRate (s : State) (f : Nat) : Rat :=
  sumRat (((s.members f).filter fun c => decide ((s.ctx c).capReduction < 4)).map fun c =>
    { s.loadOf c with halvings := max (s.ctx c).reduction (s.ctx c).capReduction : Load }.rate)

/-- The clock of a Facet at a frame boundary (01 R30): 625 MHz while its contexts do not fit within 2.4 Gpixel/s. The reserve clock is taken up
only while a Facet is quarantined, and kept until they fit. -/
def State.setClock (s : State) (f : Nat) : State :=
  if f = 0x1F then s
  else s.modFacet f fun y => { y with reserve := s.reserveAllowed && (y.reserve || s.reserveOpen) && decide (facetCap < s.heldRate f) }

/-- No Facet runs at the reserve clock while the power cap lies below the planned draw (01 R30). -/
def State.stepClocks (s : State) : State :=
  if s.reserveAllowed then s else { s with facets := s.facets.map fun (x : Nat × Facet) => (x.1, { x.2 with reserve := false }) }

/-- What has been planned for a context takes effect at a frame start, before the frame opens. (log 120 DEDUCED) -/
def State.moveStart (s : State) (c : Nat) : State :=
  let x := s.ctx c
  let due := fun (at_ : Nat) => decide (at_ ≤ s.now)
  let slots := fun (g : Nat) => g == 0x1F || g == x.home || decide ((s.members g).length < 6)
  let move := match x.movePending with | some (g, at_) => if due at_ && slots g then some g else none | none => none
  let red := match x.reductionPending with | some (k, at_) => if due at_ then some k else none | none => none
  if move.isNone && red.isNone then s.setClock x.home
  else
    let dest := move.getD x.home
    let cmd := s.commandedMove c && move.isSome
    let old := x.frames.any fun y => y.home == x.home
    let s := s.setCtx c
      { x with home := dest, slot := if dest = x.home || dest = 0x1F then x.slot else s.freeSlot dest
               bind0 := if cmd then setFld x.bind0 22 18 dest else x.bind0
               movePending := if move.isSome then none else x.movePending
               victim := x.victim && decide (dest = x.home), reduction := red.getD x.reduction
               reductionPending := if red.isSome then none else x.reductionPending
               lc := if dest = x.home || old then x.lc else none }
    let s := if cmd then s.finishWait (.ctxMove c) .ok
      else s.logPhokel (evCtx c) 0x82 (x.home * 2 ^ 59 + dest * 2 ^ 54 + red.getD x.reduction * 2 ^ 52)
    let s := (s.setClock x.home).setClock dest
    let s := if move.isSome then s.shedUp c false else s
    if x.home = 0x1F then s else (s.shedDown x.home).settleDrain x.home

/-- A Facet that its launch has readmitted begins to run (04 R143; 15 R451, R452). -/
def State.startFacet (s : State) (f : Nat) : State :=
  if (s.facet f).state == .readmitPending && (s.facet f).launched then
    ((s.modFacet f fun y => { y with state := .run, launched := false }).logUnitState 1 f).finishWait (.unitReadmit 1 f) .ok
  else s

/-- Every context bound to a Facet that runs again moves back at its next frame start (15 R452). -/
def State.comeHome (s : State) (f : Nat) : State :=
  let back := s.bound.filter fun c => (s.ctx c).bind.facet == f && ((s.ctx c).home != f || (s.ctx c).movePending.isSome) && !s.commandedMove c
  let s := back.foldl (fun (s : State) c =>
    let s := if (s.ctx c).home = f then s.modCtx c fun x => { x with movePending := none } else s.planMove c f 0
    { s with service := { s.service with steps := s.service.steps.filter fun r => match r with | .park d _ => d != c | .reduce _ => true } }) s
  { s with service := { s.service with undoAt := if s.service.steps.isEmpty then none else some (s.service.undoAt.getD s.now) } }

/-- REDUCTION_UNDO: the newest step of R447 is undone, one every 100 ms (15 R452). -/
def execReductionUndo (s : State) : Host.Outcome State Fault Refusal :=
  match s.service.undoAt, s.service.steps with
  | some t, r :: rest =>
    if s.now < t then .next s
    else
      let s : State := match r with
        | .reduce c => s.modCtx c fun x => { x with reductionPending := some (x.plannedReduction - 1, 0) }
        | .park c f => if (s.facet f).state == .run then s.planMove c f 0 else s
      .next { s with service := { steps := rest, undoAt := if rest.isEmpty then none else some (s.now + 100 * cyclesPerMs) } }
  | _, _ => .next s

end Sys2Proof.Machine
end

