-- ==== Sys2Proof/Machine/Facet.lean ====
section
/-! DEFINITION. What a Facet does by itself: the line arbiter and the taking of lines (05_ingest_and_contexts.md R157,
06_facet_pipeline.md R200, 01_architecture.md R38, R39; 15 R443), statistics records (06 R192, 12 R383), and the raw tap
(05 R150; 09 R272, R273). -/
namespace Sys2Proof.Machine

/-! The arbiter (R157). -/

/-- The oldest stored line of a context, where it belongs to a frame of this Facet. -/
def State.readyLine (s : State) (f c : Nat) : Option Line :=
  let x := s.ctx c
  match x.untaken with
  | l :: _ => match x.frame? l.frame with | some y => if y.home = f && !l.missing then some l else none | none => none
  | [] => none

/-- W[CLASS] of Facet[f].Arb. -/
def Facet.weight (f : Facet) (cls : Nat) : Nat := fld f.arb (39 - 4 * cls) (36 - 4 * cls)

def State.urgent (s : State) (c : Nat) : Bool := decide ((s.ctx c).ringWords ≤ 2 * (s.ctx c).pend)

/-- First of `pool` after `last` in number order, wrapping. -/
def firstAfter (pool : List Nat) (last : Nat) : Option Nat :=
  match pool.find? fun c => decide (last < c) with
  | some c => some c
  | none => pool.head?

/-- Visits of R157 until a line is chosen; deficits are kept in half pixels. -/
def State.arbitrate : Nat → State → Nat → Option Nat × State
  | 0, s, _ => (none, s)
  | n + 1, s, f =>
    let y := s.facet f
    let width := fun (c : Nat) => (s.ctx c).bind.pixels2
    let go := match y.visiting with
      | some c => (s.readyLine f c).isSome && decide (width c ≤ (s.ctx c).deficit)
      | none => false
    if go then (y.visiting, s)
    else
      let s := match y.visiting with
        | some c =>
          let s := if (s.readyLine f c).isSome then s else s.modCtx c fun x => { x with deficit := 0 }
          s.modFacet f fun y => { y with last := c, visiting := none }
        | none => s
      let ready := s.bound.filter fun c => (s.readyLine f c).isSome
      let urgent := ready.filter fun c => s.urgent c
      match firstAfter (if urgent.isEmpty then ready else urgent) (s.facet f).last with
      | none => (none, s)
      | some c =>
        let s := (s.modCtx c fun x => { x with deficit := x.deficit + (s.facet f).weight x.bind.cls * 2048 }).modFacet f fun y => { y with visiting := some c }
        State.arbitrate n s f

/-- The line is concealed: its data failed (01 R38, R39). -/
def faultConceals : LineFault → Bool
  | .ingestFailed | .memoryFailed | .poisoned => true
  | _ => false

/-- What payload met on its way to a segment: each run of a failure that a retry mended, and the words that stayed poisoned (Table 1-9). (log 28 DEDUCED) -/
def State.stageErrors (s : State) (e : StageErrors) : State :=
  let one := fun (code : Nat) (r : ReadErrors) (s : State) =>
    (List.replicate r.mended Delivery.mended ++ (if r.poisoned.isEmpty then [] else [Delivery.poisoned])).foldl (fun (s : State) d => s.delivered code d) s
  one 2 e.staging (one 1 e.hop s)

/-- The ranges that stayed poisoned. -/
def badOf (e : StageErrors) : List (Nat × Nat) := e.hop.poisoned ++ e.staging.poisoned

/-- Counts and events of what parity found (Table 1-9). (log 28 DEDUCED) -/
def State.lineFault (s : State) (f c : Nat) (fault : LineFault) : State :=
  let port := (s.ctx c).bind.port
  let replay := fun (s : State) => s.modFacet f fun y => { y with counts := bump y.counts 9 0 }
  match fault with
  | .none => s
  | .ingestRetried | .ingestFailed => s.parityError (evPort port) (evPort port) 0x10 0
  | .memoryReplayed => (replay s).parityError (evFacet f) (evFacet f) 2 0
  | .memoryFailed =>
    let s := (replay s).parityError (evFacet f) (evFacet f) 2 0
    s.modFacet f fun y => { y with conceals := s.dtNs :: y.conceals.filter fun t => decide (s.dtNs < t + 1000000000) }
  | .mended | .poisoned => s.parityError evFabric evFabric 1 0
  | .coding e => s.stageErrors e

/-- Take the oldest line of a context into the Facet. -/
def State.takeLine (s : State) (f c : Nat) (fault : LineFault) : State :=
  match s.readyLine f c with
  | none => s
  | some l =>
    let s := s.beginFrame c l.frame
    let bad := faultConceals fault
    let b := (s.ctx c).bind
    let s := s.modCtx c fun x =>
      ({ x with deficit := x.deficit - b.pixels2
                ring := x.ring.map fun (y : Line) => if y.frame == l.frame && y.y == l.y then { y with taken := true } else y }.modFrame l.frame fun y =>
        let y := { y with rows := y.rows ++ [if bad then [] else l.bytes]
                          codingBad := y.codingBad ++ match fault with | .coding e => badOf e | _ => [] }
        if bad then { y with concealed := y.concealed + 1 }.flag flagConcealed else y).release
    let s := s.lineTaken f b.clocks
    let s := if bad then s.modFacet f fun y => { y with counts := bump y.counts 19 10 } else s
    let s := s.lineFault f c fault
    if 3 ≤ s.conceal1s f && fault == .memoryFailed then s.quarantine f
    else
      let s := match (s.ctx c).frame? l.frame with | some y => (s.feedDisplay c y none).feedHost c y | none => s
      ((s.settleCtx c).seeRelease c).shedDown f

/-- The Facet takes lines. -/
def Facet.takesLines (f : Facet) : Bool := f.state == .run || f.state == .draining

/-- FACET_LINE_TAKE. -/
def execFacetLineTake (f : Nat) (fault : LineFault) (s : State) : Host.Outcome State Fault Refusal :=
  onUnit s.variant.facets f s
    (if !(s.facet f).takesLines || s.ledger.pstate == .hold then s
     else
       let r := s.arbitrate 200 f
       match r.1 with
       | some c => (r.2.takeLine f c fault).settleDrain f
       | none => r.2)

/-! Statistics (06 R192). -/

/-- Word i of a statistics record (Table 6-6). -/
def StatsDue.word (d : StatsDue) (c seq i : Nat) : Word :=
  match i with
  | 0 => mkWord [(39, 32, 1), (30, 30, b2n d.sumSat), (29, 29, b2n d.aValid), (28, 28, b2n d.bValid), (27, 22, d.zonesX), (21, 16, d.zonesY), (15, 8, c)]
  | 1 => BitVec.ofNat 40 d.frame
  | 2 => BitVec.ofNat 40 seq
  | 3 => d.sofStamp
  | 4 => BitVec.ofNat 40 d.satTotal
  | 5 => BitVec.ofNat 40 d.paramFrame
  | i => (d.body.lookup i).getD 0

def StatsDue.words (d : StatsDue) (c seq : Nat) : List Word := (List.range 6152).map (d.word c seq)

/-- FACET_FRAME_END: the record is written burst by burst, its last burst by reading and merging, whose read may fail (01 R37); the oldest finished frame's record is written; in LOW and HOLD the Facets have stopped (10 Table 10-1). (log 28 DEDUCED, 42 DESIGN CHOICE, 110 DEDUCED) -/
def execFacetFrameEnd (end_ : FrameEnd) (s : State) : Host.Outcome State Fault Refusal :=
  let c := end_.context
  onUnit s.variant.contexts c s
    (match (if s.ledger.pstate == .run then (s.ctx c).statsDue else []) with
     | [] => s
     | d :: rest =>
       let x := s.ctx c
       let seq := x.statsSeq.toNat + 1
       let ws := d.words c seq
       let base := Config.statsAddress c ((seq + 1) % 2)
       let mem := (List.range 6152).foldl (fun m i => memWrite m ((base + i) % s.variant.extWords) (pw ws i)) s.extMem
       let isOver := decide (2 < seq) && decide (x.statsAck.toNat < seq - 2)
       let s := ({ s with extMem := mem }).delivered 2 end_.merge
       let s := s.setCtx c { x with statsDue := rest, statsSeq := BitVec.ofNat 40 seq, loopCount := x.loopCount + 1
                                    pipeCounts := if isOver then bump x.pipeCounts 3 0 else x.pipeCounts }
       let r := match x.statsRing with | some (e, ch) => s.copyToRing e ch (hostForms ws) | none => (false, s)
       if r.1 then r.2 else r.2.raise (evCtx c) 6)

/-! The raw tap (05 R150). -/

/-- A line as a raw record holds it: whole words (09 R272). -/
def rawBytes (b : Bind) (l : Line) : List Byte :=
  let n := 5 * b.lineWords
  if l.missing then zeros n else l.bytes ++ zeros (n - l.bytes.length)

/-- RAW_TAP_COPY: the oldest line not yet copied goes to Sillage staging. -/
def execRawTapCopy (c : Nat) (errors : StageErrors) (s : State) : Host.Outcome State Fault Refusal :=
  onUnit s.variant.contexts c s
    (match (s.ctx c).ring.find? fun l => !l.tapped && !l.waits with
     | none => s
     | some l =>
       let x := s.ctx c
       let s := if l.missing then s else s.stageErrors errors
       let s := match s.ring.openRec? c true l.frame with
         | none => s
         | some d =>
           let capture := match d.capture with | some t => some t | none => (x.frame? l.frame).map fun f => s.capture f
           let bytes := rawBytes x.bind l
           let ranges := if l.missing then [(0, bytes.length, 2)] else badRanges bytes.length (badOf errors)
           s.recStage { d with capture := capture } bytes ranges
       let s := s.modCtx c fun x =>
         { x with ring := x.ring.map fun (y : Line) => if y.frame == l.frame && y.y == l.y then { y with tapped := true } else y }.release
       (s.settleCtx c).seeRelease c)

end Sys2Proof.Machine
end

