-- ==== Sys2Proof/Machine/Ingest.lean ====
section
/-! DEFINITION. From packets to frames (05_ingest_and_contexts.md R146 to R167, R171): contexts and their virtual channels,
the opening and closing of frames, lines and their repair, embedded data, row stamps (04_travel_and_time.md R140 to R142), the
rate watch (R160), and commits taking force at a frame start (06_facet_pipeline.md R196, R197). -/
namespace Sys2Proof.Machine

/-! Row stamps. -/

/-- The two samples whose times lie around an instant: the earlier and the later. (log 79 DEDUCED) -/
def historyAround (m : Int) : List Sample → Option (Sample × Sample)
  | a :: b :: r => if b.t ≤ m ∧ m ≤ a.t then some (b, a) else historyAround m (b :: r)
  | _ => none

/-- Travel at an instant in 2^-32 ns of Device Time, read from the history, and whether the row is tagged DEGRADED_TRAVEL (R141). With
no sample held, travel at the start of the cycle stands for the nearest one. (log 79 DEDUCED) -/
def State.travelAt (s : State) (m : Int) : Word × Bool :=
  let tr := s.tu.travel
  let word := fun (v : Rat) => wordOfInt (ratFloor v)
  match historyAround m tr.history with
  | some (a, b) =>
    let v : Rat := if a.t = b.t then a.v else a.v + (b.v - a.v) * ((m - a.t : Int) : Rat) / ((b.t - a.t : Int) : Rat)
    (word v, a.degraded || b.degraded)
  | none =>
    let here : Sample := { t := s.dt, v := tr.tr, degraded := tr.state == .degraded }
    let newest := tr.history.headD here
    let oldest := tr.history.getLastD here
    let a := if m < oldest.t then oldest else newest
    (word (a.v + tr.speed * ((m - a.t : Int) : Rat) / ((fracPerNs * 1000000000 : Nat) : Rat)), true)

/-- STAMP_MODE names a trigger. -/
def StampCfg.triggered (k : StampCfg) : Bool := k.mode != 3

/-- The earliest trigger of a port that the camera has seen and that nothing has matched yet (R142). -/
def State.takeTrigger (s : State) (n : Nat) : Option Nat × State :=
  match (s.port n).trigSeen with
  | t :: r => (some t.2, s.modPort n fun p => { p with trigSeen := r })
  | [] => (none, s)

/-- The mid-exposure instant of row r of a frame in 2^-32 ns of Device Time (R140); `arrival` is that of its packet header. -/
def StampCfg.middle (k : StampCfg) (trigger : Option Nat) (exposure r : Nat) (arrival : Int) : Int :=
  let ns : Int := fracPerNs
  match trigger with
  | some t => (t + k.expOffset) * ns + (128 * exposure + if k.mode = 1 then r * k.rowTime else 0 : Nat) * ns / 256
  | none => arrival - k.readoutLat * ns - exposure * ns / 2

/-- The stamp of row r of a frame (R140), truncated to whole ns (R106). -/
def State.rowStamp (s : State) (k : StampCfg) (trigger : Option Nat) (exposure r : Nat) (arrival : Int) : RowStamp :=
  let m := k.middle trigger exposure r arrival
  let v := s.travelAt m
  { t := wordOfInt (m.fdiv fracPerNs), travel := v.1, degraded := v.2 || (k.triggered && trigger.isNone) }

/-! Embedded data (R166). -/

/-- A value in the embedded lines: location, bytes, byte order; none where a byte has not come. -/
def embField (emb : List (List Byte)) (at_ len : Nat) (big : Bool) : Option Nat :=
  let bs := (List.range len).map fun i => (emb[(at_ + i) / 4096]?).bind fun (l : List Byte) => l[(at_ + i) % 4096]?
  if bs.all Option.isSome then
    let l := bs.filterMap id
    some (if big then natBE l else natLE l)
  else none

/-- EXPOSURE and GAIN of a frame from its embedded lines; the units of the scales are not given (notes/assumptions/35). (log 35 DESIGN CHOICE, 175 DEDUCED) -/
def Frame.readEmb (f : Frame) (k : StampCfg) : Frame :=
  let e := if k.embExp then embField f.emb k.expByte k.expLen k.bigEndian else none
  let g := if k.embGain then embField f.emb k.gainByte k.gainLen k.bigEndian else none
  let f := { f with exposure := match e with | some v => Config.embScale 0 k.expScale v | none => k.exposure
                    gain := match g with | some v => Config.embScale 1 k.gainScale v % 4096 | none => 0, reported := e.isSome || g.isSome }
  if f.reported then f.flag flagReported else f

/-- Add an embedded line: four lines of 4096 bytes at most; whether it was cut. -/
def addEmb (emb : List (List Byte)) (bytes : List Byte) : List (List Byte) × Bool :=
  if 4 ≤ emb.length then (emb, true) else (emb ++ [bytes.take 4096], decide (4096 < bytes.length))

/-! Lines of the wrong length (R161). -/

/-- The bytes of one pixel group of these samples (03 Table 3-6a). -/
def packGroup (dt : Nat) (l : List Nat) : List Nat :=
  let g := fun i => l.getD i 0
  match dt with
  | 0x2B => (List.range 4).map (fun k => g k / 4) ++ [g 0 % 4 + 4 * (g 1 % 4) + 16 * (g 2 % 4) + 64 * (g 3 % 4)]
  | 0x2C => [g 0 / 16, g 1 / 16, g 0 % 16 + 16 * (g 1 % 16)]
  | 0x2D =>
    let v := g 0 % 64 + 64 * (g 1 % 64) + 4096 * (g 2 % 64) + 262144 * (g 3 % 64)
    (List.range 4).map (fun k => g k / 64) ++ [v % 256, v / 256 % 256, v / 65536]
  | 0x2E => [g 0 % 256, g 0 / 256]
  | 0x2F => [g 0 / 4096, g 1 / 4096, g 0 / 16 % 256, g 1 / 16 % 256, g 0 % 16 + 16 * (g 1 % 16)]
  | 0x27 => [g 0 % 256, g 0 / 256 % 256, g 0 / 65536]
  | _ => [g 0]

/-- Samples of a group, as they repeat. -/
def packSamples (dt : Nat) (f : Nat → Nat) (first count : Nat) : List Byte :=
  let g := (pixelGroup dt).1
  (List.range count).flatMap fun k => (packGroup dt ((List.range g).map fun i => f ((first + k) * g + i))).map fun v => BitVec.ofNat 8 v

/-- A short line padded to L bytes in whole pixel groups: the groups received whole, and then 0 or the last complete pixel
pair. A line without a complete pair is padded with bytes left open (notes/assumptions/16). (log 138 DESIGN CHOICE) -/
def padLine (b : Bind) (y : Nat) (bytes : List Byte) : List Byte :=
  let n := b.lineBytes
  let gb := if b.kind = 3 then (1, 1) else pixelGroup b.dt
  let whole := bytes.length / gb.2
  let kept := bytes.take (whole * gb.2)
  let need := n - kept.length
  if b.lineFix = 1 then kept ++ zeros need
  else if b.dt = 0x1E then
    if whole = 0 then kept ++ (List.range need).map fun x => BitVec.ofNat 8 (Config.openSample 7 x y)
    else kept ++ (List.replicate (ceilDiv need 4) (kept.drop ((whole - 1) * 4))).flatten.take need
  else
    let dt := if b.kind = 3 then 0x2A else b.dt
    let samples := groupsOf dt gb.2 whole (kept.map BitVec.toNat)
    let pair := samples.length / 2
    if pair = 0 then kept ++ (List.range need).map fun x => BitVec.ofNat 8 (Config.openSample 7 x y)
    else kept ++ (packSamples dt (fun i => samples.getD (2 * (pair - 1) + i % 2) 0) whole (ceilDiv need gb.2)).take need

/-! Contexts and their channels. -/

/-- A packet of an accepted type that no binding takes (R164). -/
def State.unboundPkt (s : State) (n : Nat) : State :=
  let p := s.port n
  let s := s.setPort n { p with ingestCounts := bump p.ingestCounts 39 24, unboundRaised := true }
  if p.unboundRaised then s else s.raise (evPort n) 0x0D

/-! Frames open. -/

/-- A commit that is due takes force as frame `no` opens (06 R196, R197): one accepted in the cycle of the start counts as accepted after
it (R203, 01 R28). -/
def State.applyCommit (s : State) (c no : Nat) : State :=
  let x := s.ctx c
  if !x.commitPending || x.commitAt = s.now || (x.atFrame && decide (2 ^ 39 ≤ (no + 2 ^ 40 - x.target.toNat) % 2 ^ 40)) then s
  else
    let late := x.atFrame && no != x.target.toNat
    let s := s.setCtx c
      { x with inForce := x.shadow, shadow := x.inForce, commitPending := false, paramFrame := BitVec.ofNat 40 no
               result := if late then 2 else 1, pipeCounts := if late then bump x.pipeCounts 7 4 else x.pipeCounts }
    s.finishWait (.commit c) (if late then .late else .ok) [BitVec.ofNat 40 no]

/-- A frame start applies one of the reduction steps that wait for it, or undoes those given up (10 R312). -/
def Context.takeStep (x : Context) (now : Nat) : Context :=
  match x.capDue with
  | none => x
  | some d =>
    let goal := (d.ready now).getD x.capReduction
    let k := min goal (x.capReduction + 1)
    { x with capReduction := k, capDue := if k = goal then d.rest now else some d }

/-- Records accepted for a context apply at its frame start: outputs (07 R206), stamps (12 R382), the record plan (09 R278),
check units and streams; and a reduction step (10 R312). -/
def State.applyPending (s : State) (c no : Nat) : State :=
  let s := s.modCtx c fun x => (List.range 3).foldl (fun (x : Context) o =>
    x.modOut o fun y => match y.pending with | some d => { y with cfg := (d.ready s.now).getD y.cfg, pending := d.rest s.now } | none => y) x
  let s := s.modCtx c fun x => x.takeStep s.now
  let s := match (s.ctx c).stampPending.bind fun d => d.ready s.now with
    | some k => (s.modCtx c fun x => { x with stampCfg := k, stampPending := none }).finishWait (.ctxStamp c) .ok
    | none => s
  let s := s.modRing fun r => match r.planPending.lookup c with
    | some d =>
      let r := match d.ready s.now with | some w => { r with plans := bankSet (fun _ => (0 : Word)) r.plans c w } | none => r
      { r with planPending := match d.rest s.now with | some d => bankPut c d r.planPending | none => bankDel c r.planPending }
    | none => r
  (s.checkStart c no).streamStart false c

/-- The frame that opens is shed (R159; 15 R445, R447; 10 R312; 17 R485). -/
def State.shedsFrame (s : State) (c no : Nat) : Bool :=
  let x := s.ctx c
  let k := max x.reduction x.capReduction
  x.victim || decide (4 ≤ k) || no % 2 ^ k != 0 || (x.home != 0x1F && !(s.facet x.home).takesLines)

/-- A coding output that forms each frame of its decimation: no gate holds one back at its first row (07 R214). -/
def codesAlways (r : OutRec) (no : Nat) : Bool := r.enable && r.sillage && !r.gateEn && no % (r.decimate + 1) == 0

/-- A frame start of a context whose plan selects the frame: the ring takes it or not (09 R281). Where a gate has a say, it is asked at the
frame's first row. (log 112 DEDUCED) -/
def State.ringStart (s : State) (c no : Nat) : State :=
  let b := (s.ctx c).bind
  if bit (s.ring.plan c) 33 then s
  else if s.ring.plans? c no false then (s.ringAdmit (s.askRing c no true)).2
  else if s.ring.plans? c no true && codesAlways (outRec b ((s.ctx c).out 1).cfg) no then
    let g := s.ringAdmit (s.askRing c no false)
    g.2.modCtx c fun x => { x with frames := x.frames.map fun f => if f.no == no then { f with ringAsked := true } else f }
  else s

/-- A frame of a context opens (R159, R161, R165, R167). (log 112 DEDUCED) -/
def State.openFrame (s : State) (c : Nat) : State :=
  let s := s.moveStart c
  let s := s.startFacet (s.ctx c).home
  let no := (s.ctx c).nextNo
  let s := (s.applyCommit c no).applyPending c no
  let x := s.ctx c
  let b := x.bind
  let shed := s.shedsFrame c no
  let p := x.inForce
  let late := x.commitPending && x.atFrame && decide ((no + 2 ^ 40 - x.target.toNat) % 2 ^ 40 < 2 ^ 39)
  let flags := (if x.home != b.facet then flagRehomed else 0) ||| (if x.embBad then flagReplay else 0) ||| (if late then flagLate else 0)
  let f : Frame :=
    { no := no, home := x.home, isOpen := true, openedAt := s.now, shed := shed, lines := 0, flags := flags, longSeen := false
      badLenSeen := false, rows := [], stamps := [], concealed := 0, params := p, paramFrame := x.paramFrame.toNat
      shade := (if bit (paramGet p 1) 39 then x.shadeB else x.shadeA).getD [], defects := (if bit (paramGet p 1) 38 then x.defectB else x.defectA).getD []
      outs := (List.range 3).map fun o => (x.out o).cfg, formed := [], hostOk := []
      compat := (List.range 3).map fun o => s.compatNow c o, hostSent := [0, 0, 0], codingBad := [], ringAsked := false, trigger := none
      exposure := x.stampCfg.exposure, gain := 0, reported := false, emb := x.embNext, sent := 0, begun := false, done := false }
  let s := s.setCtx c
    { x with state := .inFrame, frameNo := no, nextNo := (no + 1) % 2 ^ 40, lines := 0, lastLine := s.now, shedNow := shed, embNext := [], embBad := false
             frames := x.frames ++ [f.readEmb x.stampCfg], counts0 := if shed then bump x.counts0 39 24 else x.counts0 }
  if shed then s.raise (evCtx c) 1
  else s.ringStart c no

/-! Frames close. -/

/-- Why a frame closes (Table 5-3). -/
inductive CloseWhy where
  | frameEnd | count | frameStart | timeout | loss
  deriving DecidableEq, Repr

/-- The open frame of a context closes; its last rows have still to pass. One that has had no row takes its trigger now (04 R142). (log 163 DESIGN CHOICE) -/
def State.closeOpen (s : State) (c : Nat) (why : CloseWhy) : State :=
  let x := s.ctx c
  if x.state != .inFrame then s
  else
    let rowless := x.stampCfg.mode ≤ 1 && (x.frame? x.frameNo).any fun f => f.stamps.isEmpty
    let s := if rowless then (s.takeTrigger x.bind.port).2 else s
    let short := why == .loss || decide (x.lines < x.bind.height)
    let padded := short && x.bind.padShort && x.lines != 0 && decide (x.lines < x.bind.height)
    let noEnd := why == .frameStart || why == .timeout
    let flags := (if short then flagShort else 0) ||| (if why == .loss then flagReplay else 0) ||| (if padded then flagPadded else 0)
    let c0 := if short then bump x.counts0 23 16 else x.counts0
    let s := s.setCtx c
      ({ x with state := .between, shedNow := false, counts0 := if noEnd then bump c0 7 0 else c0
                msRead := x.msRead + (match x.msFrom with | some t => x.lastLine - t | none => 0), msFrom := none }.modFrame x.frameNo fun f => ({ f with isOpen := false }.flag flags))
    if short then s.raise (evCtx c) 3 else s

/-- Close the open frame of a context, and let what has become whole go (R148, R165). -/
def State.closeFrame (s : State) (c : Nat) (why : CloseWhy) : State :=
  if (s.ctx c).state != .inFrame then s
  else ((s.closeOpen c why).settleRings (s.ctx c).bind.port).settleCtx c

/-- Every open frame of a port closes as for a loss (Table 5-3). -/
def State.loseFrames (s : State) (n : Nat) : State :=
  ((s.portCtxs n).map fun x => x.1).foldl (fun (s : State) c => s.closeFrame c .loss) s

/-- Frames of a port are open. -/
def State.openFrames (s : State) (n : Nat) : Bool := (s.portCtxs n).any fun x => (s.ctx x.1).state == .inFrame

/-! Packets. -/

/-- A short packet with a frame start or frame end (R161, R162, R164). (log 102 DEDUCED) -/
def State.ingestShort (s : State) (n vc dt : Nat) : State :=
  match s.ctxOn n vc with
  | none => s.unboundPkt n
  | some c =>
    let x := s.ctx c
    if dt = 0 then
      if x.bind.count then s
      else ((s.closeOpen c .frameStart).openFrame c).settleCtx c
    else if dt = 1 then
      if x.bind.count then s
      else match x.state with
        | .inFrame => s.closeFrame c .frameEnd
        | .waitStart => s.unboundPkt n
        | _ => s.modPort n fun p => { p with ingestCounts := bump p.ingestCounts 7 0 }
    else s

/-- An embedded line (R166). (log 102 DEDUCED) -/
def State.ingestEmb (s : State) (c : Nat) (bytes : List Byte) (bad : Bool) : State :=
  s.modCtx c fun x =>
    if x.state = .inFrame then
      let e := addEmb (((x.frame? x.frameNo).map fun f => f.emb).getD []) bytes
      { (x.modFrame x.frameNo fun f =>
          let f := ({ f with emb := e.1 } : Frame).readEmb x.stampCfg
          if bad then f.flag flagReplay else f) with counts1 := if e.2 then bump x.counts1 23 8 else x.counts1 }
    else
      let e := addEmb x.embNext bytes
      { x with embNext := e.1, embBad := x.embBad || bad, counts1 := if e.2 then bump x.counts1 23 8 else x.counts1 }

/-- The trigger of a row: a frame takes one at its first row, a line of LINE_SCAN mode each its own (R142). (log 107 DEDUCED) -/
def State.rowTrigger (s : State) (c : Nat) (f : Frame) : Option Nat × State :=
  let x := s.ctx c
  match x.stampCfg.mode with
  | 3 => (none, s)
  | 2 => s.takeTrigger x.bind.port
  | _ =>
    if f.stamps.isEmpty then
      let t := s.takeTrigger x.bind.port
      (t.1, t.2.modFrame c f.no fun f => { f with trigger := t.1 })
    else (f.trigger, s)

/-- A line of a context has come (R160, R162): the window of 1 ms runs from the first line of a stretch of readout. (log 163 DESIGN CHOICE) -/
def State.lineCame (s : State) (c : Nat) : State :=
  s.modCtx c fun x =>
    { x with lines := satAdd 16 x.lines 1, lastLine := s.now, win1s := x.win1s + 1, win1ms := x.win1ms + b2n x.msFrom.isSome, msFrom := some (x.msFrom.getD s.now) }

/-- A line beyond HEIGHT is discarded before storage (Table 5-3). In LINE_SCAN mode it takes its trigger all the same (04 R142). -/
def State.longLine (s : State) (c : Nat) (f : Frame) (bad : Bool) : State :=
  let s := if (s.ctx c).stampCfg.mode = 2 then (s.takeTrigger (s.ctx c).bind.port).2 else s
  let s := (s.lineCame c).modCtx c fun x =>
    { (x.modFrame f.no fun f => ({ f with longSeen := true, lines := f.lines + 1 }.flag (flagLong ||| if bad then flagReplay else 0))) with
        counts1 := bump x.counts1 39 24, counts0 := if f.longSeen then x.counts0 else bump x.counts0 15 8 }
  if f.longSeen then s else s.raise (evCtx c) 4

/-- A line of the open frame: its length is repaired, it is stored whole or its place is kept, and it is stamped (R149, R161). -/
def State.storeLine (s : State) (c : Nat) (f : Frame) (bytes : List Byte) (bad : Bool) (room : Room) (arrival : Int) : State :=
  let x := s.ctx c
  let b := x.bind
  let n := b.lineBytes
  let wrong := bytes.length != n
  let drop := wrong && b.lineFix == 2
  let missing := drop || room != .free
  let waits := !drop && room == .soFar
  let gone := !drop && room == .full
  let t := s.rowTrigger c f
  let s := t.2
  let stamp := s.rowStamp x.stampCfg t.1 f.exposure f.lines arrival
  let data := if missing && !waits then [] else if n < bytes.length then bytes.take n else if wrong then padLine b f.lines bytes else bytes
  let line : Line :=
    { frame := f.no, y := f.lines, bytes := data, words := if missing then 0 else b.lineWords, missing := missing, waits := waits, stamp := stamp
      taken := f.shed || f.home == 0x1F, tapped := !b.toRing }
  let flags := (if bad then flagReplay else 0) ||| (if stamp.degraded then flagDegraded else 0) |||
    (if drop then flagConcealed else 0)
  let s := (s.lineCame c).modCtx c fun x =>
    let x := x.modFrame f.no fun f => ({ f with lines := f.lines + 1, stamps := f.stamps ++ [stamp], badLenSeen := f.badLenSeen || wrong }.flag flags)
    let c1 := if wrong then bump x.counts1 23 8 else x.counts1
    { x with ring := x.ring ++ [line]
             counts1 := if gone then bump c1 7 0 else c1 }
  let s := if wrong && !f.badLenSeen then s.raise (evCtx c) 5 else s
  let s := if gone then s.raise (evPort b.port) 0x0F else s
  let s := s.modCtx c Context.release
  let s := if f.stamps.isEmpty && !f.shed && s.ring.plans? c f.no false && bit (s.ring.plan c) 33 then
      let g := s.planGate c stamp
      if g.1 then (g.2.ringAdmit (g.2.askRing c f.no true)).2 else g.2
    else s
  s.lineStored c x.brimful

/-- A long packet of the context's own data type (R161, R162). In LINE_SCAN mode a line takes its trigger even where no frame is open (04 R142). (log 102 DEDUCED) -/
def State.ingestLine (s : State) (n c : Nat) (bytes : List Byte) (bad : Bool) (room : Room) (arrival : Int) : State :=
  let x := s.ctx c
  let s := if x.bind.count && x.state != .inFrame then s.openFrame c else s
  let x := s.ctx c
  let s := if x.state != .inFrame && x.stampCfg.mode = 2 then (s.takeTrigger x.bind.port).2 else s
  if x.state = .waitStart then s.unboundPkt n
  else if x.state != .inFrame then s.modPort n fun p => { p with ingestCounts := bump p.ingestCounts 23 8 }
  else
    match x.frame? x.frameNo with
    | none => s
    | some f =>
      let s := if x.bind.height ≤ x.lines then s.longLine c f bad else s.storeLine c f bytes bad room arrival
      if x.bind.count && decide (x.bind.height ≤ (s.ctx c).lines) then s.closeFrame c .count else s.settleCtx c

/-- The cycle ends for what the ring takes: lines that found no room so far (R149). (log 142 DEDUCED) -/
def State.stepLines (s : State) : State :=
  s.bound.foldl (fun (s : State) c =>
    let l := (s.ctx c).ring.filter fun l => l.waits
    if l.isEmpty then s else (l.foldl (fun (s : State) (l : Line) => s.judgeLine c l) s).settleCtx c) s

/-- The next cycle has begun: unbindings of idle contexts take effect, and partitions that can (R148, R169). -/
def State.stepBindings (s : State) : State :=
  ((s.bound.filter fun c => (s.ctx c).unbindPending).foldl (fun (s : State) c => s.settleCtx c) s).stepRings

/-- CRC-32C of each of the four self-test lines (Table 5-6). -/
def sigCrc (k : Nat) : Nat :=
  match k % 4 with | 0 => 0x8A9136AA | 1 => 0x62A8AB43 | 2 => 0x46DD794E | _ => 0x113FDB5C

/-- LineSig after a long packet; in SIG mode it is compared with the line that the generator sent (R171). -/
def State.lineSig (s : State) (n : Nat) (bytes : List Byte) (sig : Option Nat) : State :=
  let crc := crc32c bytes
  let s := s.modPort n fun p => { p with lineSigSeq := (p.lineSigSeq + 1) % 256, lineSigCrc := crc }
  match sig with
  | some k =>
    if crc.toNat = sigCrc k then s
    else (s.modPort n fun p => { p with patGen2 := bump p.patGen2 15 0 }).raise (evPort n) 0x0E
  | none => s

/-- The data types of Table 3-6 that long packets carry. -/
def longTypes (dt : Nat) : Bool := dt == 0x12 || dt == 0x1E || dt == 0x27 || within 0x2A 0x37 dt

/-- A long packet that has passed packet reassembly: its payload as received, whether it holds marked words or failed its
checksum, and the arrival of its header in 2^-32 ns (R147, R161, R164, R166, R171; 03 R87). (log 83 DEDUCED) -/
def State.ingestLong (s : State) (n vc dt : Nat) (bytes : List Byte) (bad : Bool) (room : Room) (arrival : Int) (sig : Option Nat) : State :=
  if !longTypes dt then (s.modPort n fun p => { p with rxCounts := bump p.rxCounts 9 4 }).raise (evPort n) 0x08
  else
    let s := s.lineSig n bytes sig
    match s.ctxOn n vc with
    | none => s.unboundPkt n
    | some c =>
      let b := (s.ctx c).bind
      if dt = b.dt then s.ingestLine n c bytes bad room arrival
      else if dt = 0x12 && b.embEn && (s.ctx c).state != .waitStart then s.ingestEmb c bytes bad
      else s.unboundPkt n

/-! Timers. -/

/-- FRAME_TIMEOUT, in the first cycle after its expiry: a line of the cycle in which it expires is taken (R169). (log 48 DEDUCED) -/
def execFrameTimeout (c : Nat) (s : State) : Host.Outcome State Fault Refusal :=
  let x := s.ctx c
  onUnit s.variant.contexts c s
    (if x.state = .inFrame && x.bind.timeoutUs != 0 && decide (x.lastLine + x.bind.timeoutUs * cyclesPerUs < s.now) then s.closeFrame c .timeout else s)

/-- Lines of a window exceed a declared rate by more than 5 % (R160); `perS`: units of `elapsed` in a second. -/
def rateOver (declared lines elapsed perS : Nat) : Bool := decide (105 * declared * elapsed < 100 * lines * perS)

/-- Cycles of readout in the window of 1 ms so far (R160). -/
def Context.readout (x : Context) (now : Nat) : Nat := x.msRead + (match x.msFrom with | some t => now - t | none => 0)

/-- RATE_WINDOW_CHECK: the end of a window of R160, once its 1 s of Device Time or 1 ms of readout has passed. Where Device Time has been stepped
back before the window's beginning, the window begins anew. (log 48 DEDUCED, 163 DESIGN CHOICE) -/
def execRateWindowCheck (c : Nat) (readout : Bool) (s : State) : Host.Outcome State Fault Refusal :=
  let x := s.ctx c
  let judge := fun (x' : Context) (isOver : Bool) =>
    if isOver then
      let s' := s.setCtx c { x' with rateHigh := true, rateOkSince := s.now }
      if x.rateHigh then s' else s'.raise (evCtx c) 2
    else s.setCtx c { x' with rateHigh := x.rateHigh && decide (s.now < x.rateOkSince + cyclesPerS) }
  onUnit s.variant.contexts c s
    (if x.state = .unbound then s
     else if readout then
       if x.readout s.now < cyclesPerMs then s
       else judge { x with win1ms := 0, msRead := 0, msFrom := none } (rateOver x.bind.readout x.win1ms (x.readout s.now) cyclesPerS)
     else if s.dt < x.secFrom then s.setCtx c { x with win1s := 0, secFrom := s.dt }
     else if s.dt < x.secFrom + unitsPerS then s
     else judge { x with win1s := 0, secFrom := s.dt } (rateOver x.bind.lineRate x.win1s (s.dt - x.secFrom).toNat unitsPerS))

end Sys2Proof.Machine
end

