-- ==== Sys2Proof/Machine/Contexts.lean ====
section
/-! DEFINITION. The context commands (12_mailbox_and_commands.md R382, R383; 05_ingest_and_contexts.md R151 to R155, R165;
06_facet_pipeline.md R194 to R198). -/
namespace Sys2Proof.Machine

/-! CTX_BIND. -/

/-- A load of a Facet's admission, its partition as planned. -/
def State.loadWith (s : State) (ps : List (Nat × Nat)) (c : Nat) : Load := { s.loadOf c with ring := (ps.lookup c).getD (s.ctx c).ringWords }

/-- Partitions of a port with one more context (R148). -/
def State.plannedRings (s : State) (c : Nat) (b : Bind) : List (Nat × Nat) := partitions (s.ringTotal b.port) (s.portCtxs b.port ++ [(c, b)])

/-- The five conditions of R153; a context in raw bypass needs the second and third. (log 103 DEDUCED) -/
def State.admitsBind (s : State) (c : Nat) (b : Bind) : Bool :=
  let l := s.portCtxs b.port ++ [(c, b)]
  let ps := s.plannedRings c b
  let loads := (s.facetHolds b.facet).map (s.loadWith ps) ++ [{ bind := b, ring := (ps.lookup c).getD 0, halvings := 0 }]
  decide (sumRat (l.map fun x => x.2.streamWords) ≤ s.groupWords b.port) && partitionsOk (s.ringTotal b.port) l &&
    (b.bypass || ((s.facet b.facet).state == .run && facetFits facetCap loads))

/-- CTX_BIND (R147, R148, R152 to R155). (log 103 DEDUCED, 162 DEDUCED) -/
def execCtxBind (m : Msg) (s : State) : Host.Outcome State Fault Refusal :=
  let c := fld (m.w 0) 39 32
  let b : Bind := { w0 := m.w 1, w1 := m.w 2, w2 := m.w 3, w3 := m.w 4 }
  let taken := s.bound.any fun d => (s.ctx d).bind.port == b.port && (s.ctx d).bind.vc == b.vc
  let argsOk := lenIs m 5 && ctxArg s c && zeroFld (m.w 0) 31 0 && portArg s b.port && (b.bypass || decide (b.facet < s.variant.facets)) && b.fieldsOk && !taken
  .next (mailRun 0x300 permitR m s false argsOk fun s =>
    if (s.ctx c).state != .unbound then .done .state [] s
    else if !s.admitsBind c b then .done .noResource [] s
    else
      let free := s.ringTotal b.port - sumNat ((s.portCtxs b.port).map fun x => (s.ctx x.1).ringWords)
      let planned := ((s.plannedRings c b).lookup c).getD 0
      let x : Context :=
        { (s.ctx c).renewed c with bind0 := b.w0, bind1 := b.w1, bind2 := b.w2, bind3 := b.w3, state := .waitStart, boundAt := s.now, secFrom := s.dt
                                   ringWords := if planned ≤ free then planned else 0
                                   home := b.facet, slot := if b.bypass then 0 else s.freeSlot b.facet }
      okNext ((s.setCtx c x).settleRings b.port))

/-! CTX_UNBIND and CTX_MOVE (R165). -/

/-- What CTX_UNBIND withdraws from a context: its commit (06 R198), a move and stamp settings not yet in effect. (log 120 DEDUCED) -/
def State.withdraw (s : State) (c : Nat) : State :=
  let x := s.ctx c
  let s := s.setCtx c { x with commitPending := false, stampPending := none, movePending := if s.commandedMove c then none else x.movePending }
  let s := if x.commitPending then s.finishWait (.commit c) .state else s
  let s := if x.stampPending.isSome then s.finishWait (.ctxStamp c) .state else s
  s.finishWait (.ctxMove c) .state

/-- CTX_UNBIND (R165): a context with no frame is freed as its cycle ends, for a frame start of the same cycle wins (R169). -/
def execCtxUnbind (m : Msg) (s : State) : Host.Outcome State Fault Refusal :=
  let c := fld (m.w 0) 39 32
  .next (mailRun 0x301 permitR m s false (lenIs m 1 && ctxArg s c && zeroFld (m.w 0) 31 0) fun s =>
    let x := s.ctx c
    if x.state = .unbound then .done .state [] s
    else if x.unbindPending then .done .busy [] s
    else .wait (.ctxUnbind c) ((s.withdraw c).modCtx c fun x => { x with unbindPending := true, unbindAt := s.now }))

/-- CTX_MOVE (R165). (log 103 DEDUCED, 120 DEDUCED) -/
def execCtxMove (m : Msg) (s : State) : Host.Outcome State Fault Refusal :=
  let c := fld (m.w 0) 39 32
  let f := fld (m.w 0) 31 27
  .next (mailRun 0x302 permitR m s false (lenIs m 1 && ctxArg s c && zeroFld (m.w 0) 26 0 && decide (f < s.variant.facets)) fun s =>
    let x := s.ctx c
    let others := (s.facetHolds f).filter fun d => d != c
    if x.state = .unbound || x.bind.bypass then .done .state [] s
    else if x.unbindPending || x.movePending.isSome then .done .busy [] s
    else if (s.facet f).state != .run || !facetFits facetCap ((others ++ [c]).map s.loadOf) then .done .noResource [] s
    else .wait (.ctxMove c) (s.planMove c f (s.now + 1)))

/-! CTX_STAMP_CFG. -/

/-- The settings of a CTX_STAMP_CFG. (log 175 DEDUCED) -/
def stampCfgOf (m : Msg) : StampCfg :=
  { mode := fld (m.w 0) 31 30, embExp := bit (m.w 0) 29, embGain := bit (m.w 0) 28, bigEndian := bit (m.w 0) 27, exposure := fld (m.w 1) 39 10
    expOffset := sfld (m.w 2) 39 20, readoutLat := fld (m.w 2) 19 0, rowTime := fld (m.w 3) 39 16, expByte := fld (m.w 4) 39 26
    expLen := fld (m.w 4) 25 24 + 1, gainByte := fld (m.w 4) 23 10, gainLen := fld (m.w 4) 9 8 + 1, expScale := fld (m.w 5) 39 16, gainScale := fld (m.w 5) 15 0 }

/-- CTX_STAMP_CFG (04 R140; Table 12-8). (log 84 DEDUCED) -/
def execCtxStampCfg (m : Msg) (s : State) : Host.Outcome State Fault Refusal :=
  let c := fld (m.w 0) 39 32
  let k := stampCfgOf m
  let argsOk := lenIs m 6 && ctxArg s c && zeroFld (m.w 0) 26 0 && zeroFld (m.w 1) 9 0 && zeroFld (m.w 3) 15 0 && zeroFld (m.w 4) 7 0 &&
    decide (k.expByte + k.expLen ≤ 16384) && decide (k.gainByte + k.gainLen ≤ 16384)
  .next (mailRun 0x303 permitR m s false argsOk fun s =>
    let x := s.ctx c
    if x.state = .unbound then .done .state [] s
    else if x.stampPending.isSome || x.unbindPending then .done .busy [] s
    else .wait (.ctxStamp c) (s.setCtx c { x with stampPending := some (Due.accept s.now none k) }))

/-! CTX_PARAM_WRITE (R383; 06 R193, R198). -/

/-- Write words of the shadow from word `first` onward. -/
def writeParams (p : ParamSet) (first : Nat) (ws : List Word) : ParamSet := ws.zipIdx.foldl (fun p w => paramSet p (first + w.2) w.1) p

/-- A write of the shadow, once its words are at hand: the AWB loop keeps words 4 and 5 to itself (R384). -/
def State.paramWrite (s : State) (m : Msg) (c first : Nat) (ws : List Word) : Verdict :=
  let x := s.ctx c
  let covers := decide (first ≤ 5) && decide (4 < first + ws.length)
  if x.state = .unbound || (x.loop.awbEn && covers && m.door != 3) then .done .state [] s
  else if x.commitPending then .done .busy [] s
  else okNext (s.setCtx c { x with shadow := writeParams x.shadow first ws })

def execCtxParamWrite (m : Msg) (s : State) : Host.Outcome State Fault Refusal :=
  let c := fld (m.w 0) 39 32
  let first := fld (m.w 0) 31 20
  if bit (m.w 0) 19 then .refused (.illFormed "CTX_PARAM_WRITE with HOST set")
  else
    .next (mailRun 0x304 permitR m s false (within 2 255 m.payload.length && ctxArg s c && zeroFld (m.w 0) 18 0 && decide (first + (m.payload.length - 1) ≤ 2456))
      fun s => s.paramWrite m c first (m.payload.drop 1))

def execCtxParamWriteHost (m : Msg) (host : List Byte) (s : State) : Host.Outcome State Fault Refusal :=
  let c := fld (m.w 0) 39 32
  let first := fld (m.w 0) 31 20
  let count := fld (m.w 3) 11 0 + 1
  if !bit (m.w 0) 19 then .refused (.illFormed "CTX_PARAM_WRITE_HOST with HOST clear")
  else
    .next (mailRun 0x304 permitR m s false
      (lenIs m 4 && ctxArg s c && zeroFld (m.w 0) 18 0 && hostAddrOk (m.w 2) && zeroFld (m.w 3) 39 12 && decide (first + count ≤ 2456))
      fun s => loaded host (8 * count) s (s.paramWrite m c first (wordsOfHost count host)))

/-! CTX_COMMIT (06 R195 to R198). -/

/-- Points of a curve do not decrease. -/
def rising : List Nat → Bool
  | a :: b :: r => decide (a ≤ b) && rising (b :: r)
  | _ => true

def strictlyRising : List Nat → Bool
  | a :: b :: r => decide (a < b) && strictlyRising (b :: r)
  | _ => true

/-- No reserved value stands in a set (06 Tables 6-7, 6-8). -/
def paramReservedOk (p : ParamSet) : Bool :=
  let w := paramGet p
  decide (cfaOf p ≤ 8) && decide (fld (w 0) 23 22 ≤ 1) && fld (w 0) 21 20 != 3 && decide (fld (w 0) 19 18 ≤ 1) && visionSrc p != 3 && zeroFld (w 0) 15 0 &&
    decide (fld (w 1) 37 21 ≤ 65536) && within 2 33 (fld (w 1) 20 15) && zeroFld (w 1) 14 0 && zeroFld (w 6) 11 0 && zeroFld (w 7) 7 0 && zeroFld (w 8) 9 0 &&
    zeroFld (w 9) 8 0 && zeroFld (w 15) 19 0 && zeroFld (w 17) 19 0 && ((List.range 3).all fun o => decide (cscOf p o ≤ 6)) && zeroFld (w 23) 24 0 &&
    zeroFld (w 2420) 7 0 && p.all fun x => !(within 24 127 x.1 || within 161 167 x.1 || decide (2421 ≤ x.1))

/-- The checks of R195 on a shadow, for a context. (log 13 DESIGN CHOICE, 109 DEDUCED) -/
def Context.shadowOk (x : Context) : Bool :=
  let p := x.shadow
  let b := x.bind
  let w := paramGet p
  let shade := if bit (w 1) 39 then x.shadeB else x.shadeA
  let defects := if bit (w 1) 38 then x.defectB else x.defectA
  let knees := (List.range (fld (w 1) 20 15)).map fun k => fld (w (128 + k)) 39 20
  let whole := fld (w 9) 39 25 == 0 || fld (w 9) 24 9 == 0
  paramReservedOk p && !(b.kind == 2 && cfaOf p == 0) && !(stageEn p 7 && cfaOf p == 0) &&
    knees.headD 0 == 0 && strictlyRising knees && rising ((List.range 1024).map fun k => paramPair p 168 k) &&
    decide (fld (w 1) 37 21 ≤ (defects.getD []).length) && !(stageEn p 4 && shade.isNone) && !(stageEn p 3 && defects.isNone) &&
    within 1 32 (statsZonesX p) && within 1 32 (statsZonesY p) &&
    (whole || (decide (fld (w 8) 39 26 + fld (w 9) 39 25 ≤ b.width) && decide (fld (w 8) 25 10 + fld (w 9) 24 9 ≤ b.height))) &&
    decide (fld (w 22) 39 20 ≤ fld (w 22) 19 0)

/-- A commit is accepted: it waits for its frame start. Frames of a late one that are still in the device are tagged (R197). (log 109 DEDUCED) -/
def State.acceptCommit (s : State) (c : Nat) (target : Option Nat) : State :=
  s.modCtx c fun x =>
    let late := match target with
      | some f => decide (2 ^ 39 ≤ (f + 2 ^ 40 - x.nextNo) % 2 ^ 40)
      | none => false
    let t := target.getD 0
    { x with target := BitVec.ofNat 40 t, commitPending := true, commitAt := s.now, atFrame := target.isSome, result := 0
             frames := if late then x.frames.map fun (f : Frame) => if (f.no + 2 ^ 40 - t) % 2 ^ 40 < 2 ^ 39 then f.flag flagLate else f else x.frames }

def execCtxCommit (m : Msg) (parityBad : Bool) (s : State) : Host.Outcome State Fault Refusal :=
  let at_ := m.flags.getLsbD 1
  let w := if at_ then m.w 1 else m.w 0
  let c := fld w 39 32
  .next (mailRun 0x305 permitR m s false (lenIs m (if at_ then 2 else 1) && ctxArg s c && zeroFld w 31 0) fun s =>
    let x := s.ctx c
    if x.state = .unbound then .done (if x.shadowOk then .state else .badArg) [] s
    else if !parityBad && !x.shadowOk then .done .badArg [] (s.setCtx c { x with result := 4 })
    else if x.commitPending || x.unbindPending then .done .busy [] s
    else if parityBad then .done .fault [] ((s.setCtx c { x with result := 3 }).parityError (evCtx c) (evCtx c) 9 0)
    else .wait (.commit c) (s.acceptCommit c (if at_ then some (m.w 0).toNat else none)))

/-! CTX_TABLE_LOAD (06 R194). -/

/-- A defect map keeps the order and the content of R179. -/
def defectMapOk (scan : Bool) (l : List Word) : Bool :=
  strictlyRising (l.map fun w => fld w 39 10) &&
    l.all fun w => fld w 9 8 != 3 && zeroFld w 7 0 && (!scan || (fld w 39 24 == 0 && decide (fld w 9 8 ≤ 1)))

def execCtxTableLoad (m : Msg) (host : List Byte) (s : State) : Host.Outcome State Fault Refusal :=
  let c := fld (m.w 0) 39 32
  let defect := bit (m.w 0) 31
  let slotB := bit (m.w 0) 30
  let count := fld (m.w 0) 29 13
  let l := wordsOfHost count host
  let argsOk := lenIs m 3 && ctxArg s c && zeroFld (m.w 0) 12 0 && hostAddrOk (m.w 2) &&
    (if defect then decide (count ≤ 65536) && (decide (host.length < 8 * count) || defectMapOk ((s.ctx c).bind.kind == 1) l) else count == 6370)
  let names := fun (p : ParamSet) => (if defect then bit (paramGet p 1) 38 else bit (paramGet p 1) 39) == slotB
  .next (mailRun 0x306 permitR m s false argsOk fun s =>
    let x := s.ctx c
    if x.state = .unbound || names x.inForce || (x.commitPending && names x.shadow) then .done .state [] s
    else loaded host (8 * count) s (okNext (s.setCtx c
      (match defect, slotB with
       | false, false => { x with shadeA := some l }
       | false, true => { x with shadeB := some l }
       | true, false => { x with defectA := some l }
       | true, true => { x with defectB := some l }))))

/-! Statistics and loops (R382, R383, R384). -/

/-- CTX_STATS_INFO (06 R192). (log 42 DESIGN CHOICE) -/
def execCtxStatsInfo (m : Msg) (s : State) : Host.Outcome State Fault Refusal :=
  let c := fld (m.w 0) 39 32
  .next (mailRun 0x307 permitRB m s false (lenIs m 1 && ctxArg s c && zeroFld (m.w 0) 31 0) fun s =>
    .done .ok ((List.range 2).map fun b => BitVec.ofNat 40 (Config.statsAddress c b % s.variant.extWords)) s)

/-- CTX_STATS_HOST (R383). (log 103 DEDUCED) -/
def execCtxStatsHost (m : Msg) (s : State) : Host.Outcome State Fault Refusal :=
  let c := fld (m.w 0) 39 32
  let size := fld (m.w 0) 31 28
  .next (mailRun 0x308 permitR0 m s false
    (lenIs m 3 && ctxArg s c && zeroFld (m.w 0) 26 0 && within 2 15 size && hostAddrOk (m.w 2) && fld (m.w 1) 4 0 == 0) fun s =>
    let x := s.ctx c
    if x.state = .unbound then .done .state [] s
    else if bit (m.w 0) 27 then
      match (match x.statsRing with | some r => some r | none => s.place 0) with
      | none => .done .noResource [] s
      | some (e, ch) =>
        .done .ok [channelWord e ch false] ((s.setCtx c { x with statsRing := some (e, ch) }).openChannel e ch size 0 false c 0 (m.w 1) (m.w 2) 0 0)
    else
      match x.statsRing with
      | none => .done .ok [0] s
      | some (e, ch) => .done .ok [channelWord e ch false] ((s.setCtx c { x with statsRing := none }).modChan e ch (Channel.closed (32 * e + ch))))

def loopCfgOf (m : Msg) : LoopCfg :=
  { aeEn := bit (m.w 0) 31, awbEn := bit (m.w 0) 30, div := fld (m.w 0) 29 26, ahead := fld (m.w 0) 25 24, targetY := fld (m.w 1) 39 20
    expMax := fld (m.w 1) 19 0, expAddr := fld (m.w 2) 39 24, expBytes := fld (m.w 2) 23 22 + 1, gainAddr := fld (m.w 2) 21 6
    gainBytes := fld (m.w 2) 5 4 + 1, target := fld (m.w 3) 39 33, gainMax := fld (m.w 3) 32 21 }

def execCtxLoopCfg (m : Msg) (s : State) : Host.Outcome State Fault Refusal :=
  let c := fld (m.w 0) 39 32
  .next (mailRun 0x309 permitR m s false
    (lenIs m 4 && ctxArg s c && zeroFld (m.w 0) 23 0 && fld (m.w 0) 25 24 != 0 && zeroFld (m.w 2) 3 0 && zeroFld (m.w 3) 20 0) fun s =>
    if (s.ctx c).state = .unbound then .done .state [] s
    else okNext (s.modCtx c fun x => { x with loop := loopCfgOf m, loopCount := 0 }))

end Sys2Proof.Machine
end

