-- ==== Sys2Proof/Machine/LineCode.lean ====
section
/-! DEFINITION. The codes of the line (02_ray_line.md R50 to R52): the 8b/10b code groups of the back channel with their running
disparity, and the unscrambled patterns of the forward lane. -/
namespace Sys2Proof.Machine

/-! 8b/10b (IEEE 802.3 Clause 36, which R51 names). A code group is ten bits, bit a first and most significant. -/

/-- abcdei of the data characters x = 0 to 31 for negative running disparity. -/
def sixes : List Nat :=
  [0b100111, 0b011101, 0b101101, 0b110001, 0b110101, 0b101001, 0b011001, 0b111000, 0b111001, 0b100101, 0b010101, 0b110100, 0b001101, 0b101100, 0b011100, 0b010111] ++
  [0b011011, 0b100011, 0b010011, 0b110010, 0b001011, 0b101010, 0b011010, 0b111010, 0b110011, 0b100110, 0b010110, 0b110110, 0b001110, 0b101110, 0b011110, 0b101011]

/-- fghj of y = 0 to 7 for negative running disparity, the primary form of 7. -/
def fours : List Nat := [0b1011, 0b1001, 0b0101, 0b1100, 0b1101, 0b1010, 0b0110, 0b1110]

/-- A sub-block of w bits at a running disparity (`rd`: positive): its complement where the disparity asks for it, and the disparity
after it. A sub-block with as many ones as zeros leaves the disparity; `split` names the one that has two forms all the same. -/
def subBlock (w v : Nat) (split rd : Bool) : Nat × Bool :=
  let even := popCount w v * 2 == w
  (if rd && (!even || split) then 2 ^ w - 1 - v else v, if even then rd else !rd)

/-- The alternate form of D.x.7, which keeps five equal bits from standing in a row. -/
def altSeven (x : Nat) (rd : Bool) : Bool := if rd then x == 11 || x == 13 || x == 14 else x == 17 || x == 18 || x == 20

/-- A data byte: the code group, and the running disparity after it. -/
def encodeByte (b : Byte) (rd : Bool) : BitVec 10 × Bool :=
  let x := b.toNat % 32
  let y := b.toNat / 32
  let a := subBlock 6 (sixes.getD x 0) (x == 7) rd
  let f := subBlock 4 (if y == 7 && altSeven x a.2 then 0b0111 else fours.getD y 0) (y == 3) a.2
  (BitVec.ofNat 10 (a.1 * 16 + f.1), f.2)

/-- A special symbol, from its form at negative disparity. -/
def encodeSpecial (v : Nat) (rd : Bool) : BitVec 10 × Bool :=
  (BitVec.ofNat 10 (if rd then 1023 - v else v), if popCount 10 v == 5 then rd else !rd)

/-- A code group on the line at a running disparity (Table 2-3). -/
def CodeGroup.encode (g : CodeGroup) (rd : Bool) : BitVec 10 × Bool :=
  match g with
  | .k28_5 => encodeSpecial 0b0011111010 rd
  | .k27_7 => encodeSpecial 0b1101101000 rd
  | .k29_7 => encodeSpecial 0b1011101000 rd
  | .k28_1 => encodeSpecial 0b0011111001 rd
  | .k28_6 => encodeSpecial 0b0011110110 rd
  | .k23_7 => encodeSpecial 0b1110101000 rd
  | .k28_0 => encodeSpecial 0b0011110100 rd
  | .data b => encodeByte b rd

/-! Patterns of the forward lane (Table 2-2). Level 3 is +3, level 0 is −3. -/

def frameMarker : List Pam4 := List.replicate 16 3 ++ List.replicate 16 0
def endMarker : List Pam4 := List.replicate 16 0 ++ List.replicate 16 3

/-- The idle-entry sequence: 64 symbols, +3 and −3 in turn. -/
def idlePattern : List Pam4 := (List.replicate 32 [(3 : Pam4), 0]).flatten

/-- Symbols that agree with the idle-entry sequence (R63). -/
def idleMatches (l : List Pam4) : Nat := ((List.zip l idlePattern).filter fun x => x.1 == x.2).length

/-- Length of a wake burst: 4064 symbols of PRBS13Q and the end marker. -/
def wakeSymbols : Nat := 4064 + endMarker.length

/-- The control field of a training frame of 256 symbols: after the frame marker one bit per symbol, bit 63 first, +3 for a 1. The
160 payload symbols are for the receiver's equaliser alone. (log 152 DESIGN CHOICE) -/
def trainingField? (l : List Pam4) : Option (BitVec 64) :=
  if l.length = 256 && l.take 32 == frameMarker then
    some (((l.drop 32).take 64).foldl (fun v p => v <<< 1 ||| (if 2 ≤ p.toNat then 1 else 0)) 0)
  else none

end Sys2Proof.Machine
end

