-- ==== Sys2Proof/Machine/BackChannel.lean ====
section
/-! DEFINITION. The back channel of a port (03_ray_words.md R79, R89 to R101, R104, R496; 02_ray_line.md R51 to R53): code groups,
command frames and their replies, trigger runs and epoch marks, wakes and replay requests. -/
namespace Sys2Proof.Machine

/-- The back channel runs toward a trained camera end: DATA, IDLE or WAKING (R496, 12 R378). -/
def Port.running (p : Port) : Bool := p.state == .data || p.state == .idle || p.state == .waking

/-- The back channel transmits: in a training from the first K28.5 of an attempt, and in a session (R53, R58, R61). -/
def Port.txOn (p : Port) : Bool :=
  match p.training with | some t => t.step != .silence && t.step != .retryWait | none => p.running

/-- One code group goes out (R51). -/
def Port.emit (p : Port) (g : CodeGroup) : Port :=
  let x := g.encode p.disparity
  { p with sent := g :: p.sent, disparity := x.2, txCode := x.1, sinceFill := if g = .k28_5 then 0 else p.sinceFill + 1 }

/-- Code groups in a row. (log 99 DESIGN CHOICE) -/
def Port.groups (p : Port) (l : List CodeGroup) : Port := l.foldl Port.emit p

/-- A command frame (R89). -/
def cmdFrame (cmd : Nat) (body : List Byte) : List CodeGroup :=
  let m := [BitVec.ofNat 8 cmd, BitVec.ofNat 8 body.length] ++ body
  [.k27_7] ++ (m ++ bytesBE 2 (crc16 m).toNat).map CodeGroup.data ++ [.k29_7]

/-- Timebase cycles from the start of a code group to its end, 160/3 ns. (log 99 DESIGN CHOICE) -/
def groupCycles : Nat := 14

/-- A frame waits for its slots. -/
def Port.queueFrame (p : Port) (l : List CodeGroup) (for_ : TxFor) : Port := { p with txFrames := p.txFrames ++ [{ groups := l, for_ := for_ }] }

/-- LINE_SET frames that have not begun are withdrawn. -/
def Port.dropLineSets (p : Port) : Port :=
  { p with txFrames := p.txFrames.filter fun f => match f.for_ with | .command _ => true | .lineSet _ => f.groups.head? != some .k27_7 }

/-! Commands and replies (R91 to R93). -/

/-- The frame of a command with a TAG. -/
def BcCommand.groups (c : BcCommand) : List CodeGroup := cmdFrame c.cmd (BitVec.ofNat 8 c.tag :: c.body)

/-- Send a command; its TAG, or none while 16 of the port are outstanding. -/
def State.bcCommand (s : State) (n cmd : Nat) (body : List Byte) : Option (Nat × State) :=
  let p := s.port n
  if 16 ≤ p.commands.length then none
  else
    let c : BcCommand := { tag := p.nextTag, cmd := cmd, body := body, sent := none, resent := false, reply := [] }
    some (p.nextTag, s.setPort n ({ p with nextTag := (p.nextTag + 1) % 256, commands := p.commands ++ [c] }.queueFrame c.groups (.command p.nextTag)))

/-- Maps that a camera end has taken (15 R449). -/
def Port.keepMap (p : Port) (c : BcCommand) : Port :=
  match c.cmd, c.body.map BitVec.toNat with
  | 4, [id, action, a0, a1] => { p with trigMaps := bankPut id (action, a0, a1) p.trigMaps }
  | 5, [actions] => { p with epochMap := some actions }
  | _, _ => p

/-- The mailbox command that waits for a reply completes with the camera's STATUS and data (12 Table 12-6). -/
def State.replyDone (s : State) (n : Nat) (c : BcCommand) (status : Nat) (data : List Byte) : State :=
  let w := Wait.sensor n c.tag
  let code : Word := BitVec.ofNat 40 status
  match s.inflight? fun i => i.wait == w with
  | none => s
  | some i =>
    if i.opcode.toNat = 0x107 then s.finishWait w .ok (code :: pack5 data)
    else if i.opcode.toNat = 0x10A then if status = 0 then s.finishWait w .ok (pack5 data) else s.finishWait w .fault
    else s.finishWait w .ok [code]

/-- A REPLY control word (R92, Table 3-9). -/
def State.reply (s : State) (n : Nat) (v : Nat) : State :=
  let tag := v / 2 ^ 26 % 256
  let status := v / 2 ^ 22 % 16
  let last := v.testBit 21
  let data := ([BitVec.ofNat 8 (v / 256), BitVec.ofNat 8 v] : List Byte).take (v / 2 ^ 19 % 4)
  let p := s.port n
  match p.commands.find? fun c => c.tag == tag with
  | none => s
  | some c =>
    let c := { c with reply := c.reply ++ data }
    if last then
      let p := { p with commands := p.commands.filter fun c => c.tag != tag }
      let own := (s.inflight? fun i => i.wait == .sensor n c.tag).isNone
      (s.setPort n (if status = 0 && !own then p.keepMap c else p)).replyDone n c status c.reply
    else s.setPort n { p with commands := p.commands.map fun (y : BcCommand) => if y.tag = tag then c else y }

/-- 10 ms in timebase cycles. -/
def replyWait : Nat := 10 * cyclesPerMs

/-- REPLY_TIMEOUT (R93): the first sends the same frame again, for a reply taken anew; the second ends the command. A port that no
longer runs sends nothing again, and the second 10 ms run all the same. (log 48 DEDUCED, 133 DESIGN CHOICE) -/
def execReplyTimeout (n : Nat) (tag : Byte) (s : State) : Host.Outcome State Fault Refusal :=
  onUnit s.variant.ports n s
    (let p := s.port n
     match (p.commands.find? fun c => c.tag == tag.toNat).bind fun c => c.sent.map fun t => (c, t) with
     | none => s
     | some (c, t) =>
       if s.now < t + replyWait then s
       else if c.resent then
         ((s.setPort n { p with commands := p.commands.filter fun c => c.tag != tag.toNat }).raise (evPort n) 0x09).finishWait (.sensor n tag.toNat) .timeout
       else
         let c' := { c with resent := true, sent := if p.running then none else some s.now, reply := [] }
         let p := { p with commands := p.commands.map fun (y : BcCommand) => if y.tag = tag.toNat then c' else y }
         s.setPort n (if p.running then p.queueFrame c'.groups (.command tag.toNat) else p))

/-! Triggers (R94 to R96, R496). Times are in 1/24 ns: a slot lasts 1280, a back-channel UI 128, a FINE unit 2. -/

def slotLen : Int := 1280
def transferLead : Int := 15360

def Port.trigLead (p : Port) : Nat := fld p.trigCfg 39 24
/-- CABLE_DELAY in 1/24 ns. -/
def Port.cable24 (p : Port) : Nat := 3 * fld p.trigCfg 23 8

/-- The latest slot start at or before an instant. (log 39 DESIGN CHOICE) -/
def slotBefore (phase : Nat) (t : Int) : Int := (t - (phase % 1280 : Nat)).fdiv slotLen * slotLen + (phase % 1280 : Nat)

/-- A slot that starts at t is taken, or has passed. -/
def Port.slotTaken (p : Port) (now t : Int) : Bool :=
  decide (t < now) || p.runs.any fun r => decide (r.start ≤ t) && decide (t < r.start + slotLen * r.slots)

/-- A planned run holds the slot that starts at t. -/
def Port.reserved (p : Port) (t : Int) : Bool := p.runs.any fun r => decide (r.start ≤ t) && decide (t < r.start + slotLen * r.slots)

/-- Reserved slots still to come among the next 255. -/
def Port.ahead (p : Port) : Nat := sumNat ((p.runs.filter fun r => !r.gone && decide (r.start < p.txAt + 255 * slotLen)).map fun r => r.slots)

/-- Code groups of a request or frame that have begun and must go out without a K28.5 between them (R90). -/
def Port.begun (p : Port) : Nat :=
  p.txItem.length + match p.txFrames with | f :: _ => if f.groups.head? = some .k27_7 then 0 else f.groups.length | [] => 0

/-- k more code groups keep K28.5 within 255 groups of the last one, whatever has begun or is planned (02 R53). (log 99 DESIGN CHOICE) -/
def Port.mayPut (p : Port) (k : Nat) : Bool := decide (p.sinceFill + p.ahead + p.begun + k ≤ 255)

/-- Slots that would follow one another without a free one, were k more reserved from st on; with the groups since the last K28.5, where they
reach back to the present. -/
def Port.stretch (p : Port) (st : Int) (k : Nat) : Nat :=
  let back := ((List.range 255).takeWhile fun (j : Nat) => p.reserved (st - slotLen * (j + 1))).length
  let fwd := ((List.range 255).takeWhile fun (j : Nat) => p.reserved (st + slotLen * (k + j))).length
  back + k + fwd + (if st - slotLen * back ≤ p.txAt then p.sinceFill else 0)

/-- A run of k slots from st on leaves room for the K28.5 that R53 asks for. (log 99 DESIGN CHOICE) -/
def Port.spares (p : Port) (st : Int) (k : Nat) : Bool := decide (p.stretch st k ≤ 255) && (p.begun == 0 || p.mayPut k)

/-- Start of the latest run for members with these send references. (log 39 DESIGN CHOICE) -/
def runStart (phase : Nat) (refs : List Int) : Int :=
  let l := refs.zipIdx.map fun x => x.1 - slotLen * x.2
  slotBefore phase (l.foldl min (l.headD 0))

/-- Members that keep their place: the last one is dropped while a slot of the run is taken (R95), or K28.5 would find none (02 R53). -/
def Port.fitRun (p : Port) (phase : Nat) (now : Int) : Nat → List (Nat × Nat × Int) → List (Nat × Nat × Int)
  | 0, _ => []
  | k + 1, l =>
    let m := l.take (k + 1)
    let st := runStart phase (m.map fun x => x.2.2)
    if ((List.range (3 * m.length)).any fun j => p.slotTaken now (st + slotLen * j)) || !p.spares st (3 * m.length) then p.fitRun phase now k l else m

/-- ID byte and fine-offset byte of an offset from its K28 symbol. -/
def offsetBytes (id : Nat) (off : Int) : List CodeGroup :=
  let o := off.toNat
  let fine := (o % 128 + 1) / 2
  let ui := o / 128 + fine / 64
  [.data (BitVec.ofNat 8 (id * 16 + ui / 4 % 16)), .data (BitVec.ofNat 8 (ui % 4 * 64 + fine % 64))]

/-- Send reference of an effective time, on Device Time. -/
def Port.sendRef (p : Port) (teff : Nat) : Int := 24 * (teff : Int) - p.cable24 - transferLead

/-- Local time at the start of the cycle, in 1/24 ns. -/
def State.local24 (s : State) : Int := ((s.time.mono : Int) * 24).fdiv fracPerNs

/-- An instant of Device Time, in 1/24 ns, on local time, on which the slots lie. -/
def State.onLine (s : State) (t : Int) : Int := t - (s.time.stepSum * 24).fdiv fracPerNs

/-- Plan one run of triggers, each TRIG_ID and t_eff; those without a place are dropped and counted. -/
def State.planRun (s : State) (n : Nat) (ts : List (Nat × Nat)) : State :=
  let p := s.port n
  let phase := Config.slotPhase n
  let l := ts.map fun t => (t.1, t.2, s.onLine (p.sendRef t.2))
  let m := p.fitRun phase s.local24 l.length l
  let st := runStart phase (m.map fun x => x.2.2)
  let run : Run :=
    { start := st, slots := 3 * m.length, gone := false, epochMark := false, trigs := m.map fun x => (x.1, x.2.1)
      groups := m.map (fun _ => CodeGroup.k28_1) ++ (m.zipIdx.map fun x => offsetBytes x.1.1 (x.1.2.2 - (st + slotLen * x.2))).flatten }
  let s := if m.isEmpty then s else s.setPort n { p with runs := insertBy (fun (r : Run) => r.start.toNat) run p.runs }
  (List.range (ts.length - m.length)).foldl (fun (s : State) _ =>
    (s.modPort n fun p => { p with rxCounts := bump p.rxCounts 3 0 }).raise (evPort n) 0x0A 0) s

/-- Take from a sorted queue the first trigger and those that follow it within a slot, four at most. (log 98 DEDUCED) -/
def firstRun (q : List TrigReq) : List TrigReq :=
  match q with
  | [] => []
  | a :: r => a :: (r.takeWhile fun b => decide (24 * b.fire < 24 * a.fire + 1280)).take 3

/-- A trigger is requested (R496): dropped while the port does not run. (log 36 DEDUCED) -/
def State.requestTrigger (s : State) (r : TrigReq) : State :=
  let n := s.head r.port
  if (s.port n).running then
    { s with tu := { s.tu with trigReqs := s.tu.trigReqs ++ [{ r with port := n }] } }
  else (s.modPort n fun p => { p with hdrCounts := bump p.hdrCounts 23 16 }).raise (evPort n) 0x0A 1

/-- The first trigger waiting at a port may be planned: no later fire can join its run (R95). (log 98 DEDUCED) -/
def State.runDue (s : State) (a : TrigReq) : Bool := decide (24 * a.fire + 1280 ≤ 24 * s.dtNs)

/-- Plan what is due at one port. (log 98 DEDUCED) -/
def State.planPort : Nat → State → Nat → State
  | 0, s, _ => s
  | k + 1, s, n =>
    let q := sortByKey (fun (r : TrigReq) => r.fire * 1024 + r.cue) (s.tu.trigReqs.filter fun r => r.port == n)
    match q with
    | [] => s
    | a :: _ =>
      if !s.runDue a then s
      else
        let m := firstRun q
        let s := { s with tu := { s.tu with trigReqs := s.tu.trigReqs.filter fun r => !m.contains r } }
        State.planPort k (s.planRun n (m.map fun r => (r.trigId, r.fire + (s.port n).trigLead))) n

/-- Plan what is due at every port. -/
def State.planTriggers (s : State) : State :=
  (s.tu.trigReqs.map fun r => r.port).eraseDups.foldl (fun (s : State) n => s.planPort (s.tu.trigReqs.length + 1) n) s

/-- Plan an epoch mark with its edge at t_eff; whether it has been placed (R100, R101). -/
def State.planMark (s : State) (n epoch teff : Nat) : Bool × State :=
  let p := s.port n
  let r := s.onLine (p.sendRef teff)
  let st := runStart (Config.slotPhase n) [r]
  if ((List.range 3).any fun j => p.slotTaken s.local24 (st + slotLen * j)) || !p.spares st 3 then (false, s)
  else
    let run : Run := { start := st, slots := 3, gone := false, epochMark := true, trigs := [], groups := .k28_6 :: offsetBytes (epoch % 16) (r - st) }
    (true, s.setPort n { p with runs := insertBy (fun (r : Run) => r.start.toNat) run p.runs })

/-- Send the earliest planned run of a kind whose first slot has come. Its slots stay taken until they have passed. -/
def State.sendRun (s : State) (n : Nat) (mark : Bool) : State :=
  let p := s.port n
  match p.runs.find? fun r => r.epochMark == mark && !r.gone && decide (r.start < s.local24 + 96) with
  | none => s
  | some r =>
    s.setPort n ({ p with runs := p.runs.map fun (x : Run) => if x == r then { x with gone := true } else x, trigSent := p.trigSent ++ r.trigs }.groups r.groups)

def execTriggerRunSend (n : Nat) (s : State) : Host.Outcome State Fault Refusal := onUnit s.variant.ports n s (s.sendRun n false)

def execEpochMarkSend (n : Nat) (s : State) : Host.Outcome State Fault Refusal := onUnit s.variant.ports n s (s.sendRun n true)

/-- Triggers that a port can no longer send, since its back channel falls silent (R496; notes/assumptions/36). (log 36 DEDUCED) -/
def State.dropRuns (s : State) (n : Nat) : State :=
  let p := s.port n
  let waiting := s.tu.trigReqs.filter fun r => r.port == n
  let lost := sumNat ((p.runs.filter fun r => !r.gone).map fun r => r.trigs.length) + waiting.length
  let s := { s with tu := { s.tu with trigReqs := s.tu.trigReqs.filter fun r => r.port != n } }
  let s := s.modPort n fun p => { p with runs := [], trigSent := [] }
  (List.range lost).foldl (fun (s : State) _ => (s.modPort n fun p => { p with hdrCounts := bump p.hdrCounts 23 16 }).raise (evPort n) 0x0A 1) s

/-! Wakes (02 R65, R68). -/

/-- A K28.0 to every member of a group, asked for in one cycle (R68; R104). (log 97 DEDUCED) -/
def State.wake (s : State) (n : Nat) : State :=
  (s.group (s.head n)).foldl (fun (s : State) k => s.modPort k fun p => if p.running then { p with wakeDue := true } else p) s

/-- A wake reaches an idle camera end: K28.0, or a replay request (02 R65). -/
def Port.waking (p : Port) (now : Nat) : Port := if p.state = .idle then { p with state := .waking, wakeAt := some now } else p

/-! Replay requests (R79). -/

/-- K23.7 and its two bytes for RUN blocks from a BSN. -/
def replayGroups (bsn run : Nat) : List CodeGroup :=
  [.k23_7, .data (BitVec.ofNat 8 ((run - 1) * 16 + bsn / 256)), .data (BitVec.ofNat 8 bsn)]

/-- Consecutive numbers, modulo 4096, in runs of four at most. (log 81 DEDUCED) -/
def runsOf (l : List Nat) : List (Nat × Nat) :=
  l.foldl (fun (acc : List (Nat × Nat)) b =>
    match acc.getLast? with
    | some (a, k) => if (a + k) % 4096 = b && decide (k < 4) then acc.dropLast ++ [(a, k + 1)] else acc ++ [(b, 1)]
    | none => [(b, 1)]) []

/-! The slots of the back channel (R53, R90, Table 3-7). -/

/-- The K29.7 of a frame has gone out by cycle `at_`: a command waits for its reply (R93), a LINE_SET's limit runs (02 R57). -/
def Port.frameSent (p : Port) (f : TxFrame) (at_ : Nat) : Port :=
  match f.for_ with
  | .command k => { p with commands := p.commands.map fun (c : BcCommand) => if c.tag = k then { c with sent := some at_ } else c }
  | .lineSet q => { p with training := p.training.map fun t => if t.waiting && t.seq == q then { t with waiting := false, deadline := at_ + t.limit } else t }

/-- The next code group of the first frame. A frame begins only where it can end within 255 code groups of the last K28.5. (log 99 DESIGN CHOICE) -/
def Port.txFrame (p : Port) (now : Nat) (f : TxFrame) (rest : List TxFrame) : Port :=
  match f.groups with
  | [] => { p with txFrames := rest }
  | g :: gs =>
    if g = .k27_7 && !p.mayPut f.groups.length then p.emit .k28_5
    else if gs.isEmpty then ({ p with txFrames := rest }.emit g).frameSent f (now + groupCycles)
    else { p with txFrames := { f with groups := gs } :: rest }.emit g

/-- Requests wait for blocks that still await replay. -/
def Port.requests (p : Port) : List (Nat × Nat) := runsOf (p.replayDue.filter fun k => p.blocks.any fun b => b.bsn == k && b.deadline.isSome)

/-- One slot: reserved by a run; otherwise what waits goes in the order of Table 3-7. (log 99 DESIGN CHOICE) -/
def Port.txSlot (p : Port) (now : Nat) : Port :=
  let q := { p with txAt := p.txAt + slotLen, runs := p.runs.filter fun r => !r.gone || decide (p.txAt < r.start + slotLen * r.slots) }
  if p.reserved p.txAt then q
  else match p.txItem with
    | g :: r => { q with txItem := r }.emit g
    | [] =>
      if p.wakeDue && p.mayPut 1 then ({ q with wakeDue := false }.emit .k28_0).waking now
      else match (if p.mayPut 3 then p.requests else []) with
        | (k, run) :: _ =>
          let named := (List.range run).map fun i => (k + i) % 4096
          ({ q with replayDue := p.replayDue.filter fun b => !named.contains b, txItem := (replayGroups k run).tail }.emit .k23_7).waking now
        | [] =>
          let q := if p.requests.isEmpty then { q with replayDue := [] } else q
          match p.txFrames with
          | f :: rest => q.txFrame now f rest
          | [] => q.emit .k28_5

/-- A slot of the port starts in the cycle. -/
def State.slotStarts (s : State) (n : Nat) : Bool := (s.port n).txOn && decide ((s.port n).txAt < s.local24 + 96)

/-- Every running member of the port's group can send its K28.0 in the slot that starts in this cycle (02 R68). (log 97 DEDUCED) -/
def State.wakeTogether (s : State) (n : Nat) : Bool :=
  ((s.group (s.head n)).filter fun k => (s.port k).running).all fun k =>
    let p := s.port k
    s.slotStarts k && p.wakeDue && p.txItem.isEmpty && !p.reserved p.txAt && p.mayPut 1

/-- A slot of a port whose wake waits for the other members: no request begins meanwhile. (log 97 DEDUCED) -/
def Port.txWaiting (p : Port) (now : Nat) : Port :=
  { ({ p with wakeDue := false, replayDue := [] }.txSlot now) with wakeDue := true, replayDue := p.replayDue }

/-- The slot of each port that starts in the cycle (R51: 53.33 ns, more than a cycle). A group's K28.0 goes out on all members in one cycle. (log 99 DESIGN CHOICE) -/
def State.stepBackChannels (s : State) : State :=
  (s.ports.map fun x => x.1).foldl (fun (u : State) n =>
    if s.slotStarts n then u.modPort n fun p => if p.wakeDue && !s.wakeTogether n then p.txWaiting s.now else p.txSlot s.now else u) s

/-- The back channel of a port falls silent: what waits for a slot is not sent. The camera end loses alignment in 100 µs (02 R61). -/
def Port.quiet (p : Port) (now : Nat) : Port :=
  { p with txItem := [], wakeDue := false, replayDue := [], txFrames := []
           quietUntil := if p.txOn then now + 100 * cyclesPerUs else p.quietUntil
           commands := p.commands.map fun (c : BcCommand) => { c with sent := some (c.sent.getD now) } }

end Sys2Proof.Machine
end

