-- ==== Sys2Proof/Machine/DmaEvents.lean ====
section
/-! DEFINITION. Events of the DMA engines that reach into other units: read-backs and bus errors
(11_host_link_and_dma.md R338, R339, R341, R343). -/
namespace Sys2Proof.Machine

/-- What the return of a read-back allows. -/
def State.readBackDone (s : State) (e : Nat) (r : ReadBack) : State :=
  match r.kind with
  | .tag =>
    let s := s.hostWrite r.addr r.bytes
    s.completeDesc e r.ch (match (s.chan e r.ch).frame with | some f => if f.poisoned then 2 else 0 | none => 0)
  | .fence => (s.modChan e r.ch fun c => { c with unacked := false }).settle e r.ch
  | .spanRecord no =>
    match s.ring.spanRecs.find? fun x => x.no == no with
    | none => s
    | some x => s.ring.members.foldl (fun (s : State) d => s.modRing fun r => r.submit s.now d (.span no) .write (dirLba x.dirSlot) 5 x.image) s
  | .logPiece ssn => s.modRing fun r => r.modSegment ssn fun g => { g with awaitsLog := false }
  | .image =>
    let v := s.ring.retrieval.bind fun x => x.awaiting
    let s := s.completeDesc 30 0 (match (s.chan 30 0).frame with | some f => if f.poisoned then 2 else 0 | none => 0)
    match v with
    | some (_, v) => s.verdict v
    | none => s

/-- A read-back toward host memory, after which the device writes there. -/
def ReadBack.ofHost (r : ReadBack) : Bool := match r.kind with | .spanRecord _ | .logPiece _ => false | _ => true

/-- A tag block whose read-back returns in the cycle in which its engine halts: it is written, and the write-back stands (R356). -/
def State.tagAtHalt (s : State) (e : Nat) (r : ReadBack) : State :=
  let status := match (s.chan e r.ch).frame with | some f => if f.poisoned then 2 else 0 | none => 0
  (s.hostWrite r.addr r.bytes).completeHalted e r.ch status

/-- READBACK_COMPLETE (R339): the oldest read-back that the engine has issued returns. While the device may issue no request, what it is for
waits (R318). (log 170 DEDUCED) -/
def execReadbackComplete (e : Nat) (s : State) : Host.Outcome State Fault Refusal :=
  if 32 ≤ e then .next s
  else
    let x := s.engine e
    match x.readbacks.find? fun r => r.issued with
    | none => .next s
    | some r =>
      let s' := s.setEngine e { x with readbacks := eraseFirst (fun y => y.issued) x.readbacks }
      if x.inReset || (r.ofHost && !s.hostOpen) then .next s
      else if x.halted then .next (if x.haltCycle = s.now && r.kind == .tag then s'.tagAtHalt e r else s)
      else .next ((s'.readBackDone e r).tryForce e)

/-- AER Uncorrectable Error Status of a CAUSE: completion timeout and poisoned TLP (Table 11-1). (log 172 PRESUMED) -/
def aerOf : Nat → BitVec 32
  | 3 => 0x4000 | 4 => 0x1000 | _ => 0

/-- The verdict of the item whose transfer was in flight at a halt is READ_ERROR (R343). -/
def Retrieval.fail (x : Retrieval) : Retrieval := { x with awaiting := x.awaiting.map fun a => (a.1, 7) }

/-- What runs again with an engine: responses that were held, and the verdict of a retrieval that the halt cut (R343, R345). (log 173 DESIGN CHOICE) -/
def State.afterResume (s : State) (e : Nat) : State :=
  if e = 29 then s.rec0Release s.host.held.length
  else if e = 30 && (s.ring.retrieval.any fun x => x.awaiting.isSome) then s.verdict 7
  else s

/-- ENGINE_RESUME (R342). -/
def execEngineResume (e : Nat) (s : State) : Host.Outcome State Fault Refusal :=
  if 32 ≤ e then .next s
  else if s.hostRegs && (s.engine e).halted && !(s.engine e).inReset then .next (((s.resumeEngine e).raise (evEngine e) 2).afterResume e)
  else .next s

/-- DMA_BUS_ERROR (R341): causes 1 to 5 of Table 11-15. A command whose transfer was in flight completes with FAULT, and a retrieval in
flight writes READ_ERROR for its item, once its engine runs again (R343). (log 147 DEDUCED) -/
def execDmaBusError (e : Nat) (cause : BitVec 3) (s : State) : Host.Outcome State Fault Refusal :=
  if 32 ≤ e then .next s
  else if cause.toNat = 0 ∨ 5 < cause.toNat then .refused (.illFormed "CAUSE of a bus error")
  else if (s.engine e).halted || (s.engine e).inReset then .next s
  else
    let s := (s.haltEngine e cause.toNat).modHost fun h => { h with aer := h.aer ||| aerOf cause.toNat }
    .next (if e = 28 then s.finishAll (fun i => i.wait == .flash && i.opcode == 0x701) .fault
      else if e = 30 then s.modRing fun r => { r with retrieval := r.retrieval.map Retrieval.fail }
      else s)

end Sys2Proof.Machine
end

