-- ==== Sys2Proof/Machine/Travel.lean ====
section
/-! DEFINITION. Travel (04_travel_and_time.md R113 to R125; 12_mailbox_and_commands.md Table 12-7): encoder axes, fusion, coast,
direction, interpolation, error bound, marks, and the commands that set them. Local time is counted in 2^-32 ns and never steps;
travel in tu. -/
namespace Sys2Proof.Machine

/-- 2^-32 ns in a millisecond. -/
def unitsPerMs : Nat := 1000000 * fracPerNs

/-- Local time of an instant of Device Time in ns. -/
def State.localOf (s : State) (ns : Nat) : Nat := (((ns * fracPerNs : Nat) : Int) - s.time.stepSum).toNat

def absRat (q : Rat) : Rat := if q < 0 then -q else q
def signRat (q : Rat) : Int := if q < 0 then -1 else if q = 0 then 0 else 1
def ratCeil (q : Rat) : Int := -ratFloor (-q)

/-! Axes. -/

/-- Effective pitch in tu per tick (R114). -/
def Axis.step (x : Axis) : Rat := ((x.pitch * x.wear : Nat) : Rat) / ((2 ^ 39 : Nat) : Rat)

/-- The axis is enabled with PITCH above 0. -/
def Axis.fitted (x : Axis) : Bool := x.enable && x.pitch != 0

/-- Fusion treats it as enabled: it passes the index check (R115). -/
def Axis.counts? (x : Axis) : Bool := x.fitted && !x.indexExcl

/-- A rate over a span of local time, per second; open where the span is 0 (notes/assumptions/38). (log 38 DESIGN CHOICE) -/
def perSpan (q : Rat) (net : Int) (span : Nat) : Rat := if span = 0 then ((Config.openSpeed net : Int) : Rat) else q * (unitsPerS : Rat) / (span : Rat)

/-- Speed at the latest of these ticks, of n since speed was 0 (R117). -/
def tickSpeed (e : Rat) (avg n : Nat) (ts : List (Nat × Int)) : Rat :=
  let k := min avg (n - 1)
  match ts with
  | [] => 0
  | (t, _) :: _ =>
    if k = 0 then 0
    else
      let net := (ts.take k).foldl (fun (a : Int) x => a + x.2) 0
      perSpan (e * (net : Rat)) net (t - (ts.getD k (t, 0)).1)

/-- Speed of an axis at a local time, in tu/s (R117). -/
def Axis.speed (x : Axis) (standstill now : Nat) : Rat :=
  match x.ticks with
  | [] => 0
  | (t, _) :: r =>
    let v := tickSpeed x.step x.avg x.n x.ticks
    let since := now - t
    if standstill * unitsPerMs ≤ since then 0
    else match r with
      | (t', _) :: _ =>
        if t - t' < since then
          let lim := x.step * (unitsPerS : Rat) / (since : Rat)
          if lim < absRat v then ((signRat v : Int) : Rat) * lim else v
        else v
      | [] => v

/-- Acceleration of an axis at its latest tick, in tu/s² (R118): 0 until AVG + 1 ticks since its speed was last 0. (log 140 DEDUCED) -/
def Axis.accel (x : Axis) : Rat :=
  if x.since0 < x.avg + 1 then 0
  else
    match x.ticks, x.ticks.drop x.avg with
    | (t, _) :: _, (t', _) :: _ =>
      perSpan (tickSpeed x.step x.avg x.n x.ticks - tickSpeed x.step x.avg (x.n - x.avg) (x.ticks.drop x.avg)) 0 (t - t')
    | _, _ => 0

/-- Ticks that speed and acceleration need: two spans of 16 and their first tick. -/
def tickDepth : Nat := 34

/-- A tick. -/
def Axis.tick (x : Axis) (t : Nat) (sign : Int) : Axis :=
  let ts := (t, sign) :: x.ticks.take tickDepth
  { x with ticks := ts, n := x.n + 1, since0 := if tickSpeed x.step x.avg (x.n + 1) ts = 0 then 1 else x.since0 + 1, fresh := x.fresh ++ [(t, sign)], lastSign := sign, net := x.net + sign }

/-- ENCODER_EDGE: the glitch filter, the limit of 10 MHz, the quadrature (R114, R115). -/
def Axis.edge (x : Axis) (inputB level : Bool) (held t : Nat) : Axis :=
  if held < x.glitch then { x with counts := bump x.counts 15 0 }
  else
    let last := if inputB then x.lastB else x.lastA
    let near := match last with | some u => decide (t < u + 100 * fracPerNs) | none => false
    let x := if inputB then { x with levelB := level } else { x with levelA := level }
    if near then { x with counts := bump x.counts 39 24 }
    else
      let x := if inputB then { x with lastB := some t } else { x with lastA := some t }
      let ahead := if inputB then level == x.levelA else level != x.levelB
      if x.fitted then x.tick t (if ahead != x.invert then 1 else -1) else x

def execEncoderEdge (a : Nat) (inputB level : Bool) (held stamp : Nat) (s : State) : Host.Outcome State Fault Refusal :=
  onUnit 4 a s (s.onBall (s.modAxis a fun x => x.edge inputB level held (s.localOf stamp)))

/-- ENCODER_INDEX: the index check (R115); whether it failed. (log 160 DESIGN CHOICE) -/
def Axis.index (x : Axis) : Bool × Axis :=
  let same := x.lastSign != 0 && x.lastSign == x.lastZ
  let off := (x.net.natAbs : Int) - x.ticksPerRev
  let bad := x.enable && x.ticksPerRev != 0 && same && decide (2 < off.natAbs)
  let good := x.enable && x.ticksPerRev != 0 && same && !bad
  let x := { x with net := 0, lastZ := x.lastSign }
  if bad then (true, { x with indexExcl := true, indexGood := 0, counts := bump x.counts 23 16 })
  else if good && x.indexExcl then (false, { x with indexGood := x.indexGood + 1, indexExcl := decide (x.indexGood + 1 < 2) })
  else (false, x)

def execEncoderIndex (a held _stamp : Nat) (s : State) : Host.Outcome State Fault Refusal :=
  onUnit 4 a s
    (let x := s.axis a
     s.onBall <| if held < x.glitch then s.setAxis a { x with counts := bump x.counts 15 0 }
     else
       let r := x.index
       let s := s.setAxis a r.2
       if r.1 then s.raise (evAxis a) 1 else s)

/-- AXIS_STANDSTILL: no tick for STANDSTILL (R117). -/
def execAxisStandstill (a : Nat) (s : State) : Host.Outcome State Fault Refusal :=
  onUnit 4 a s
    (let x := s.axis a
     match x.ticks with
     | (t, _) :: _ => if t + s.tu.travel.standstill * unitsPerMs ≤ s.time.mono then s.setAxis a { x with ticks := [], n := 0, since0 := 0 } else s
     | [] => s)

/-! Fusion (R118). -/

/-- What fusion finds in a cycle. -/
structure Fusion where
  speeds : List Rat
  /-- Enabled axes, those of them not excluded, and those that agree. -/
  enabled : List Nat
  pool : List Nat
  elig : List Nat
  /-- The same test over all enabled axes. -/
  eligAny : List Nat
  braking : Bool
  deriving DecidableEq, Repr

def Fusion.v (f : Fusion) (a : Nat) : Rat := f.speeds.getD a 0

/-- tol(c), in tu/s. -/
def Travel.tol (t : Travel) (v : Rat) : Rat :=
  let a := (t.tolPm : Rat) / 1000 * absRat v
  let b : Rat := ((64 * t.tolFloor : Nat) : Rat)
  if a < b then b else a

def Travel.dirSign (t : Travel) : Int := match t.dir with | .standstill => 0 | .forward => 1 | .reverse => -1

/-- Fusion at a local time. -/
def State.fuse (s : State) (now : Nat) : Fusion :=
  let t := s.tu.travel
  let vs := (List.range 4).map fun a => (s.axis a).speed t.standstill now
  let v := fun (a : Nat) => vs.getD a 0
  let enabled := (List.range 4).filter fun a => (s.axis a).counts?
  let pool := enabled.filter fun a => !(s.axis a).excluded
  let test := fun (l : List Nat) => l.filter fun c => decide (t.minAgree ≤ (l.filter fun a => decide (absRat (v a - v c) ≤ t.tol (v c))).length)
  let braking := match t.hint with
    | .braking => true
    | .traction => false
    | .none => decide (t.accel * ((t.dirSign : Int) : Rat) < -(((640 * t.brakeDecel : Nat) : Nat) : Rat))
  { speeds := vs, enabled := enabled, pool := pool, elig := test pool, eligAny := test enabled, braking := braking }

/-- The reference among some axes: slipping wheels run fast, sliding wheels run slow; ties go to the lowest number. -/
def Fusion.choose (f : Fusion) (l : List Nat) : Option Nat :=
  match l with
  | [] => none
  | a :: r => some (r.foldl (fun b c => if (if f.braking then decide (absRat (f.v b) < absRat (f.v c)) else decide (absRat (f.v c) < absRat (f.v b))) then c else b) a)

/-! Extrapolation (R119). -/

/-- Distance covered a time (in s) after the last TRACK cycle; speed stops at 0. -/
def coastDist (v0 a0 t : Rat) : Rat :=
  let stop := if v0 = 0 then some 0 else if v0 * a0 < 0 then some (-v0 / a0) else none
  let t := match stop with | some u => if u < t then u else t | none => t
  v0 * t + a0 * t * t / 2

/-- Speed at that time. -/
def coastSpeed (v0 a0 t : Rat) : Rat :=
  let v := v0 + a0 * t
  if v0 * v ≤ 0 then 0 else v

/-- Seconds between two local times. -/
def secs (a b : Nat) : Rat := (((b : Int) - a : Int) : Rat) / (unitsPerS : Rat)

/-! One cycle of the engine. -/

def limHi : Rat := ((2 ^ 39 - 1 : Nat) : Rat)
def limLo : Rat := -((2 ^ 39 : Nat) : Rat)

/-- Follow the ticks of an axis from local time l0 to l1, its value at l0 being `tr` (R121). (log 134 DESIGN CHOICE) -/
def State.follow (s : State) (a : Nat) (v : Rat) (l0 l1 : Nat) : State :=
  let t := s.tu.travel
  let x := s.axis a
  let e := x.step
  let kept := t.following && t.ref == a
  let start := if kept then (t.anchor, t.anchorT, t.tickT) else (t.tr, l0, (x.ticks.headD (l0, 0)).1)
  let p := x.fresh.foldl (fun (acc : Rat × Nat × Nat) k => (acc.1 + ((k.2 : Int) : Rat) * e, k.1, k.1)) start
  let lim := let u := e - 1 / 65536; if u < 0 then 0 else u
  let d := absRat (v * secs p.2.1 l1)
  let d := if l1 ≤ p.2.1 then 0 else if lim < d then lim else d
  s.modTravel fun t =>
    { t with following := true, ref := a, anchor := p.1, anchorT := p.2.1, tickT := p.2.2, tr := p.1 + ((signRat v : Int) : Rat) * d, speed := v }

/-- Extrapolate. -/
def State.extrapolate (s : State) (l0 l1 : Nat) : State :=
  s.modTravel fun t =>
    let a := secs t.coastT l0
    let b := secs t.coastT l1
    { t with following := false, tr := t.tr + (coastDist t.v0 t.a0 b - coastDist t.v0 t.a0 a), speed := coastSpeed t.v0 t.a0 b, accel := t.a0 }

/-- |a0| held to A_LIM. -/
def Travel.limited (t : Travel) (a : Rat) : Rat :=
  let m : Rat := ((640 * t.aLim : Nat) : Rat)
  if m < absRat a then ((signRat a : Int) : Rat) * m else a

/-- Bits of the axes that agree with a reference. -/
def State.agreeMask (s : State) (f : Fusion) (r : Nat) : BitVec 4 :=
  BitVec.ofNat 4 (maskOf (f.enabled.filter fun a => decide (absRat (f.v a - f.v r) ≤ s.tu.travel.tol (f.v r))))

/-- Timers of exclusion and restoration: they run in TRACK alone. -/
def State.axisTimers (s : State) (f : Fusion) (ref : Option Nat) (now : Nat) : State :=
  (List.range 4).foldl (fun (s : State) a =>
    s.modAxis a fun x =>
      match ref with
      | none => { x with outSince := none, inSince := none }
      | some r =>
        let inside := decide (absRat (f.v a - f.v r) ≤ s.tu.travel.tol (f.v r))
        if !f.enabled.contains a then { x with outSince := none, inSince := none }
        else if x.excluded then { x with outSince := none, inSince := if inside then some (x.inSince.getD now) else none }
        else { x with inSince := none, outSince := if inside then none else some (x.outSince.getD now) }) s

/-- The engine's state and its continuous advance from l0 to l1 (R118, R119, R121). -/
def State.runEngine (s : State) (f : Fusion) (l0 l1 : Nat) : State :=
  let t := s.tu.travel
  let fitted := (List.range 4).any fun a => (s.axis a).fitted
  let s := s.modTravel fun t => { t with braking := f.braking, agreeSince := if f.elig.isEmpty then none else some (t.agreeSince.getD l1) }
  if !fitted then
    (s.axisTimers f none l1).modTravel fun t => { t with state := .unconfigured, following := false, speed := 0, accel := 0, agree := 0, agreeSince := none }
  else
    match (if t.state == .track || t.state == .unconfigured then f.choose f.elig else none) with
    | some r =>
      let s := (s.axisTimers f (some r) l1).follow r (f.v r) l0 l1
      let a := (s.axis r).accel
      s.modTravel fun t => { t with state := .track, coast := 0, accel := a, v0 := f.v r, a0 := t.limited a, coastT := l1, agree := s.agreeMask f r }
    | none =>
      let entering := t.state != .coast && t.state != .degraded
      let s := s.axisTimers f none l1
      let s := if t.state = .unconfigured then s.modTravel fun t => { t with v0 := 0, a0 := 0, coastT := l0, coast := 0 } else s
      let s := if entering then (s.modTravel fun t => { t with state := .coast }).raise evTravel 2 else s
      let cand := if f.elig.isEmpty then f.eligAny else f.elig
      let before := s.tu.travel.tr
      let s := match (if s.tu.travel.state = .degraded then f.choose cand else none) with
        | some r => (s.follow r (f.v r) l0 l1).modTravel fun t => { t with accel := (s.axis r).accel }
        | none => s.extrapolate l0 l1
      s.modTravel fun t =>
        let d := absRat (t.tr - before)
        { t with coast := t.coast + d, errAcc := t.errAcc + (t.coastErr : Rat) * d / 1000, agree := s.agreeMask f t.ref }

/-- A mark slew applied to what the engine has advanced (R124). -/
def Travel.slewed (t : Travel) (before : Rat) : Travel :=
  match t.slew with
  | some k =>
    let d := absRat (t.tr - before) * (k.pct : Rat) / 1000
    if k.waiting || d = 0 then t
    else
      let use := if absRat k.rest ≤ d then k.rest else ((signRat k.rest : Int) : Rat) * d
      let rest := k.rest - use
      { t with tr := t.tr + use, anchor := t.anchor + use, slew := if rest = 0 then none else some { k with rest := rest } }
  | none => t

/-- Direction and its reversal (R120); whether one is declared. -/
def Travel.direct (t : Travel) : Bool × Travel :=
  if t.speed = 0 then (false, { t with dir := .standstill, accel := 0, slew := t.slew.map fun k => { k with waiting := true } })
  else
    match t.dir with
    | .standstill => (false, { t with dir := if t.speed < 0 then .reverse else .forward, extreme := t.tr })
    | .forward =>
      let e := if t.extreme < t.tr then t.tr else t.extreme
      if t.tr ≤ e - (t.revHyst : Rat) then (true, { t with dir := .reverse, extreme := t.tr }) else (false, { t with extreme := e })
    | .reverse =>
      let e := if t.tr < t.extreme then t.tr else t.extreme
      if e + (t.revHyst : Rat) ≤ t.tr then (true, { t with dir := .forward, extreme := t.tr }) else (false, { t with extreme := e })

/-- Travel stops at its limits (R113); whether it has just reached one. -/
def Travel.limit (t : Travel) : Bool × Travel :=
  let v := if limHi < t.tr then limHi else if t.tr < limLo then limLo else t.tr
  let here := decide (limHi ≤ v) || decide (v ≤ limLo)
  (here && !t.atLimit, { t with anchor := t.anchor + (v - t.tr), tr := v, atLimit := here })

/-- A jump of travel (R120, R128). (log 104 DEDUCED) -/
def Travel.shift (t : Travel) (d : Rat) : Travel :=
  { t with tr := t.tr + d, anchor := t.anchor + d, extreme := t.extreme + d, recent := t.recent.map fun x => (x.1, x.2 + d) }

/-- Stamped travel: truncated toward minus infinity (R106). -/
def stampTravel (v : Rat) : Word := wordOfInt (ratFloor v)

/-- The jumps that take effect in this cycle: stepped marks, a resumed slew, and then TRAVEL_SET, which is absolute (R113, R128). (log 104 DEDUCED) -/
def State.travelJumps (s : State) (moving : Bool) : State :=
  let s := s.modTravel fun t =>
    let t := { t.shift t.jump with jump := 0 }
    match t.slew with
    | some k => if k.waiting && moving then { t.shift k.rest with slew := none } else t
    | none => t
  let due := s.tu.travel.setPending.filter fun x => decide (x.2 < s.now)
  due.foldl (fun (s : State) x =>
    (s.finishWait (.travelJump x.2) .ok [stampTravel s.tu.travel.tr]).modTravel fun t => { t.shift ((x.1 : Rat) - t.tr) with slew := none, errAcc := 0 })
    (s.modTravel fun t => { t with setPending := t.setPending.filter fun x => !decide (x.2 < s.now) })

/-- Step 2 of Table 4-1 for travel, from local time l0 to l1: jumps, then continuous advance. The value after the jumps is
`travelJumps`. -/
def State.advanceTravel (s : State) (f : Fusion) (l0 l1 : Nat) : State :=
  let before := s.tu.travel.tr
  let s := (s.runEngine f l0 l1).modTravel fun t => t.slewed before
  let r := s.tu.travel.limit
  let s := s.modTravel fun _ => r.2
  let s := if r.1 then s.raise evTravel 1 else s
  let d := s.tu.travel.direct
  let s := s.modTravel fun _ => d.2
  let s := if d.1 then s.raise evTravel 5 else s
  (List.range 4).foldl (fun (s : State) a => if (s.axis a).fresh.isEmpty then s else s.modAxis a fun x => { x with fresh := [] }) s

/-- The engine moves in this cycle: the fused speed that it is about to have is not 0. -/
def State.engineMoves (s : State) (f : Fusion) (l1 : Nat) : Bool :=
  let t := s.tu.travel
  let r := if t.state == .track || t.state == .unconfigured then f.choose f.elig
    else if t.state = .degraded then f.choose (if f.elig.isEmpty then f.eligAny else f.elig) else none
  match r with
  | some a => f.v a != 0
  | none => ((List.range 4).any fun a => (s.axis a).fitted) && t.state != .unconfigured && coastSpeed t.v0 t.a0 (secs t.coastT l1) != 0

/-! ERR_BOUND (R122) and the registers of Table 4-5. -/

def State.errBound (s : State) : Nat :=
  let t := s.tu.travel
  let dt := secs t.tickT s.time.mono
  let i : Rat := if t.state = .track then
      let e := (s.axis t.ref).step
      let g : Rat := ((1 + ratCeil (((640 * t.aLim : Nat) : Rat) * dt * dt / 2) : Int) : Rat)
      if e < g then e else g
    else 0
  min 0xFFFFFF (ratCeil (t.errAcc + i)).toNat

def TravelState.code : TravelState → Nat
  | .unconfigured => 0 | .track => 1 | .coast => 2 | .degraded => 3

def Dir.code : Dir → Nat
  | .standstill => 0 | .forward => 1 | .reverse => 2

def State.travelNow (s : State) : Word := stampTravel s.tu.travel.tr

def State.travelStatus (s : State) : Word :=
  let t := s.tu.travel
  let ex := maskOf ((List.range 4).filter fun a => (s.axis a).excluded || (s.axis a).indexExcl)
  mkWord [(39, 37, t.state.code), (36, 35, t.dir.code), (34, 34, b2n t.braking), (33, 32, t.ref), (31, 28, t.agree.toNat), (27, 24, ex), (23, 0, s.errBound)]

/-! The timed rows of R118. -/

/-- TRAVEL_DEGRADED: the coast distance has reached COAST_LIMIT. -/
def execTravelDegraded (s : State) : Host.Outcome State Fault Refusal :=
  let t := s.tu.travel
  .next (if t.state = .coast && decide ((t.coastLimit : Rat) ≤ t.coast) then (s.modTravel fun t => { t with state := .degraded }).raise evTravel 3 else s)

/-- TRAVEL_RECOVERED: an eligible reference has held for RESTORE_TIME. -/
def execTravelRecovered (s : State) : Host.Outcome State Fault Refusal :=
  let t := s.tu.travel
  let held := match t.agreeSince with | some u => decide (u + t.restoreTime * unitsPerMs ≤ s.time.mono) | none => false
  .next (if (t.state = .coast || t.state = .degraded) && held then
      (s.modTravel fun t => { t with state := .track, coast := 0, following := false }).raise evTravel 4
    else s)

/-- AXIS_EXCLUDE: outside the reference's tolerance for EXCLUDE_TIME. -/
def execAxisExclude (a : Nat) (s : State) : Host.Outcome State Fault Refusal :=
  let t := s.tu.travel
  let x := s.axis a
  let due := match x.outSince with | some u => decide (u + t.excludeTime * unitsPerMs ≤ s.time.mono) | none => false
  onUnit 4 a s
    (if t.state = .track && due && !x.excluded then
       let v := fun (k : Nat) => absRat ((s.axis k).speed t.standstill s.time.mono)
       (s.setAxis a { x with excluded := true, outSince := none }).raise (evAxis a) (if v t.ref < v a then 2 else 3)
     else s)

/-- AXIS_RESTORED: inside it for RESTORE_TIME. -/
def execAxisRestored (a : Nat) (s : State) : Host.Outcome State Fault Refusal :=
  let t := s.tu.travel
  let x := s.axis a
  let due := match x.inSince with | some u => decide (u + t.restoreTime * unitsPerMs ≤ s.time.mono) | none => false
  onUnit 4 a s
    (if t.state = .track && due && x.excluded then (s.setAxis a { x with excluded := false, inSince := none }).raise (evAxis a) 4 else s)

/-! Marks (R123 to R125). -/

/-- Cycle starts that `recent` holds: as far back as a mark's filter reaches. -/
def recentDepth : Nat := 256

/-- Internal travel at a local time before `b`: on the line between the two points around it, or, before them all, at `speed`. -/
def travelBack (speed : Rat) (l : Nat) : Nat × Rat → List (Nat × Rat) → Rat
  | b, [] => b.2 + speed * secs b.1 l
  | b, a :: r => if l < a.1 then travelBack speed l a r else if b.1 = a.1 then a.2 else a.2 + (b.2 - a.2) * secs a.1 l / secs a.1 b.1

/-- Internal travel at a local time (R123): in the cycle in progress, at the fused speed from its start. (log 104 DEDUCED) -/
def Travel.at (t : Travel) (now l : Nat) : Rat := if now ≤ l then t.tr + t.speed * secs now l else travelBack t.speed l (now, t.tr) t.recent

/-- How a taken edge is applied: 0 rejected, 1 event only, 2 slewed, 3 stepped. -/
def Mark.apply (m : Mark) (corr : Int) : Nat :=
  if m.win < corr.natAbs then 0 else if m.use = .eventOnly then 1 else if corr.natAbs ≤ m.slewMax then 2 else 3

/-- MARK_EDGE. (log 159 DESIGN CHOICE) -/
def State.markEdge (s : State) (k : Nat) (falling : Bool) (held stamp : Nat) : State :=
  let m := s.mark k
  let t := s.tu.travel
  let way := match m.dir with | 0 => t.dir == .forward | 1 => t.dir == .reverse | _ => true
  if m.use = .off || falling != m.falling || decide (held < m.glitch) || !way then s
  else
    let corr := signed 40 m.pos.toNat - ratFloor (t.at s.time.mono (s.localOf stamp))
    let how := m.apply corr
    let s := match how with
      | 2 => s.modTravel fun t => { t with errAcc := (m.tol : Rat), slew := if corr = 0 then none else some { rest := (corr : Rat), pct := m.slewPct, waiting := decide (t.dir = Dir.standstill) } }
      | 3 => s.modTravel fun t => { t with errAcc := (m.tol : Rat), slew := none, jump := t.jump + (corr : Rat) }
      | _ => s
    let code := if how = 0 then 2 else 1
    let st := shortStamp stamp
    (s.logPush (logBits st (evMark k) code false (wrap 40 corr * 2 ^ 24 + how * 2 ^ 22))).raiseAt (evMark k) code 0 st true

def execMarkEdge (k : Nat) (falling : Bool) (held stamp : Nat) (s : State) : Host.Outcome State Fault Refusal :=
  onUnit 8 k s (s.onBall (s.markEdge k falling held stamp))

/-! Commands (Table 12-7). -/

/-- TRAVEL_SET: a jump in the first cycle that begins after it, which answers with the value replaced (R128). (log 78 DEDUCED) -/
def execTravelSet (m : Msg) (s : State) : Host.Outcome State Fault Refusal :=
  .next (mailRun 0x202 permitRL m s false (lenIs m 1) fun s =>
    .wait (.travelJump s.now) (s.modTravel fun t => { t with setPending := t.setPending ++ [(signed 40 (m.w 0).toNat, s.now)] }))

/-- AXIS_CFG: an enabled axis needs PITCH above 0 (Table 4-6). -/
def execAxisCfg (m : Msg) (s : State) : Host.Outcome State Fault Refusal :=
  let a := fld (m.w 0) 39 38
  let enable := bit (m.w 0) 37
  let pitch := fld (m.w 1) 39 8
  let wear := fld (m.w 2) 39 16
  let rev := fld (m.w 0) 23 8
  .next (mailRun 0x203 permitRL m s false
    (lenIs m 3 && zeroFld (m.w 0) 7 0 && zeroFld (m.w 1) 7 0 && zeroFld (m.w 2) 15 0 && within 0x400000 0xC00000 wear && !(enable && pitch == 0)) fun s =>
    okNext (s.modAxis a fun x =>
      let x := if enable && !x.enable then { x with ticks := [], n := 0, since0 := 0, fresh := [] } else x
      let x := if enable then x else { x with excluded := false, outSince := none, inSince := none }
      { x with enable := enable, invert := bit (m.w 0) 36, glitch := fld (m.w 0) 35 28, avg := fld (m.w 0) 27 24 + 1, ticksPerRev := rev, pitch := pitch, wear := wear
               indexExcl := x.indexExcl && rev != 0 }))

/-- FUSION_CFG (Table 4-7). -/
def execFusionCfg (m : Msg) (s : State) : Host.Outcome State Fault Refusal :=
  let w := m.w
  let argsOk := lenIs m 4 && within 5 255 (fld (w 0) 39 32) && within 10 2000 (fld (w 0) 31 21) && within 1 1000 (fld (w 0) 20 11) && fld (w 0) 9 8 != 3 &&
    zeroFld (w 0) 7 0 && within 10 10000 (fld (w 1) 39 26) && within 1 100 (fld (w 1) 25 16) && within 10 1000 (fld (w 1) 15 6) && zeroFld (w 1) 5 0 &&
    decide (64 ≤ fld (w 2) 39 8) && decide (1 ≤ fld (w 2) 7 0) && decide (1 ≤ fld (w 3) 39 24) && within 10 5000 (fld (w 3) 23 11) && zeroFld (w 3) 10 0
  .next (mailRun 0x204 permitRL m s false argsOk fun s =>
    okNext (s.modTravel fun t =>
      { t with tolPm := fld (w 0) 39 32, tolFloor := fld (w 0) 31 21, excludeTime := fld (w 0) 20 11, minAgree := fld (w 0) 10 10 + 1
               hint := match fld (w 0) 9 8 with | 1 => .traction | 2 => .braking | _ => .none
               restoreTime := fld (w 1) 39 26, brakeDecel := fld (w 1) 25 16, aLim := fld (w 1) 15 6, coastLimit := fld (w 2) 39 8, coastErr := fld (w 2) 7 0
               revHyst := fld (w 3) 39 24, standstill := fld (w 3) 23 11 }))

/-- MARK_CFG (Table 4-8). -/
def execMarkCfg (m : Msg) (s : State) : Host.Outcome State Fault Refusal :=
  let w := m.w
  let k := fld (w 0) 39 37
  let argsOk := lenIs m 4 && fld (w 0) 36 35 != 3 && fld (w 0) 25 24 != 3 && zeroFld (w 0) 7 0 && zeroFld (w 2) 7 0 && within 1 50 (fld (w 3) 15 10) && zeroFld (w 3) 9 0
  .next (mailRun 0x205 permitRL m s false argsOk fun s =>
    okNext (s.setMark k
      { use := match fld (w 0) 36 35 with | 1 => .snap | 2 => .eventOnly | _ => .off
        falling := bit (w 0) 34, glitch := fld (w 0) 33 26, dir := fld (w 0) 25 24, tol := fld (w 0) 23 8, pos := w 1, win := fld (w 2) 39 8
        slewMax := fld (w 3) 39 16, slewPct := fld (w 3) 15 10 }))

end Sys2Proof.Machine
end

