-- ==== Sys2Proof/Machine/Time.lean ====
section
/-! DEFINITION. Device Time and its discipline (04_travel_and_time.md R107 to R112; 08_backbone.md R243), and lighting phase (R126,
R127). -/
namespace Sys2Proof.Machine

/-! Registers (Tables 4-3, 4-4). -/

def TimeSource.code : TimeSource → Nat
  | .free => 0 | .pps => 1 | .as => 2

def DiscState.code : DiscState → Nat
  | .free => 0 | .acquiring => 1 | .locked => 2 | .holdover => 3

def State.timeStatus (s : State) : Word :=
  let t := s.time
  mkWord [(39, 38, t.source.code), (37, 36, t.disc.code), (35, 34, t.asPort), (31, 0, wrap 32 t.offset)]

def State.timeNowLo (s : State) : Word := pw (ptpWords s.dtNs) 0
def State.timeNowHi (s : State) : Word := pw (ptpWords s.dtNs) 1

/-- A value read by the host (R319). -/
def State.hostRead (s : State) (w : Word) : State := s.modHost fun h => { h with lastRead := BitVec.ofNat 64 w.toNat }

/-- A read of TimeNowLo latches the other three of the same cycle (R112). (log 75 DEDUCED) -/
def State.latchTime (s : State) : State :=
  s.modTime fun t => { t with latchHi := some s.timeNowHi, latchTravel := some s.travelNow, latchStatus := some s.travelStatus }

def execTimeNowRead (s : State) : Host.Outcome State Fault Refusal := .next (if s.hostRegs then s.latchTime.hostRead s.timeNowLo else s)

/-! Steps (R108, R141). -/

def shiftNat (d : Int) (n : Nat) : Nat := ((n : Int) + d).toNat

/-- What is held as Device Time of an instant keeps its instant when Device Time steps by d ns (R141). (log 136 DEDUCED) -/
def Port.shiftTime (u d : Int) (p : Port) : Port :=
  { p with blocks := p.blocks.map fun b => { b with arrivedAt := b.arrivedAt + u }
           packet := p.packet.map fun k => { k with arrival := k.arrival + u }
           trigSent := p.trigSent.map fun t => (t.1, shiftNat d t.2), trigSeen := p.trigSeen.map fun t => (t.1, shiftNat d t.2)
           runs := p.runs.map fun r => { r with trigs := r.trigs.map fun t => (t.1, shiftNat d t.2) } }

/-- A pulse planned, or high, keeps its instant when Device Time steps (R138, R141). (log 136 DEDUCED) -/
def Strobe.shiftTime (d : Int) (x : Strobe) : Strobe :=
  { x with planned := x.planned.map fun p => (shiftNat d p.1, p.2), highUntil := x.highUntil.map (shiftNat d) }

/-- Device Time steps by `u` units of 2^-32 ns, `d` ns to whole ns: the jump itself, its event and log entry, the samples and
stamps held, and the lists that follow Device Time (R108, R141; 07 R228; 08 R247). (log 136 DEDUCED) -/
def State.stepTime (s : State) (u d : Int) : State :=
  let s := (List.range s.variant.backbone).foldl (fun (s : State) p => s.bringCredits p) s
  let s := s.modTime fun t => { t with stepSum := t.stepSum + u }
  let s := s.raiseLog evTime 1 0 (wrap 64 d)
  let s := s.modTravel fun t => { t with history := t.history.map fun (x : Sample) => { x with t := x.t + u } }
  let s := { s with ports := s.ports.map fun (x : Nat × Port) => (x.1, x.2.shiftTime u d) }
  let s := { s with tu := { s.tu with strobes := s.tu.strobes.map fun (x : Nat × Strobe) => (x.1, x.2.shiftTime d), syncHigh := s.tu.syncHigh.map (shiftNat d)
                                      syncPlanned := s.tu.syncPlanned.map (shiftNat d)
                                      launches := s.tu.launches.map fun (l : Launch) => { l with edge := shiftNat d l.edge }
                                      trigReqs := s.tu.trigReqs.map fun (r : TrigReq) => { r with fire := shiftNat d r.fire } } }
  let s := { s with facets := s.facets.map fun (x : Nat × Facet) => (x.1, { x.2 with conceals := x.2.conceals.map (shiftNat d) }) }
  let s := { s with accords := s.accords.map fun (x : Nat × Accord) => (x.1, if fld (pw x.2.running 0) 30 29 = 1 then { x.2 with lastStart := s.dt16 } else x.2) }
  s.bbStep d

/-- The steps that take effect in this cycle: a servo step, and TIME_SET (R128). -/
def State.timeJumps (s : State) : State :=
  let s := match s.time.stepPending with
    | some (d, c) => if c < s.now then (s.modTime fun t => { t with stepPending := none }).stepTime (d * fracPerNs) d else s
    | none => s
  let due := s.time.setPending.filter fun x => decide (x.2 < s.now)
  due.foldl (fun (s : State) x =>
    (s.finishWait (.timeJump x.2) .ok (ptpWords s.dtNs)).stepTime (((x.1 * fracPerNs : Nat) : Int) - s.dt) ((x.1 : Int) - s.dtNs))
    (s.modTime fun t => { t with setPending := t.setPending.filter fun x => !decide (x.2 < s.now) })

/-! Discipline (R107 to R109). -/

/-- A measured offset: Device Time less the source's, in ns. -/
def State.measure (s : State) (off : Int) : State :=
  let t := s.time
  let t' := { t with offset := clampI (-(2 ^ 31 : Nat)) ((2 ^ 31 - 1 : Nat) : Int) off, newOffset := some off, lastEdge := s.now }
  let run := if off.natAbs ≤ t.lockThresh then (if t.disc = .holdover then 0 else t.lockRun) + 1 else 0
  match t.disc with
  | .free => s
  | .locked => if t.stepThresh < off.natAbs then (s.setTime { t' with disc := .acquiring, lockRun := 0 }).raise evTime 3 else { s with time := t' }
  | _ =>
    if 16 ≤ run then (s.setTime { t' with disc := .locked, lockRun := run }).raise evTime 2
    else { s with time := { t' with disc := .acquiring, lockRun := run } }

/-- Offset of an instant from the nearest whole second. -/
def secondOffset (ns : Int) : Int := let r := ns.emod 1000000000; if r < 500000000 then r else r - 1000000000

/-- PPS_EDGE: outside PPS_WINDOW while LOCKED, it is discarded (R109). -/
def execPpsEdge (held stamp : Nat) (s : State) : Host.Outcome State Fault Refusal :=
  let t := s.time
  let off := secondOffset ((stamp : Int) - t.ppsDelay)
  .next (s.onBall <| if held < 25 || t.source != .pps then s
    else if t.disc = .locked && decide (1000 * t.ppsWindow < off.natAbs) then (s.modTime fun t => { t with syncCounts := bump t.syncCounts 23 8 }).raise evTime 5
    else s.measure off)

/-- AS_SYNC_RX: only the port named by AS_PORT feeds the offset (08 R243). -/
def execAsSyncRx (bb : Nat) (sync : AsSync) (s : State) : Host.Outcome State Fault Refusal :=
  onUnit s.variant.backbone bb s (if s.time.source = .as && s.time.asPort == bb then s.measure (s.asOffset sync) else s)

/-- TIME_HOLDOVER: no PPS_IN edge for 1.5 s, or, as the port's station reports, no Sync for 3 intervals. -/
def execTimeHoldover (s : State) : Host.Outcome State Fault Refusal :=
  let t := s.time
  let silent := t.source == .as || decide (t.lastEdge + 3 * cyclesPerS / 2 ≤ s.now)
  .next (if (t.disc = .acquiring || t.disc = .locked) && silent then (s.setTime { t with disc := .holdover, lockRun := 0 }).raise evTime 4 else s)

/-- SERVO_UPDATE: a large offset by one step; a small one by an INCREMENT that the manual leaves to the servo, within ±SLEW_MAX. -/
def execServoUpdate (s : State) : Host.Outcome State Fault Refusal :=
  let t := s.time
  .next (if !s.rst.phokel || s.phokelStops || t.disc = .free || t.disc = .holdover then s
    else match t.newOffset with
      | none => s
      | some off =>
        if t.stepThresh < off.natAbs then s.modTime fun t => { t with newOffset := none, stepPending := some (-off, s.now) }
        else
          let d := s.draw
          let m := 4 * fracPerNs * t.slewMax / 1000000
          d.2.modTime fun t => { t with newOffset := none, adj := ((d.1 % (2 * m + 1) : Nat) : Int) - m })

/-! Commands (12 Table 12-7). -/

def execTimeCfg (m : Msg) (s : State) : Host.Outcome State Fault Refusal :=
  let w := m.w
  let argsOk := lenIs m 3 && fld (w 0) 39 38 != 3 && decide (fld (w 0) 37 36 < s.variant.backbone) && within 1000 1000000000 (fld (w 0) 35 6) && zeroFld (w 0) 5 0 &&
    within 10 500 (fld (w 1) 39 31) && within 10 10000 (fld (w 1) 30 17) && zeroFld (w 1) 0 0 && within 1 500000 (fld (w 2) 39 21) &&
    within 1 500000 (fld (w 2) 20 2) && zeroFld (w 2) 0 0
  .next (mailRun 0x200 permitRL m s false argsOk fun s =>
    let t := s.time
    let src : TimeSource := match fld (w 0) 39 38 with | 1 => .pps | 2 => .as | _ => .free
    let port := fld (w 0) 37 36
    let changed := src != t.source || (src == .as && port != t.asPort)
    let unlock := changed && t.disc == .locked
    let t' := { t with source := src, asPort := port, stepThresh := fld (w 0) 35 6, slewMax := fld (w 1) 39 31, lockThresh := fld (w 1) 30 17
                       ppsDelay := fld (w 1) 16 1, ppsWindow := fld (w 2) 39 21, ppsOutWidth := fld (w 2) 20 2, ppsOutEn := bit (w 2) 1
                       ppsOutUntil := if bit (w 2) 1 then t.ppsOutUntil else none }
    let t' := if changed then { t' with disc := if src = .free then .free else .acquiring, lockRun := 0, newOffset := none, lastEdge := s.now } else t'
    let s := s.setTime t'
    okNext (if unlock then s.raise evTime 3 else s))

/-- TIME_SET: always a step, in the first cycle that begins after it, which answers with the value replaced (R108, R128). (log 78 DEDUCED) -/
def execTimeSet (m : Msg) (s : State) : Host.Outcome State Fault Refusal :=
  .next (mailRun 0x201 permitRL m s false (lenIs m 2 && (ptpNs (m.w 0) (m.w 1)).isSome) fun s =>
    .wait (.timeJump s.now) (s.modTime fun t => { t with setPending := t.setPending ++ [((ptpNs (m.w 0) (m.w 1)).getD 0, s.now)] }))

/-! Lighting phase. -/

def phaseUnit : Rat := 65536

/-- The estimated period in 2^-32 ns: the mean of the last 8. (log 135 DESIGN CHOICE) -/
def Phase.period (p : Phase) : Option Rat :=
  if p.periods.isEmpty then none else some (((p.periods.foldl (· + ·) 0 : Nat) : Rat) / (p.periods.length : Rat))

/-- Start of the period after the one in progress. -/
def nextPeriod (v : Rat) : Rat := ((ratFloor (v / phaseUnit) + 1 : Int) : Rat) * phaseUnit

def State.modPhase (s : State) (f : Phase → Phase) : State := { s with tu := { s.tu with phase := f s.tu.phase } }

/-- PHASE_EDGE: the fixed filter of 25 cycles; a gap that PHASE_LOST has declared is no period. -/
def execPhaseEdge (held stamp : Nat) (s : State) : Host.Outcome State Fault Refusal :=
  let p := s.tu.phase
  let t := s.localOf stamp
  .next (s.onBall <| if held < 25 then s
    else
      let ps := match p.lastEdge with | some u => if p.lost then p.periods else ((t - u) :: p.periods).take 8 | none => p.periods
      let s := s.modPhase fun p => { p with periods := ps, lastEdge := some t, lost := false, edge := true }
      if p.lost then s.raise evPhase 2 else s)

/-- PHASE_LOST: no edge for twice the estimated period. -/
def execPhaseLost (s : State) : Host.Outcome State Fault Refusal :=
  let p := s.tu.phase
  .next (match p.period, p.lastEdge with
    | some q, some t =>
      if !p.lost && decide (2 * q ≤ ((((s.time.mono : Int) - t : Int) : Rat))) then (s.modPhase fun p => { p with lost := true }).raise evPhase 1 else s
    | _, _ => s)

/-- Phase after an edge taken in this cycle: the start of the next period (R126). -/
def Phase.jump (p : Phase) : Phase := if p.edge then { p with phase := nextPeriod p.phase } else p

/-- Phase advances from local time l0 to l1; it waits at 65535 for the edge unless that is lost (R126, R127). -/
def Phase.advance (p : Phase) (l0 l1 : Nat) : Phase :=
  match p.period with
  | none => { p with edge := false }
  | some q =>
    let from_ := if p.edge then p.lastEdge.getD l0 else l0
    let v := p.phase + phaseUnit * (((l1 - from_ : Nat) : Rat)) / (if q = 0 then 1 else q)
    let stop := nextPeriod p.phase - 1
    { p with phase := if p.lost || v < stop then v else if p.phase < stop then stop else p.phase, edge := false }

end Sys2Proof.Machine
end

