-- ==== Sys2Proof/Machine/Cues.lean ====
section
/-! DEFINITION. Gates, cues, strobes and epoch launches (04_travel_and_time.md R128 to R139, R143 to R145; 12 Table 12-7; 16 R472,
R473). -/
namespace Sys2Proof.Machine

/-- What step 2 of Table 4-1 leaves for one cycle: its interval of Device Time in 2^-32 ns, travel and phase, each before its
jump, after it, and at the end of the interval. -/
structure Cyc where
  tOld : Int
  t0 : Int
  t1 : Int
  /-- Travel has just come up to `xOld`: it stood below until this cycle began. -/
  rising : Bool
  xOld : Rat
  x0 : Rat
  x1 : Rat
  speed : Rat
  pOld : Rat
  p0 : Rat
  p1 : Rat
  deriving DecidableEq, Repr

/-- The cycle's first ns, its last one, and the ns at which it ends. -/
def Cyc.startNs (c : Cyc) : Int := c.t0.fdiv fracPerNs
def Cyc.lastNs (c : Cyc) : Int := (c.t1 - 1).fdiv fracPerNs
def Cyc.endNs (c : Cyc) : Int := c.t1.fdiv fracPerNs

/-- Stamped travel just before the cycle, and the last that it holds before the end of it. -/
def Cyc.stampBefore (c : Cyc) : Int := if c.rising then ratCeil c.xOld - 1 else ratFloor c.xOld
def Cyc.stampLast (c : Cyc) : Int := if c.x0 < c.x1 then ratCeil c.x1 - 1 else ratFloor c.x1

/-- How far into the cycle an instant in ns lies, 0 to 1. -/
def Cyc.part (c : Cyc) (ns : Int) : Rat :=
  let q : Rat := ((ns * fracPerNs - c.t0 : Int) : Rat) / ((c.t1 - c.t0 : Int) : Rat)
  if q < 0 then 0 else if 1 < q then 1 else q

def Cyc.travelAt (c : Cyc) (ns : Int) : Rat := c.x0 + (c.x1 - c.x0) * c.part ns
def Cyc.phaseAt (c : Cyc) (ns : Int) : Rat := c.p0 + (c.p1 - c.p0) * c.part ns

/-- The instant at which a quantity that changes by `rate` a second from v0 reaches v, rounded to 1 ns, within the cycle. -/
def Cyc.reach (c : Cyc) (v0 v rate : Rat) : Nat :=
  if rate = 0 then c.startNs.toNat
  else
    let t : Rat := (c.t0 : Rat) + (v - v0) / rate * (unitsPerS : Rat)
    (clampI c.startNs (ratFloor ((c.t1 : Rat) / (fracPerNs : Rat) + 1 / 2)) (ratFloor (t / (fracPerNs : Rat) + 1 / 2))).toNat

/-! Gates (R129 to R131). -/

def phase16 (p : Rat) : Nat := (ratFloor p).toNat % 65536

/-- A gate at an instant of the cycle. -/
def Cyc.gate (c : Cyc) (g : Gate) (ns : Int) : Bool := g.openAt (stampTravel (c.travelAt ns)) (wordOfInt ns) (phase16 (c.phaseAt ns))

/-- The gate at one stamped value of its reference. -/
def Gate.at (g : Gate) (v : Int) : Bool := g.openAt (wordOfInt v) (wordOfInt v) (v.toNat % 65536)

/-- The stamped values of a gate's reference from the start of the cycle until just before its end: the first one and the last one. -/
def Cyc.span (c : Cyc) (g : Gate) : Int × Int :=
  let walk := fun (a b : Rat) => (ratFloor a, if a < b then ratCeil b - 1 else ratFloor b)
  match g.ref with
  | 0 => walk c.x0 c.x1 | 1 => (c.startNs, c.lastNs) | _ => walk c.p0 c.p1

/-- START and END of a gate as its reference meets them near a value. -/
def Gate.bounds (g : Gate) (near : Int) : List Int :=
  let w := fun (x : Word) => signed 40 x.toNat
  match g.ref with
  | 0 => [w g.w0, w g.w1]
  | 1 => [g.w0, g.w1].map fun x => near + signed 40 (wrap 40 (w x - near))
  | _ => [g.w0, g.w1].flatMap fun x => let b := near - near % 65536 + fld x 15 0; [b, b + 65536]

/-- Values at which a gate may change between two of its reference's: the first, both sides of each boundary in the order in which
they are met, and the last. -/
def gateSteps (a b : Int) (bounds : List Int) : List Int :=
  let inside := (bounds.flatMap fun v => [v - 1, v]).filter fun v => if a ≤ b then decide (a < v) && decide (v < b) else decide (b < v) && decide (v < a)
  a :: sortByKey (fun (v : Int) => (v - a).natAbs) inside ++ [b]

/-- The changes of a gate along these values, from a state on. -/
def Gate.changes (g : Gate) : Bool → List Int → List Bool
  | _, [] => []
  | on, v :: r => if g.at v = on then g.changes on r else g.at v :: g.changes (g.at v) r

/-- What earlier cycles have written takes effect: the records in their order, then the MODEs of cues. (log 161 DESIGN CHOICE) -/
def Gate.settle (g : Gate) (now : Nat) : Gate :=
  let g := (g.pending.filter fun x => decide (x.2.2.2 < now)).foldl (fun (g : Gate) x => { g with w0 := x.1, w1 := x.2.1, w2 := x.2.2.1 })
    { g with pending := g.pending.filter fun x => !decide (x.2.2.2 < now) }
  (g.pendingMode.filter fun x => decide (x.2 < now)).foldl (fun (g : Gate) x => { g with w2 := setFld g.w2 37 36 x.1 })
    { g with pendingMode := g.pendingMode.filter fun x => !decide (x.2 < now) }

/-- Step 3 for one gate: a record written, or a MODE set by a cue, in an earlier cycle takes effect; then it is judged at every
instant of the cycle, and each boundary that the cycle holds raises its event (R129, R130). (log 161 DESIGN CHOICE) -/
def State.stepGate (s : State) (c : Cyc) (k : Nat) : State :=
  let g := (s.gate k).settle s.now
  let r := c.span g
  let l := g.changes g.isOpen (gateSteps r.1 r.2 (g.bounds r.1))
  let s := s.setGate k { g with isOpen := l.getLastD g.isOpen }
  if g.events then l.foldl (fun (s : State) on => s.raise ((if on then 0x400 else 0x500) + k) 0) s else s

def State.stepGates (s : State) (c : Cyc) : State := (s.tu.gates.map fun x => x.1).foldl (fun (s : State) k => s.stepGate c k) s

def execGateWrite (m : Msg) (s : State) : Host.Outcome State Fault Refusal :=
  let k := fld (m.w 0) 39 32
  let argsOk := lenIs m 4 && zeroFld (m.w 0) 31 0 && fld (m.w 3) 39 38 != 3 && fld (m.w 3) 37 36 != 3 && zeroFld (m.w 3) 34 0
  .next (mailRun 0x207 permitRL m s false argsOk fun s => okNext (s.modGate k fun g => { g with pending := g.pending ++ [(m.w 1, m.w 2, m.w 3, s.now)] }))

/-! Strobes (R138, R139; 16 R473). -/

/-- Plan a pulse: start and width in ns. -/
def State.pulse (s : State) (k start width : Nat) : State :=
  s.modStrobe k fun x => { x with planned := insertBy (fun (p : Nat × Nat) => p.1) (start, width) x.planned }

/-- A strobe's ROUTER_WIDTH in ns. -/
def Strobe.routerWidth (x : Strobe) : Nat := 16 * fld x.cfg 37 22

/-- Device Time at the end of the cycle in progress. -/
def State.cycleEnd (s : State) : Int := s.dt + s.increment

/-- The first cycle edge at or after an instant in ns, in ns. (log 106 DEDUCED) -/
def State.edgeAfter (s : State) (ns : Nat) : Nat :=
  let d := ((ns * fracPerNs : Nat) : Int) - s.dt
  let n := if d ≤ 0 then 0 else (d + s.increment - 1).fdiv s.increment
  ((s.dt + n * s.increment).fdiv fracPerNs).toNat

/-- A pulse that the router asks for: from the first cycle edge at least 32 ns after the event, ROUTER_WIDTH long. (log 106 DEDUCED) -/
def State.routerPulse (s : State) (k event : Nat) : State := s.pulse k (s.edgeAfter (event + 32)) (s.strobe k).routerWidth

/-- STROBE_PULSE_START: the earliest pulse planned has its start in this cycle. No pulse starts with ENABLE clear, nor in LOW or HOLD. (log 106 DEDUCED) -/
def execStrobePulseStart (k : Nat) (s : State) : Host.Outcome State Fault Refusal :=
  onUnit 32 k s
    (let x := s.strobe k
     match x.planned with
     | [] => s
     | (t, w) :: r =>
       if s.cycleEnd ≤ ((t * fracPerNs : Nat) : Int) then s
       else if bit x.cfg 39 && s.ledger.pstate == .run then
         s.setStrobe k { x with planned := r, cfg := bump x.cfg 21 6, highUntil := some (match x.highUntil with | some h => max h (t + w) | none => t + w) }
       else s.setStrobe k { x with planned := r })

/-- Values that Strobe[s].Cfg may hold. -/
def strobeCfgOk (v : Word) : Bool := fld v 37 22 != 0 && zeroFld v 5 0

/-- STROBE_CFG_WRITE: in effect in the first cycle with no pulse in progress on the output (16 R473). -/
def State.strobeWrite (s : State) (k : Nat) (v : Word) : State :=
  s.modStrobe k fun x => if x.highUntil.isSome then { x with cfgPending := some v } else { x with cfg := setFld v 21 6 (fld x.cfg 21 6) }

/-- The byte offset of Strobe[s].Cfg in BAR0 (11 Table 11-2). -/
def strobeOff (k : Nat) : Nat := 0x800 + 8 * k

def execStrobeCfgWrite (k : Nat) (v : Word) (s : State) : Host.Outcome State Fault Refusal :=
  onUnit 32 k s (if !s.hostRegs then s else if strobeCfgOk v then s.strobeWrite k v else s.regRefused (strobeOff k) false)

/-- Pulses that have ended by the end of the cycle, and the writes that waited for them. -/
def State.stepStrobes (s : State) (endNs : Nat) : State :=
  (s.tu.strobes.map fun x => x.1).foldl (fun (s : State) k =>
    s.modStrobe k fun x =>
      let x := match x.highUntil with | some h => if h ≤ endNs then { x with highUntil := none } else x | none => x
      match x.highUntil, x.cfgPending with
      | none, some v => { x with cfg := setFld v 21 6 (fld x.cfg 21 6), cfgPending := none }
      | _, _ => x) s

/-! Epoch launches (R143 to R145). -/

def memberKind (w : Word) : Nat := fld w 39 36
def memberIndex (w : Word) : Nat := fld w 35 26
def memberChan (w : Word) : Nat := fld w 25 21

/-- A member word names a unit of the die. -/
def memberOk (s : State) (w : Word) : Bool :=
  let i := memberIndex w
  zeroFld w 20 0 && (memberKind w == 4 || memberChan w == 0) &&
    (match memberKind w with
     | 1 => portArg s i | 2 => decide (i < s.variant.facets) | 3 => decide (i < s.variant.accords) | 4 => decide (i < 32)
     | 5 => decide (i < 1024) | 6 => decide (i < 32) | _ => false)

/-- A member that is not a port is out of reset and configured (R144). (log 107 DEDUCED) -/
def State.memberReady (s : State) (w : Word) : Bool :=
  let i := memberIndex w
  match memberKind w with
  | 2 => (s.facet i).state == .run || (s.facet i).state == .readmitPending
  | 3 => (s.accord i).state == .run || (s.accord i).state == .readmitPending || ((s.accord i).state == .off && s.canvasOn i)
  | 4 => (s.chan i (memberChan w)).enable && !(s.engine i).inReset
  | 5 => true
  | 6 => bit (s.strobe i).cfg 39
  | _ => false

/-- Plan one member; whether it is launched. A strobe's pulse and a port's mark are placed now, a
group's mark on member 0 (03 R104). -/
def State.planMember (s : State) (w : Word) (epoch edge : Nat) : Bool × State :=
  let i := memberIndex w
  if s.tu.launches.any fun l => (List.zip l.members l.planned).any fun x => x.1 == w && x.2 then (false, s)
  else match memberKind w with
    | 1 =>
      let n := s.head i
      if (s.port n).state = .data || (s.port n).state = .idle then s.planMark n epoch (edge + (s.port n).trigLead) else (false, s)
    | 6 => if s.memberReady w then (true, s.pulse i edge (s.strobe i).routerWidth) else (false, s)
    | _ => (s.memberReady w, s)

/-- Plan members in order. -/
def State.planMembers : List Word → State → Nat → Nat → List Bool × State
  | [], s, _, _ => ([], s)
  | w :: r, s, epoch, edge =>
    let x := s.planMember w epoch edge
    let y := State.planMembers r x.2 epoch edge
    (x.1 :: y.1, y.2)

/-- SYNC_OUT of a launch, 1 µs from E − SYNC_LEAD, unless that lies less than 2 µs ahead (R145). -/
def State.planSync (s : State) (k : EpochSet) (edge : Nat) : Bool × State :=
  if k.syncOut && decide (s.dtNs + 2000 + k.syncLead ≤ edge) then
    (true, { s with tu := { s.tu with syncPlanned := insertBy id (edge - k.syncLead) s.tu.syncPlanned } })
  else (false, s)

/-- A launch with its edge at E. -/
def State.launchWith (s : State) (set edge : Nat) (members : List Word) (sync : EpochSet) (ticket : Option Nat) (own : Option (Nat × Nat)) : State :=
  let epoch := (s.tu.epoch + 1) % 256
  let s := { s with tu := { s.tu with epoch := epoch } }
  let p := State.planMembers members s epoch edge
  let y := p.2.planSync sync edge
  let l : Launch := { set := set, edge := edge, epoch := epoch, members := members, planned := p.1, syncOut := y.1, ticket := ticket, own := own }
  { y.2 with tu := { y.2.tu with launches := insertBy (fun (l : Launch) => l.edge) l y.2.tu.launches } }

/-- Launch a defined set; a set never defined is not launched. A launch from SYNC_IN drives no SYNC_OUT (R145). -/
def State.launch (s : State) (set edge : Nat) (fromSync : Bool) (ticket : Option Nat) : State :=
  let k := s.epochSet set
  if k.defined then s.launchWith set edge k.members { k with syncOut := k.syncOut && !fromSync } ticket none else s

/-- A launch of Phokel's own for one unit, 1 ms ahead (12 Table 12-13). (log 143 DESIGN CHOICE) -/
def State.ownLaunch (s : State) (kind idx : Nat) : State :=
  let mk := fun (k : Nat) => [mkWord [(39, 36, k), (35, 26, idx)]]
  let members := match kind with | 1 => mk 2 | 2 => mk 3 | 3 => mk 1 | _ => []
  s.launchWith 16 (s.dtNs + 1000000) members (EpochSet.reset 0) none (some (kind, idx))

def execEpochDefine (m : Msg) (s : State) : Host.Outcome State Fault Refusal :=
  let k := fld (m.w 0) 39 36
  let lead := fld (m.w 0) 35 16
  let sync := fld (m.w 0) 15 6
  let members := m.payload.drop 2
  let argsOk := within 2 66 m.payload.length && zeroFld (m.w 0) 4 0 && zeroFld (m.w 1) 19 0 && (lead == 0 || within 2 1000000 lead) && (sync == 0 || within 2 1000 sync) &&
    members.all (memberOk s)
  .next (mailRun 0x20A permitRL m s false argsOk fun s =>
    if (s.epochSet k).armed || s.tu.launches.any fun l => l.set == k then .done .state [] s
    else okNext (s.setEpochSet k
      { defined := true, lead := 1000 * (if lead = 0 then 100 else lead), syncLead := 1000 * (if sync = 0 then 20 else sync), syncOut := bit (m.w 0) 5
        syncLag := fld (m.w 1) 39 20, members := members, armed := false }))

/-- EPOCH_LAUNCH with an edge at least 100 µs ahead (R381). -/
def execEpochLaunch (m : Msg) (s : State) : Host.Outcome State Fault Refusal :=
  let k := fld (m.w 0) 39 36
  let edge := ptpNs (m.w 1) (m.w 2)
  let far := match edge with | some e => decide (s.acceptNs + 100000 ≤ e) | none => false
  if bit (m.w 0) 35 then .refused (.illFormed "EPOCH_LAUNCH with FROM_SYNC set")
  else
    .next (mailRun 0x20B permitR m s false (lenIs m 3 && zeroFld (m.w 0) 34 0 && far) fun s =>
      if !(s.epochSet k).defined then .done .state [] s
      else
        let e := edge.getD 0
        let ticket := 16 + e * 256 + (s.tu.epoch + 1) % 256
        .wait (.epochLaunch ticket) (s.launch k e false (some ticket)))

/-- EPOCH_LAUNCH with FROM_SYNC: the set waits for SYNC_IN. -/
def execEpochLaunchFromSync (m : Msg) (s : State) : Host.Outcome State Fault Refusal :=
  let k := fld (m.w 0) 39 36
  if !bit (m.w 0) 35 then .refused (.illFormed "EPOCH_LAUNCH_FROM_SYNC with FROM_SYNC clear")
  else
    .next (mailRun 0x20B permitR m s false (lenIs m 3 && zeroFld (m.w 0) 34 0 && m.w 1 == 0 && m.w 2 == 0) fun s =>
      if !(s.epochSet k).defined then .done .state [] s
      else if (s.epochSet k).armed then .done .busy [] s
      else .wait (.epochLaunch k) (s.setEpochSet k { s.epochSet k with armed := true }))

/-- SYNC_IN_EDGE: every armed set is launched, each with its own lag (R145). -/
def execSyncInEdge (held stamp : Nat) (s : State) : Host.Outcome State Fault Refusal :=
  let armed := (List.range 16).filter fun k => (s.epochSet k).armed
  .next (s.onBall <| if held < 25 then s
    else if armed.isEmpty then s.modTime fun t => { t with syncCounts := bump t.syncCounts 39 24 }
    else armed.foldl (fun (s : State) k => (s.setEpochSet k { s.epochSet k with armed := false }).launch k (stamp + (s.epochSet k).syncLag) true (some k)) s)

/-- SYNC_OUT_PULSE: 1 µs from the planned start. -/
def execSyncOutPulse (s : State) : Host.Outcome State Fault Refusal :=
  .next (match s.tu.syncPlanned with
    | t :: r =>
      if ((t * fracPerNs : Nat) : Int) < s.cycleEnd then { s with tu := { s.tu with syncPlanned := r, syncHigh := some (t + 1000) } } else s
    | [] => s)

/-! Readmission at a launch (15 R451, R452). -/

/-- The unit runs, or starts at its next frame boundary. (log 84 DEDUCED) -/
def State.readmit (s : State) (kind idx : Nat) : State :=
  match kind with
  | 1 =>
    if (s.facet idx).state = .readmitPending then
      let s := (s.modFacet idx fun f => { f with launched := true }).comeHome idx
      if (s.facetCtxs idx).isEmpty then s.startFacet idx else s
    else s
  | 2 =>
    if (s.accord idx).state != .readmitPending then s
    else if s.canvasOn idx then s.modAccord idx fun a => { a with launched := true }
    else ((s.modAccord idx fun a => { a with state := .off }).logUnitState 2 idx).finishWait (.unitReadmit 2 idx) .ok
  | 3 =>
    if (s.port idx).inReset && (s.port idx).running then
      (((s.group idx).foldl (fun (s : State) k => s.modPort k fun p => { p with inReset := false }) s).logUnitState 3 idx).finishWait (.unitReadmit 3 idx) .ok
    else s
  | 4 =>
    if (s.engine idx).inReset then
      (((s.resumeEngine idx).logUnitState 4 idx).afterResume idx).finishWait (.unitReadmit 4 idx) .ok
    else s
  | _ => s

/-- Units whose UNIT_READMIT names this set: kind and index. -/
def State.readmitsOf (s : State) (set : Nat) : List (Nat × Nat) :=
  s.mail.inflight.filterMap fun i =>
    match i.wait with
    | .unitReadmit k x => if !bit (pw i.payload 0) 28 && fld (pw i.payload 1) 39 36 == set then some (k, x) else none
    | _ => none

/-- A launched member acts at the edge (Table 4-11); ports and strobes have been planned. -/
def State.memberEdge (s : State) (w : Word) (edge : Nat) : State :=
  let i := memberIndex w
  match memberKind w with
  | 1 => s.readmit 3 i
  | 2 => s.readmit 1 i
  | 3 => s.readmit 2 i
  | 4 => s.start i (memberChan w)
  | 5 => s.modCue i fun q => { q with arm := true, armEdge := some edge }
  | _ => s

/-- Bit masks of launched members, member 0 in the highest bit (12 Table 12-7). (log 107 DEDUCED) -/
def memberMask (l : List Bool) (first : Nat) : Word :=
  BitVec.ofNat 40 (maskOf ((List.range 40).filterMap fun i => if l.getD (first + i) false then some (39 - i) else none))

/-- EPOCH_EDGE: the pending launch with the earliest edge, which lies in this cycle. A member that is no longer ready is left out
(01 R22). -/
def execEpochEdge (s : State) : Host.Outcome State Fault Refusal :=
  .next (match s.tu.launches with
    | [] => s
    | l :: r =>
      if s.cycleEnd ≤ ((l.edge * fracPerNs : Nat) : Int) then s
      else
        let s := { s with tu := { s.tu with launches := r } }
        let done := (List.zip l.members l.planned).map fun x => x.2 && (memberKind x.1 == 1 || s.memberReady x.1)
        let s := (List.zip l.members done).foldl (fun (s : State) x => if x.2 then s.memberEdge x.1 l.edge else s) s
        match l.own with
        | some (k, x) => s.readmit k x
        | none =>
          let s := (s.readmitsOf l.set).foldl (fun (s : State) x => s.readmit x.1 x.2) s
          let s := s.raise evEpoch 1 l.set
          match l.ticket with
          | some t =>
            s.finishWait (.epochLaunch t) .ok
              [mkWord [(39, 32, l.epoch), (31, 24, (done.filter id).length), (23, 23, b2n l.syncOut)], memberMask done 0, memberMask done 40]
          | none => s)

/-! Cues (R132 to R137). -/

def Cue.ref (q : Cue) : Nat := fld q.w2 39 38
def Cue.dir (q : Cue) : Nat := fld q.w2 37 36
def Cue.rel (q : Cue) : Bool := bit q.w2 34
def Cue.catches (q : Cue) : Bool := bit q.w2 33
def Cue.relattice (q : Cue) : Bool := bit q.w2 32
def Cue.pitch (q : Cue) : Nat := q.w1.toNat

/-- COUNT of an unlimited cue. -/
def unlimited : Nat := 0x7FFFFF

/-- Points consumed: COUNT, and ARMED when it reaches 0 (R135). -/
def Cue.consume (q : Cue) (n : Nat) : Cue :=
  if q.count = unlimited then q else { q with count := q.count - n, armed := q.armed && decide (n < q.count) }

/-- No more points than COUNT are consumed. -/
def Cue.upTo (q : Cue) (n : Nat) : Nat := if q.count = unlimited then n else min n q.count

def Cue.skip (q : Cue) (n : Nat) : Cue := { q with skipped := satAdd 20 q.skipped n }

/-- The first lattice point above x, or below it; a cue with PITCH 0 has one point. -/
def nextUp (p : Int) (pitch : Nat) (x : Int) : Option Int :=
  if pitch = 0 then (if x < p then some p else none) else some (p + ((x - p).fdiv pitch + 1) * pitch)
def nextDown (p : Int) (pitch : Nat) (x : Int) : Option Int :=
  if pitch = 0 then (if p < x then some p else none) else some (p - ((p - x).fdiv pitch + 1) * pitch)

/-- Points from p to v inclusive, p not beyond v. -/
def pointsTo (p v : Int) (pitch : Nat) : Nat := if pitch = 0 then 1 else (v - p).natAbs / pitch + 1

/-- A number on 40 bits, as near to x as may be (R15). -/
def near40 (p x : Int) : Int := x + signed 40 (wrap 40 (p - x))

/-- Actions of a fire that LOW discards and counts (10 R298). -/
def Cue.lowActions (q : Cue) : Nat := b2n (bit q.w3 39) + b2n (bit q.w4 39) + b2n (bit q.w4 27) + b2n (bit q.w4 26)

/-- Step 5: the actions of a cue that has fired (R137). -/
def State.cueActions (s : State) (k : Nat) (q : Cue) (at_ : Nat) : State :=
  let port := fld q.w4 38 32
  let s :=
    if s.ledger.pstate = .low then s.modLedger fun l => { l with lowActions := satAdd 16 l.lowActions q.lowActions }
    else
      let s := if bit q.w3 39 then s.pulse (fld q.w3 38 34) (at_ + fld q.w3 17 2) (16 * fld q.w3 33 18) else s
      let s := if bit q.w4 39 then s.requestTrigger { port := port, trigId := fld q.w4 31 28, fire := at_, cue := k } else s
      let s := if bit q.w4 27 then s.wake port else s
      if bit q.w4 26 then s.start (fld q.w4 25 21) (fld q.w4 20 16) else s
  let s := if bit q.w4 15 then s.modGate (fld q.w4 14 7) fun g => { g with pendingMode := g.pendingMode ++ [(fld q.w4 6 5, s.now)] } else s
  if bit q.w4 4 then s.launch (fld q.w4 3 0) (at_ + (s.epochSet (fld q.w4 3 0)).lead) false none else s

/-- A lattice point joins the runs of points fired. -/
def addFired (pitch : Nat) (p : Int) (l : List (Int × Int)) : List (Int × Int) :=
  let touches := fun (r : Int × Int) => decide (r.1 ≤ p + pitch) && decide (p ≤ r.2 + pitch)
  let m := l.filter touches
  (m.foldl (fun a r => min a r.1) p, m.foldl (fun a r => max a r.2) p) :: l.filter fun r => !touches r

/-- A point fires at an instant: qualification, event and actions (R131, R135, R137). (log 105 DEDUCED) -/
def State.cueFire (s : State) (c : Cyc) (k : Nat) (p : Int) (at_ : Nat) : State :=
  let q := s.cue k
  let open_ := !bit q.w2 31 || c.gate (s.gate (fld q.w2 30 23)) at_
  if !open_ then s.setCue k { q with gated := satAdd 20 q.gated 1 }
  else
    let again := q.fired.any fun r => decide (r.1 ≤ p) && decide (p ≤ r.2)
    let s := if q.relattice && q.dir != 2 then s.setCue k { q with fired := addFired q.pitch p q.fired } else s
    if s.ledger.pstate = .hold then s
    else
      let s := s.raiseAt k 0 0 (shortStamp at_)
      let s := if again then s.raise evTravel 6 k else s
      s.cueActions k q at_

/-- A FORWARD or REVERSE cue judges a jump from `old` to `new` (R128): the cue with its new point, and the point that fires. `up`:
the cue's direction; values scaled so that a point is a whole number. -/
def Cue.jump (q : Cue) (up : Bool) (p : Int) (old new : Rat) : Option Int × Cue :=
  if old = new then (none, { q with point := p })
  else
    let edge := if up then ratFloor new else ratCeil new
    if q.relattice then
      let n := if up then nextUp p q.pitch edge else nextDown p q.pitch edge
      (none, { q with point := n.getD p, spent := n.isNone })
    else
      let passes := if up then decide (old < (p : Rat)) && decide ((p : Rat) ≤ new) else decide ((p : Rat) < old) && decide (new ≤ (p : Rat))
      if passes then
        let n := pointsTo p edge q.pitch
        let step : Int := (n * q.pitch : Nat)
        (some p, (({ q with point := if up then p + step else p - step }.skip (q.upTo n - 1)).consume n))
      else (none, { q with point := p })

/-- The first point that follows x and is not locked out. -/
def freePoint (locked : List Int) (next : Int → Option Int) : Nat → Int → Option Int
  | 0, _ => none
  | n + 1, x => match next x with | some p => if locked.contains p then freePoint locked next n p else some p | none => none

/-- An EITHER cue's crossings in a movement of stamped travel: the first point passed that is not locked out fires, the others are
consumed (R128, R134). (log 105 DEDUCED) -/
def Cue.cross (q : Cue) (old new : Int) : Option Int × Cue :=
  let up := decide (old < new)
  let next := fun (x : Int) => if up then nextUp q.point q.pitch x else nextDown q.point q.pitch x
  let beyond := fun (a b : Int) => if up then decide (a < b) else decide (b < a)
  match freePoint q.locked next (q.locked.length + 1) old with
  | some p =>
    if old != new && !beyond new p then
      let n := pointsTo p new q.pitch - (q.locked.filter fun v => beyond p v && !beyond new v).length
      (some p, ({ q with locked := p :: q.locked }.skip (q.upTo n - 1)).consume n)
    else (none, q)
  | none => (none, q)

/-- A lock-out ends once travel is REV_HYST away from the point. -/
def Cue.unlock (q : Cue) (x : Int) (hyst : Nat) : Cue := { q with locked := q.locked.filter fun p => decide ((x - p).natAbs < hyst) }

/-- Evaluate a travel cue: what fires, and when. (log 105 DEDUCED) -/
def State.travelCue (s : State) (c : Cyc) (q : Cue) : Option (Int × Nat) × Cue :=
  let t := s.tu.travel
  let start := c.startNs.toNat
  if q.dir = 2 then
    let j := if q.relattice && c.xOld != c.x0 then (none, q) else q.cross c.stampBefore (ratFloor c.x0)
    let a := j.2.cross (ratFloor c.x0) c.stampLast
    let r := match j.1, a.1 with
      | some p, some _ => (some (p, start), a.2.skip 1)
      | some p, none => (some (p, start), a.2)
      | none, _ => (a.1.map fun p => (p, c.reach c.x0 (p : Rat) c.speed), a.2)
    (r.1, r.2.unlock c.stampLast t.revHyst)
  else
    let up := q.dir == 0
    let j := q.jump up q.point c.xOld c.x0
    match j.1 with
    | some p => (some (p, start), j.2)
    | none =>
      let q := j.2
      let p := q.point
      let due := !q.spent && if up then t.dir == .forward && (decide ((p : Rat) ≤ c.x0) || decide ((p : Rat) < c.x1))
        else t.dir == .reverse && (decide (c.x0 ≤ (p : Rat)) || decide (c.x1 < (p : Rat)))
      if due then (some (p, c.reach c.x0 (p : Rat) c.speed), { q with point := if up then p + q.pitch else p - q.pitch }.consume 1) else (none, q)

/-- Evaluate a time cue: a point that the cycle's interval contains fires at the point itself. -/
def Cyc.timeCue (c : Cyc) (q : Cue) : Option (Int × Nat) × Cue :=
  let scale := fun (t : Int) => ((t : Rat) / (fracPerNs : Rat))
  let p := near40 q.point (c.tOld.fdiv fracPerNs)
  let j := q.jump true p (scale c.tOld) (scale c.t0)
  match j.1 with
  | some p => (some (p, c.startNs.toNat), j.2)
  | none =>
    let q := j.2
    let p := near40 q.point c.lastNs
    if !q.spent && decide (p ≤ c.lastNs) then (some (p, p.toNat), { q with point := p + q.pitch }.consume 1) else (none, { q with point := p })

/-- Evaluate a phase cue. -/
def Cyc.phaseCue (c : Cyc) (q : Cue) : Option (Int × Nat) × Cue :=
  let p := near40 q.point (ratFloor c.pOld)
  let j := q.jump true p c.pOld c.p0
  match j.1 with
  | some p => (some (p, c.startNs.toNat), j.2)
  | none =>
    let q := j.2
    let p := near40 q.point (ratFloor c.p1)
    if !q.spent && (decide ((p : Rat) ≤ c.p0) || decide ((p : Rat) < c.p1)) then
      let rate := (c.p1 - c.p0) * (unitsPerS : Rat) / ((c.t1 - c.t0 : Int) : Rat)
      (some (p, c.reach c.p0 (p : Rat) rate), { q with point := p + q.pitch }.consume 1)
    else (none, { q with point := p })

/-- The jump of a cycle in which the cue fires for its catch-up: the points that it passes are consumed, none fires (R128, R134). -/
def Cyc.jumpSilently (c : Cyc) (q : Cue) : Cue :=
  let scale := fun (t : Int) => ((t : Rat) / (fracPerNs : Rat))
  let j := match q.ref with
    | 0 => q.jump (q.dir == 0) q.point c.xOld c.x0
    | 1 => q.jump true (near40 q.point (c.tOld.fdiv fracPerNs)) (scale c.tOld) (scale c.t0)
    | _ => q.jump true (near40 q.point (ratFloor c.pOld)) c.pOld c.p0
  if j.1.isSome then j.2.skip 1 else j.2

/-- Step 4 for one cue: at most one fire in a cycle (R134, R135). -/
def State.stepCue (s : State) (c : Cyc) (k : Nat) : State :=
  let q := s.cue k
  match q.catchUp with
  | some p => (s.setCue k (c.jumpSilently ({ q with catchUp := none }.consume 1))).cueFire c k p c.startNs.toNat
  | none =>
    if !q.armed || q.count = 0 then s
    else
      let r := match q.ref with | 0 => s.travelCue c q | 1 => c.timeCue q | _ => c.phaseCue q
      let s := s.setCue k r.2
      match r.1 with
      | some (p, at_) => s.cueFire c k p at_
      | none => s

/-- Arming (R132, R135): the cue restarts from its record; points already passed are settled. (log 105 DEDUCED) -/
def State.armCue (s : State) (c : Cyc) (k : Nat) : State :=
  let q := s.cue k
  let e : Option Int := q.armEdge.map fun (t : Nat) => (t : Int)
  let count := fld q.w2 22 0
  let now : Int := match q.ref with | 0 => ratFloor c.x1 | 1 => c.endNs | _ => ratFloor c.p1
  let base : Int := match q.ref, e with
    | 0, some t => ratFloor (c.travelAt t) | 1, some t => t | 0, none => now | 1, none => now | _, some t => ratFloor (c.phaseAt t) | _, none => now
  let raw : Int := signed 40 q.w0.toNat
  let p := if q.rel then raw + base else if q.ref = 0 then raw else near40 raw now
  let up := q.dir == 0
  let lim := if up then now else ratCeil c.x1
  let passed := if q.dir = 2 then false else if up then decide (p ≤ lim) else decide (lim ≤ p)
  let q := { q with armed := true, count := count, catchUp := none, locked := [], spent := false, fired := [], arm := false, armEdge := none, point := p }
  if !passed then s.setCue k q
  else
    let n := pointsTo p lim q.pitch
    let m := q.upTo n
    let fires := q.catches && m != 0
    let step : Int := (n * q.pitch : Nat)
    let q := { q with point := if up then p + step else p - step, catchUp := if fires then some p else none }
    s.setCue k ((q.skip (m - b2n fires)).consume (m - b2n fires))

/-- Step 6: records written by command, then arming (Table 4-1). -/
def State.settleCue (s : State) (c : Cyc) (k : Nat) : State :=
  let q := s.cue k
  let arm := q.arm
  let s := match q.written with
    | some l =>
      s.setCue k { Cue.reset k with w0 := pw l 0, w1 := pw l 1, w2 := pw l 2, w3 := pw l 3, w4 := pw l 4, point := signed 40 (pw l 0).toNat, count := fld (pw l 2) 22 0
                                    arm := arm || bit (pw l 2) 35, armEdge := q.armEdge }
    | none => s
  if (s.cue k).arm then s.armCue c k else s

def State.stepCues (s : State) (c : Cyc) : State :=
  let ks := s.tu.cues.map fun x => x.1
  let s := ks.foldl (fun (s : State) k => s.stepCue c k) s
  (s.tu.cues.map fun x => x.1).foldl (fun (s : State) k => s.settleCue c k) s

/-- A cue record that CUE_WRITE takes (R133). -/
def cueOk (s : State) (w : Nat → Word) : Bool :=
  let ref := fld (w 2) 39 38
  let dir := fld (w 2) 37 36
  let strobe := bit (w 3) 39
  !(strobe && decide (fld (w 3) 17 2 < 32)) && !(strobe && fld (w 3) 33 18 == 0) && decide ((w 1).toNat < 2 ^ 39) &&
    !((w 1) == 0 && fld (w 2) 22 0 != 1) && ref != 3 && dir != 3 && (ref == 0 || dir == 0) && portArg s (fld (w 4) 38 32) && zeroFld (w 3) 1 0 &&
    fld (w 4) 6 5 != 3

def execCueWrite (m : Msg) (s : State) : Host.Outcome State Fault Refusal :=
  let k := fld (m.w 0) 39 30
  .next (mailRun 0x208 permitRL m s false (lenIs m 6 && zeroFld (m.w 0) 29 0 && cueOk s fun i => m.w (i + 1)) fun s =>
    okNext (s.modCue k fun q => { q with written := some (m.payload.drop 1) }))

def execCueRead (m : Msg) (s : State) : Host.Outcome State Fault Refusal :=
  let k := fld (m.w 0) 39 30
  .next (mailRun 0x209 permitRLB m s false (lenIs m 1 && zeroFld (m.w 0) 29 0) fun s =>
    let q := s.cue k
    .done .ok [wordOfInt q.point, q.w1, setFld (setFld q.w2 35 35 (b2n q.armed)) 22 0 q.count, q.w3, q.w4, mkWord [(39, 20, q.skipped), (19, 0, q.gated)]] s)

/-! GPIO inputs (16 R472). -/

/-- FUNC codes of Gpio[i].Cfg (Table 16-2). -/
def gpioInput : Nat := 1
def Gpio.func (g : Gpio) : Nat := fld g.cfg 39 37

/-- GPIO_EDGE: an INPUT whose level, inverted where INVERT says so, has held for GLITCH cycles; EV_RISE and EV_FALL raise its event,
stamped at the edge. (log 183 DEDUCED) -/
def execGpioEdge (i : Nat) (level : Bool) (held stamp : Nat) (s : State) : Host.Outcome State Fault Refusal :=
  let g := s.gpio i
  let w := g.cfgAt s.now
  let up := level != bit w 35
  onUnit 16 i s
    (s.onBall <| if fld w 39 37 != gpioInput || decide (held < fld w 32 25) || g.level == level then s
     else
       let s := s.setGpio i { g with level := level }
       if bit w (if up then 34 else 33) then s.raiseAt (evGpio i) (if up then 1 else 2) 0 (shortStamp stamp) else s)

end Sys2Proof.Machine
end

