-- ==== Sys2Proof/Machine/Packets.lean ====
section
/-! DEFINITION. Link words, blocks and camera packets (03_ray_words.md R74 to R88, R103; 02_ray_line.md R45 to R48): the
receiver's decoding, word lock and placement by BSN, replay and its deadlines, release in order, and packet reassembly. -/
namespace Sys2Proof.Machine

/-! The receiver (02 R45, R46, R48). -/

/-- Receiver state: scrambler and last level. -/
structure RxLine where
  scram : Nat
  prev : Nat
  deriving DecidableEq, Repr

/-- One bit of the scrambler sequence: s(k) = s(k − 39) ⊕ s(k − 58). -/
def scramBit (st : Nat) : Nat × Nat :=
  let b := (st + st / 2 ^ 19) % 2
  (b, st / 2 + b * 2 ^ 57)

/-- The pair (b1, b0) of a Gray value. -/
def grayPair (g : Nat) : Nat := match g with | 0 => 0 | 1 => 1 | 2 => 3 | _ => 2

/-- One level received: two bits, descrambled. -/
def rxLevel (precode : Bool) (r : RxLine) (p : Nat) : Nat × RxLine :=
  let g := if precode then (p + r.prev) % 4 else p
  let a := scramBit r.scram
  let b := scramBit a.2
  (grayPair g ^^^ (2 * a.1 + b.1), { scram := b.2, prev := p })

/-- A word from its 21 levels. -/
def rxWord (precode : Bool) (l : List Pam4) (r : RxLine) : Nat × RxLine :=
  l.foldl (fun acc p => let x := rxLevel precode acc.2 p.toNat; (acc.1 * 4 + x.1, x.2)) (0, r)

/-- PARITY is even over the 42 bits (R75). -/
def parityGood (w : Nat) : Bool := popCount 42 w % 2 == 0

/-- n words from their levels. -/
def rxWords (precode : Bool) : Nat → List Pam4 → RxLine → List RxWord × RxLine
  | 0, _, r => ([], r)
  | n + 1, l, r =>
    let x := rxWord precode (l.take 21) r
    let y := rxWords precode n (l.drop 21) x.2
    ({ w := BitVec.ofNat 42 x.1, good := parityGood x.1 } :: y.1, y.2)

/-! Words. -/

def RxWord.isControl (x : RxWord) : Bool := x.w.getLsbD 41
def RxWord.payload (x : RxWord) : Nat := x.w.toNat % 2 ^ 40
/-- Bits 39:38 of a control word. -/
def RxWord.cls (x : RxWord) : Nat := x.payload / 2 ^ 38
def RxWord.sub (x : RxWord) : Nat := x.payload / 2 ^ 34 % 16

/-- BSN, FRAME_COUNT and FHP of a word that is a good block marker (Table 3-2). -/
def RxWord.marker? (x : RxWord) : Option (Nat × Nat × Nat) :=
  if x.good && x.isControl && x.cls == 3 then some (x.payload / 2 ^ 26 % 4096, x.payload / 64 % 2 ^ 20, x.payload % 64) else none

/-! The reorder buffer. -/

def Block.awaits (b : Block) : Bool := b.deadline.isSome
/-- Blocks that await replay. -/
def Port.awaiting (p : Port) : Nat := (p.blocks.filter Block.awaits).length
def Port.modBlock (p : Port) (bsn : Nat) (f : Block → Block) : Port := { p with blocks := p.blocks.map fun b => if b.bsn = bsn then f b else b }

/-- REPLAY_DEADLINE in timebase cycles: 3.0 µs. -/
def replayDeadline : Nat := 750

/-- A block that is delivered with marked words: the event and the counts (R81; 01 R38). (log 81 DEDUCED) -/
def State.replayFailed (s : State) (n : Nat) : State := (s.modPort n fun p => { p with rxCounts := bump p.rxCounts 17 10 }).parityError (evPort n) (evPort n) 0x06 0

/-- Mark all 32 slots of a block. (log 81 DEDUCED) -/
def State.markBlock (s : State) (n bsn : Nat) : State :=
  (s.modPort n fun p => p.modBlock bsn fun b => { b with words := b.words.map fun w => { w with good := false }, deadline := none, marked := true }).replayFailed n

/-- Mark every block that awaits replay (R84; 05 R170). -/
def State.markAwaiting (s : State) (n : Nat) : State :=
  ((s.port n).blocks.filter Block.awaits).foldl (fun (s : State) b => s.markBlock n b.bsn) s

/-- Blocks that have failed: they wait for a request, which names those in a row that still wait for it, or are marked at once while
eight await replay (R79). (log 81 DEDUCED) -/
def State.requestBlocks (s : State) (n : Nat) (bsns : List Nat) : State :=
  let room := 8 - (s.port n).awaiting
  let asked := bsns.take room
  let s := s.modPort n fun p =>
    let p := asked.foldl (fun (p : Port) k => p.modBlock k fun b => { b with deadline := some (s.now + replayDeadline) }) p
    { p with rxCounts := bump p.rxCounts 27 18 asked.length, replayDue := p.replayDue ++ asked }
  (bsns.drop room).foldl (fun (s : State) k => s.markBlock n k) s

/-- The words of a block that was never received are open (notes/assumptions/16). (log 81 DEDUCED) -/
def lostWords (bsn : Nat) : List RxWord := (List.range 32).map fun i => { w := BitVec.ofNat 42 (Config.openSample 8 bsn i), good := false }

/-- Symbols of a block in ns of Device Time, in tenths: 33 words of 21 symbols (Table 3-4). -/
def blockTenths (rate : Nat) : Nat := 924 * 2 ^ (2 - rate)

/-- Take a block as the next one. -/
def State.takeBlock (s : State) (n : Nat) (words : List RxWord) (marker : Option (Nat × Nat)) : State :=
  let p := s.port n
  let bsn := p.nextBsn
  let bad := marker.isNone || words.any fun w => !w.good
  let b : Block := { bsn := bsn, words := words, marker := marker, deadline := none, marked := false, arrived := s.now, arrivedAt := s.dt }
  let s := s.setPort n { p with blocks := p.blocks ++ [b], nextBsn := (bsn + 1) % 4096 }
  if bad then s.requestBlocks n [bsn] else s

/-- Blocks skipped before one that is placed by its BSN: failed, and requested again (R81). (log 157 DESIGN CHOICE) -/
def State.skipBlocks (s : State) (n k : Nat) : State :=
  let p := s.port n
  let l := (List.range k).map fun i =>
    ({ bsn := (p.nextBsn + i) % 4096, words := lostWords ((p.nextBsn + i) % 4096), marker := none, deadline := none, marked := false, arrived := s.now
       arrivedAt := s.dt - ((k - i) * blockTenths p.rate * fracPerNs / 10 : Nat) } : Block)
  (s.setPort n { p with blocks := p.blocks ++ l, nextBsn := (p.nextBsn + k) % 4096 }).requestBlocks n (l.map fun b => b.bsn)

/-- The replayed copy of a block: each slot keeps whichever copy has good parity (R81). -/
def State.mergeBlock (s : State) (n bsn : Nat) (words : List RxWord) (marker : Nat × Nat) : State :=
  let bad := (s.port n).blocks.any fun b => b.bsn == bsn && (List.zip b.words words).any fun x => !x.1.good && !x.2.good
  let s := s.modPort n fun p => p.modBlock bsn fun b =>
    { b with words := List.zipWith (fun (a c : RxWord) => if a.good then a else c) b.words words, marker := some (b.marker.getD marker), deadline := none, marked := bad }
  if bad then s.replayFailed n else s

/-- Place a received block (R78, R81); whether it was a lock fault. Until a good marker has given the BSN after the pattern generator,
what comes without one is discarded (05 R170). (log 132 DESIGN CHOICE, 158 DESIGN CHOICE) -/
def State.placeBlock (s : State) (n : Nat) (words : List RxWord) (last : RxWord) : Bool × State :=
  let p := s.port n
  match last.marker? with
  | some (bsn, fc, fhp) =>
    let gap := p.unplaced
    let p := { p with unplaced := 0, frameCount := fc, wordLock := true }
    if p.resync then
      (false, (s.setPort n { p with resync := false, lockFaults := 0, nextBsn := bsn, ownCount := fc, adopt := true, seekFhp := true }).takeBlock n words (some (fc, fhp)))
    else
      let s := s.setPort n { p with lockFaults := 0 }
      let k := (bsn + 4096 - p.nextBsn) % 4096
      if p.blocks.any fun b => b.bsn == bsn && b.awaits then (false, s.mergeBlock n bsn words (fc, fhp))
      else if k = 0 then (false, s.takeBlock n words (some (fc, fhp)))
      else if k ≤ gap then (false, (s.skipBlocks n k).takeBlock n words (some (fc, fhp)))
      else (true, s.setPort n { p with lockFaults := p.lockFaults + 1, wordLock := false })
  | none =>
    if p.resync then (false, s)
    else if last.good then (true, s.setPort n { p with lockFaults := p.lockFaults + 1, wordLock := false })
    else if p.awaiting = 0 then (false, s.takeBlock n words none)
    else (false, s.setPort n { p with unplaced := p.unplaced + 1 })

/-- REPLAY_GONE words act as soon as they are received (R76, R81). -/
def State.actGone (s : State) (n : Nat) (words : List RxWord) : State :=
  (words.filter fun w => w.good && w.isControl && w.cls == 0 && w.sub == 4).foldl (fun (s : State) w =>
    let bsn := w.payload / 2 ^ 22 % 4096
    if (s.port n).blocks.any fun b => b.bsn == bsn && b.awaits then s.markBlock n bsn else s) s

/-- REPLAY_DEADLINE: blocks whose copy has not come in time (R81). -/
def execReplayDeadline (n : Nat) (s : State) : Host.Outcome State Fault Refusal :=
  onUnit s.variant.ports n s
    (((s.port n).blocks.filter fun b => match b.deadline with | some t => decide (t ≤ s.now) | none => false).foldl (fun (s : State) b => s.markBlock n b.bsn) s)

/-! Packet reassembly (R83, R85 to R88). -/

/-- A discarded or cut packet or control word counts in BAD_PACKET (R76, R83, R86 to R88). (log 83 DEDUCED) -/
def State.badPacket (s : State) (n : Nat) : State := s.modPort n fun p => { p with rxCounts := bump p.rxCounts 9 4 }

/-- A packet lost at its header: words are discarded up to the next slot that an FHP names. (log 100 DEDUCED) -/
def State.lostHeader (s : State) (n : Nat) : State := (s.badPacket n).modPort n fun p => { p with seekFhp := true }

/-- A packet ends, whole or cut short (R86, R88). -/
def State.endPacket (s : State) (n : Nat) (k : Packet) : State :=
  let whole := k.due == 0
  let body := if whole then k.words.dropLast else k.words
  let bytes := (unpack5 body).take k.wc
  let footer := (k.words.getLastD 0).toNat / 2 ^ 24
  let wrong := whole && !k.marked && (csiChecksum bytes).toNat != footer
  let s := s.modPort n fun p => { p with packet := none }
  let s := if wrong then (s.badPacket n).raise (evPort n) 0x07 else s
  s.ingestLong n k.vc k.dt bytes (k.marked || wrong) (if k.room then .free else if k.headAt = s.now then .soFar else .full) k.arrival none

/-- A header word in its place (R85, R87). -/
def State.header (s : State) (n v : Nat) (arrival : Int) : State :=
  let vc := v / 2 ^ 36
  let dt := v / 2 ^ 30 % 64
  let wc := v / 2 ^ 14 % 65536
  match eccCorrect (dt + vc % 4 * 64 + wc * 256 + vc / 4 * 2 ^ 24) (v / 256 % 64) with
  | none => s.lostHeader n
  | some (h, fixed) =>
    let s := if fixed then s.modPort n fun p => { p with hdrCounts := bump p.hdrCounts 39 24 } else s
    let dt := h % 64
    let vc := h / 64 % 4 + h / 2 ^ 24 % 4 * 4
    let wc := h / 256 % 65536
    if dt < 16 then
      if dt < 4 then
        let s := if dt = 0 then s.modPort n fun p => { p with ownCount := (p.ownCount + 1) % 2 ^ 20 } else s
        s.ingestShort n vc dt
      else s
    else if wc = 0 then s.lostHeader n
    else
      s.modPort n fun p =>
        { p with packet := some { vc := vc, dt := dt, wc := wc, words := [], due := ceilDiv wc 5 + 1, marked := false, arrival := arrival, headAt := s.now, room := s.headerRoom n vc dt } }

/-- The packet in progress is cut by a header, or by the end of the stream: it is delivered as short as it is (R88). -/
def State.cutPacket (s : State) (n : Nat) : State :=
  match (s.port n).packet with
  | none => s
  | some k => (s.badPacket n).endPacket n k

/-- One slot of the data-word stream: a good data word, or a marked word. `fhp` is that of its block, where one is known. (log 100 DEDUCED) -/
def State.dataSlot (s : State) (n : Nat) (x : RxWord) (slot : Nat) (fhp : Option Nat) (arrival : Int) : State :=
  let p := s.port n
  let named := fhp == some slot
  if p.seekFhp && !named then s
  else
    let s := if named then (s.modPort n fun p => { p with seekFhp := false }).cutPacket n else s
    match (s.port n).packet with
    | some k =>
      let k := { k with words := k.words ++ [BitVec.ofNat 40 x.payload], due := k.due - 1, marked := k.marked || !x.good }
      if k.due = 0 then s.endPacket n k else s.modPort n fun p => { p with packet := some k }
    | none =>
      if x.good then s.header n x.payload arrival
      else
        let none_ := match fhp with | some f => f == 0x3F || decide (slot < f) | none => false
        if none_ then s else s.lostHeader n

/-- A good control word in its turn (R76). (log 101 DEDUCED) -/
def State.controlSlot (s : State) (n : Nat) (x : RxWord) : State :=
  let v := x.payload
  if x.cls != 0 then s.badPacket n
  else match x.sub with
    | 0 | 4 => s
    | 1 => s.reply n v
    | 2 =>
      let id := v / 2 ^ 30 % 16
      let p := s.port n
      match p.trigSent.find? fun t => t.1 == id with
      | none => if v.testBit 29 then s.raise (evPort n) 0x0B else s
      | some t =>
        let p := { p with trigSent := eraseFirst (fun t => t.1 == id) p.trigSent }
        if v.testBit 29 then (s.setPort n p).raise (evPort n) 0x0B else s.setPort n { p with trigSeen := p.trigSeen ++ [t] }
    | 3 =>
      let s := s.modPort n fun p => { p with adopt := true }
      if v.testBit 5 then s.raise (evPort n) 0x11 else s
    | _ => s.badPacket n

/-- FRAME_COUNT of a released block's marker against the device's own count of frame starts (R83, R100). -/
def State.frameCount (s : State) (n fc : Nat) : State :=
  let p := s.port n
  let s := s.setPort n { p with ownCount := fc, adopt := false }
  if p.adopt || p.ownCount = fc then s else s.raise (evPort n) 0x0C

/-- Reception of a slot's word, in 2^-32 ns of Device Time: a word lasts 2.8 ns at 7.5 GBd. (log 80 DEDUCED) -/
def slotArrival (b : Block) (rate slot : Nat) : Int := b.arrivedAt - ((32 - slot) * 14 * 2 ^ (2 - rate) * fracPerNs / 5 : Nat)

/-- Deliver block N of a group's members, slot by slot and member by member (R103). (log 131 DESIGN CHOICE) -/
def State.deliverBlocks (s : State) (n : Nat) (l : List (Nat × Block)) : State :=
  let s := (List.range 32).foldl (fun (s : State) slot =>
    l.foldl (fun (s : State) (m : Nat × Block) =>
      let x := m.2.words.getD slot { w := 0, good := false }
      if x.good && x.isControl then s.controlSlot n x
      else s.dataSlot n x slot (m.2.marker.map fun k => k.2) (slotArrival m.2 (s.port m.1).rate slot)) s) s
  match l.findSome? fun m => m.2.marker with
  | some k => s.frameCount n k.1
  | none => s

/-- The oldest block of a port, where it is resolved. -/
def Port.ready (p : Port) : Option Block := match p.blocks with | b :: _ => if b.awaits then none else some b | [] => none

/-- Release block N of a group, once it is releasable on every member (R82, R102). -/
def State.releaseBlock (s : State) (n : Nat) : State :=
  let l := (s.group n).filterMap fun k => ((s.port k).ready).map fun b => (k, b)
  match l with
  | [] => s
  | a :: _ =>
    if l.length = (s.group n).length && l.all fun m => m.2.bsn == a.2.bsn then
      let s := l.foldl (fun (s : State) m => s.modPort m.1 fun p => { p with blocks := p.blocks.drop 1 }) s
      s.deliverBlocks n l
    else s

/-- The pattern generator of a port takes the place of its forward lane (05 R170). -/
def Port.patterned (p : Port) : Bool := fld p.patGen0Used 39 38 != 0

/-- BLOCK_RELEASE, for a port or member 0 of a group. -/
def execBlockRelease (n : Nat) (s : State) : Host.Outcome State Fault Refusal :=
  onUnit s.variant.ports n s
    (if (s.port n).bondPos != 0 || (s.port n).patterned || s.ledger.pstate == .hold then s else s.releaseBlock n)

/-- Drain what a loss has released, and discard the partial packet at its end (R84). -/
def State.drainBlocks : Nat → State → Nat → State
  | 0, s, _ => s
  | k + 1, s, n => if (s.port n).blocks.isEmpty then s else State.drainBlocks k (s.releaseBlock n) n

end Sys2Proof.Machine
end

