-- ==== Sys2Proof/Machine/Line.lean ====
section
/-! DEFINITION. The line of a Ray port (02_ray_line.md R56 to R69; 03_ray_words.md R78, R84, R102): training, losses and
retraining, electrical idle and wakes, the reception of blocks, and what a bonded group does together. -/
namespace Sys2Proof.Machine

/-- Port[n].LineStatus (Table 2-8). -/
def Port.lineStatus (p : Port) : Word :=
  mkWord [(39, 36, p.state.code), (35, 34, p.rate), (33, 33, b2n p.precode), (32, 32, b2n p.announced), (31, 24, p.eyeH.toNat), (23, 16, p.eyeW.toNat),
    (15, 12, p.trains), (11, 9, p.txPreset), (7, 0, p.lastFail)]

/-- Members of the group that port n belongs to. -/
def State.members? (s : State) (n : Nat) : List Nat := s.group (s.head n)

def State.modPorts (s : State) (l : List Nat) (f : Port → Port) : State := l.foldl (fun (s : State) k => s.modPort k f) s

/-! Training (R57 to R61). -/

/-- The precoder by policy (Table 2-4). -/
def Training.wantsPrecode (t : Training) : Bool :=
  match t.precodePolicy with | 0 => false | 1 => t.capPrecode && t.rate == 2 | _ => t.capPrecode

/-- A LINE_SET frame (Table 2-6b). (log 82 DEDUCED) -/
def Training.lineSet (t : Training) : List CodeGroup :=
  let commit := t.step == .commit
  cmdFrame 1 ([BitVec.ofNat 8 t.seq, if commit then 2 else 1, BitVec.ofNat 8 (3 * 16 + b2n t.idleOk * 8 + b2n t.precode * 4 + t.rate), 0] ++
    bytesBE 8 (if commit then t.seed else 0))

/-- 20 µs in timebase cycles. -/
def lineSetGap : Nat := 20 * cyclesPerUs

/-- An attempt begins: K28.5, and ANNOUNCE_WAIT from it. SEQ goes on from that of the attempt before. (log 130 DESIGN CHOICE) -/
def State.beginAttempt (s : State) (n : Nat) : State :=
  s.modPort n fun p =>
    match p.training with
    | none => p
    | some t =>
      let p := p.emit .k28_5
      { p with state := .bcAlign, announced := false, txAt := slotBefore (Config.slotPhase (s.head n)) s.local24 + slotLen
               training := some { t with step := .announce, deadline := s.now + t.announceWait * cyclesPerMs, waiting := false, announces := 0, seen := false
                                         crcBad := false, acked := false, adapted := false, readies := 0, ended := false } }

/-- A training of these members of a group, once each back channel has been silent for 100 µs since it last ran (R61). (log 82 DEDUCED) -/
def State.trainMembers (s : State) (l : List Nat) : State :=
  l.foldl (fun (s : State) k =>
    let s := s.modPort k fun p =>
      { p with state := .bcAlign, announced := false, wordLock := false
               training := some { step := .silence, deadline := p.quietUntil, waiting := false, limit := 0, rate := p.rateMax, announces := 0, seen := false
                                  crcBad := false, seq := 0, frame := [], precode := false, idleOk := false, acked := false, repeatAt := 0, adapted := false
                                  readies := 0, ended := false, seed := 0, left := p.trainRetries, capRates := 0, capPrecode := false, capIdle := false
                                  rateMax := p.rateMax, precodePolicy := p.precodePolicy, idlePolicy := p.idleOk, announceWait := p.announceWait } }
    if s.now < (s.port k).quietUntil then s else s.beginAttempt k) s

def State.beginTraining (s : State) (n : Nat) : State := s.trainMembers (s.members? n)

/-- Send a new LINE_SET on a member, with a time limit from the end of its frame. -/
def State.newLineSet (s : State) (k : Nat) (t : Training) (limit : Nat) : State :=
  s.modPort k fun p =>
    let t := { t with seq := (t.seq + 1) % 256, acked := false, repeatAt := s.now + lineSetGap, precode := t.wantsPrecode, idleOk := t.idlePolicy
                      waiting := true, limit := limit }
    { p.dropLineSets with state := .adapt, training := some { t with frame := t.lineSet } }.queueFrame t.lineSet (.lineSet t.seq)

/-- Step 3 at a rate, on every member. -/
def State.tryRate (s : State) (l : List Nat) (rate : Nat) : State :=
  l.foldl (fun (s : State) k =>
    match (s.port k).training with
    | some t => s.newLineSet k { t with step := .adapt, rate := rate, adapted := false } (510 * cyclesPerUs)
    | none => s) s

/-- SEEDs of the other ports, in use or in a COMMIT under way. -/
def State.seedsInUse (s : State) (k : Nat) : List Nat :=
  (List.range s.variant.ports).foldl (fun (l : List Nat) q =>
    if q = k then l else (s.port q).seed.toNat :: (match (s.port q).training with | some t => t.seed :: l | none => l)) []

/-- A SEED that is not zero and that no other port has (02 R47); otherwise open. -/
def freshSeed (d : Nat) (used : List Nat) : Nat :=
  (((List.range (used.length + 1)).map fun i => (d + i) % (2 ^ 58 - 1) + 1).find? fun v => !used.contains v).getD 1

/-- Step 5, on every member. -/
def State.commitRate (s : State) (l : List Nat) : State :=
  l.foldl (fun (s : State) k =>
    match (s.port k).training with
    | some t =>
      let d := s.draw
      d.2.newLineSet k { t with step := .commit, readies := 0, ended := false, seed := freshSeed d.1 (d.2.seedsInUse k) } (100 * cyclesPerUs)
    | none => s) s

/-- A port stops its back channel in DOWN, or waits for its next attempt, 10 ms on, its STATE meanwhile BC_ALIGN (R58). A group trains,
and fails, together. (log 82 DEDUCED, 129 DESIGN CHOICE, 155 DESIGN CHOICE) -/
def State.attemptFails (s : State) (n code : Nat) : State :=
  let l := s.members? n
  let left := match (s.port n).training with | some t => t.left | none => 0
  let s := l.foldl (fun (s : State) k => (s.modPort k fun p => { p.quiet s.now with lastFail := code }).raise (evPort k) 0x02) s
  if left = 0 then
    let s := l.foldl (fun (s : State) k => (s.modPort k fun p => { p with state := .down, training := none }).raise (evPort k) 0x03) s
    s.finishWait (.portTrain (s.head n)) .fault [(s.port (s.head n)).lineStatus]
  else
    s.modPorts l fun p =>
      { p with state := .bcAlign
               training := p.training.map fun t => { t with step := .retryWait, left := t.left - 1, deadline := s.now + 10 * cyclesPerMs } }

/-- Every member has ended its COMMIT: the group enters DATA with the precoder and the idle permission of the COMMIT LINE_SET (R46, R47,
R49, R63, R102). (log 82 DEDUCED, 128 DEDUCED) -/
def State.enterData (s : State) (n : Nat) : State :=
  let l := s.members? n
  let s := l.foldl (fun (s : State) k =>
    (s.modPort k fun p =>
      match p.training with
      | none => p
      | some t =>
        let p := p.dropLineSets
        { p with state := .data, rate := t.rate, precode := t.precode, trains := min 15 (p.trains + 1), seed := BitVec.ofNat 58 t.seed
                 scram := BitVec.ofNat 58 t.seed, prevP := 0, idleAllowed := t.capIdle && t.idleOk, training := none, wordLock := true, nextBsn := 0
                 ownCount := 0, adopt := false, resync := false, lockFaults := 0, unplaced := 0, blocks := [], packet := none, seekFhp := false
                 trigSeen := [], wakeAt := none, idleSkew := none, launchDue := k == s.head n }).raise (evPort k) 0x01) s
  let h := s.head n
  s.finishWait (.portTrain h) .ok [(s.port h).lineStatus]

/-- The highest rate that a RATES mask carries, coded as RATE. -/
def bestRate (mask : Nat) : Nat := if mask.testBit 2 then 2 else if mask.testBit 1 then 1 else 0

def minNats : List Nat → Nat
  | [] => 0
  | a :: r => r.foldl min a

/-- An ANNOUNCE frame in steps 1 and 2. -/
def State.announce (s : State) (n : Nat) (t : Training) (v : Nat) : State :=
  let l := s.members? n
  let t := if t.seen then t else { t with seen := true, deadline := s.now + 200 * cyclesPerUs }
  let kind := v / 2 ^ 60
  let t := { t with announces := if kind = 1 then t.announces + 1 else 0, capRates := v / 2 ^ 53 % 8, capPrecode := v.testBit 52, capIdle := v.testBit 51 }
  let s := s.modPort n fun p => { p with state := if p.state = .bcAlign then .baseLock else p.state, announced := p.announced || decide (3 ≤ t.announces), training := some t }
  if l.all fun k => (s.port k).announced then
    s.tryRate l (minNats (l.flatMap fun k => match (s.port k).training with | some t => [t.rateMax, bestRate t.capRates] | none => [0]))
  else s

/-- A training frame with good CRC. (log 154 DESIGN CHOICE) -/
def State.trainingFrame (s : State) (n : Nat) (t : Training) (v : Nat) (eyeH eyeW : Byte) : State :=
  let kind := v / 2 ^ 60
  let echo := v / 2 ^ 24 % 256
  let live := t.step == .announce || t.step == .adapt || t.step == .commit
  if !live then s
  else if kind = 0xF then s.attemptFails n 5
  else
    let s := s.modPort n fun p => { p with txPreset := v / 2 ^ 21 % 8, eyeH := eyeH, eyeW := eyeW }
    match t.step with
    | .announce => if (s.port n).announced then s else s.announce n t v
    | .adapt =>
      let acked := t.acked || (kind == 2 && echo == t.seq)
      let passed := acked && decide (12 ≤ eyeH.toNat) && decide (51 ≤ eyeW.toNat)
      let s := s.modPort n fun p => { p with training := some { t with acked := acked, adapted := t.adapted || passed } }
      let l := s.members? n
      if l.all fun k => match (s.port k).training with | some t => t.step == .adapt && t.adapted | none => false then s.commitRate l else s
    | _ =>
      if kind = 3 && echo = t.seq then s.modPort n fun p => { p with training := some { t with acked := true, readies := t.readies + 1 } } else s

/-- TRAINING_FRAME_RX (R50, R60): without its frame marker it is no training frame; a frame whose CRC fails is discarded. -/
def execTrainingFrameRx (n : Nat) (symbols : List Pam4) (eyeH eyeW : Byte) (s : State) : Host.Outcome State Fault Refusal :=
  onUnit s.variant.ports n s
    (match (s.port n).training, trainingField? symbols with
     | none, _ | _, none => s
     | some t, some field =>
       let v := field.toNat
       if (crc8 (bytesBE 7 (v / 256))).toNat = v % 256 then s.trainingFrame n t v eyeH eyeW
       else if t.step = .announce then s.modPort n fun p => { p with training := some { t with announces := 0, crcBad := t.crcBad || t.seen } }
       else s)

/-- TRAIN_STEP_TIMEOUT (R57). (log 48 DEDUCED, 153 DESIGN CHOICE) -/
def execTrainStepTimeout (n : Nat) (s : State) : Host.Outcome State Fault Refusal :=
  onUnit s.variant.ports n s
    (match (s.port n).training with
     | none => s
     | some t =>
       if t.waiting || decide (s.now < t.deadline) then s
       else match t.step with
         | .announce => if (s.port n).announced then s else s.attemptFails n (if !t.seen then 1 else if t.crcBad then 3 else 2)
         | .adapt => if t.adapted then s else if t.rate = 0 then s.attemptFails n 4 else s.tryRate (s.members? n) (t.rate - 1)
         | .commit => if t.ended then s else s.attemptFails n 9
         | _ => s)

/-- TRAIN_RETRY (R58): the next attempt, 10 ms after the one that failed. -/
def execTrainRetry (n : Nat) (s : State) : Host.Outcome State Fault Refusal :=
  onUnit s.variant.ports n s
    (match (s.port n).training with
     | some t => if t.step = .retryWait && decide (t.deadline ≤ s.now) then (s.members? n).foldl (fun (s : State) k => s.beginAttempt k) s else s
     | none => s)

/-- BACK_CHANNEL_SILENCE_END (R61). -/
def execBackChannelSilenceEnd (n : Nat) (s : State) : Host.Outcome State Fault Refusal :=
  onUnit s.variant.ports n s
    (match (s.port n).training with
     | some t => if t.step = .silence && decide (t.deadline ≤ s.now) then s.beginAttempt n else s
     | none => s)

/-- LINE_SET_REPEAT (R61): an unacknowledged LINE_SET goes out again, every 20 µs, with the same SEQ. (log 82 DEDUCED) -/
def execLineSetRepeat (n : Nat) (s : State) : Host.Outcome State Fault Refusal :=
  onUnit s.variant.ports n s
    (match (s.port n).training with
     | some t =>
       if (t.step = .adapt || t.step = .commit) && !t.acked && decide (t.repeatAt ≤ s.now) && (t.waiting || decide (s.now < t.deadline)) then
         s.modPort n fun p => { p with training := some { t with repeatAt := t.repeatAt + lineSetGap } }.queueFrame t.frame (.lineSet t.seq)
       else s
     | none => s)

/-- PORT_TRAINED: the end marker after at least 4 READY frames (R57); a group waits for its last member. -/
def execPortTrained (n : Nat) (s : State) : Host.Outcome State Fault Refusal :=
  onUnit s.variant.ports n s
    (match (s.port n).training with
     | some t =>
       if t.step = .commit && decide (4 ≤ t.readies) then
         let s := s.modPort n fun p => { p with training := some { t with ended := true } }
         if (s.members? n).all fun k => match (s.port k).training with | some t => t.ended | none => false then s.enterData n else s
       else s
     | none => s)

/-! Sessions end (R67; 03 R84; 05 R163). -/

/-- The session of a group ends: the buffer is marked and drained, the partial packet is discarded, open frames close, planned
triggers are dropped. -/
def State.endSession (s : State) (n : Nat) : State :=
  let h := s.head n
  let l := s.members? n
  let s := l.foldl (fun (s : State) k => s.markAwaiting k) s
  let s := s.drainBlocks 64 h
  let s := s.modPorts l fun p =>
    { p.quiet s.now with blocks := [], packet := none, seekFhp := false, wakeAt := none, idleSkew := none, wordLock := false, unplaced := 0, lockFaults := 0 }
  (s.loseFrames h).dropRuns h

/-- A loss (R67): counted, recorded, and followed by one retrain of the group. -/
def State.lineLoss (s : State) (n code : Nat) : State :=
  let l := s.members? n
  let s := (s.modPort n fun p => { p with lineEvents := bump p.lineEvents 39 24, lastFail := code }).raise (evPort n) 0x04
  (s.endSession n).trainMembers l

/-- Bond skew (R68; 03 R102). -/
def State.bondSkew (s : State) (n : Nat) : State :=
  let l := s.members? n
  let s := (s.modPorts l fun p => { p with lastFail := 8 }).raise (evPort (s.head n)) 0x05
  (s.endSession n).trainMembers l

/-- A group goes OFF, its back channel silent (R67, 12 R378, R379). -/
def State.portOff (s : State) (n : Nat) (st : Status) : State :=
  let h := s.head n
  let training := (s.port h).training.isSome
  let s := if (s.port h).state = .off then s
    else (s.endSession n).modPorts (s.members? n) fun p => { p with state := .off, training := none, announced := false }
  if training then s.finishWait (.portTrain h) st [(s.port h).lineStatus] else s

/-- PORT_LOSS: the forward lane of a port in DATA has fallen silent without an idle entry. -/
def execPortLoss (n : Nat) (s : State) : Host.Outcome State Fault Refusal :=
  onUnit s.variant.ports n s (if (s.port n).state = .data then s.lineLoss n 6 else s)

/-! Electrical idle (R63 to R68). -/

/-- Some member of the group is in DATA while another is idle or waking. -/
def State.idleApart (s : State) (n : Nat) : Bool :=
  ((s.members? n).any fun k => (s.port k).state == .data) && (s.members? n).any fun k => (s.port k).state == .idle || (s.port k).state == .waking

/-- Since when the members' idle states disagree, held at member 0 (R68). -/
def State.noteIdle (s : State) (n : Nat) : State :=
  s.modPort (s.head n) fun p => { p with idleSkew := if s.idleApart n then some (p.idleSkew.getD s.now) else none }

/-- IDLE_ENTRY: at least 60 of 64 symbols match; where IDLE_OK and IDLE_CAP did not both permit it, it is a loss (R63). -/
def execIdleEntry (n : Nat) (symbols : List Pam4) (s : State) : Host.Outcome State Fault Refusal :=
  onUnit s.variant.ports n s
    (let p := s.port n
     if p.state != .data || decide (idleMatches symbols < 60) then s
     else if p.idleAllowed then (s.setPort n { p with state := .idle }).noteIdle n
     else s.lineLoss n 6)

/-- The wake bound of a port in 1/240 ns (R66): K28.0, twice the cable, the camera's reaction, the burst, settling. -/
def Port.wakeBound (p : Port) : Nat := 12800 + 20 * p.cable24 + 48000 + wakeSymbols * 32 * 2 ^ (2 - p.rate) + 12000

/-- Cycles in 1/240 ns. -/
def cycles240 (n : Nat) : Nat := 960 * n

/-- WAKE_COMPLETE: the end marker of a wake burst. -/
def execWakeComplete (n : Nat) (s : State) : Host.Outcome State Fault Refusal :=
  onUnit s.variant.ports n s
    (let p := s.port n
     if p.state != .idle && p.state != .waking then s
     else
       let late := match p.wakeAt with | some t => decide (p.wakeBound < cycles240 (s.now - t)) | none => false
       let ev := bump p.lineEvents 23 8
       (s.setPort n { p with state := .data, scram := p.seed, prevP := 0, wakeAt := none, lineEvents := if late then bump ev 7 0 else ev }).noteIdle n)

/-- WAKE_TIMEOUT: no end marker within four times the bound. -/
def execWakeTimeout (n : Nat) (s : State) : Host.Outcome State Fault Refusal :=
  onUnit s.variant.ports n s
    (let p := s.port n
     match p.state, p.wakeAt with
     | .waking, some t => if 4 * p.wakeBound ≤ cycles240 (s.now - t) then s.lineLoss n 7 else s
     | _, _ => s)

/-- BOND_IDLE_SKEW: the members' idle states have disagreed for longer than 1 µs (R68). (log 48 DEDUCED) -/
def execBondIdleSkew (n : Nat) (s : State) : Host.Outcome State Fault Refusal :=
  onUnit s.variant.ports n s
    (match (s.port (s.head n)).idleSkew with
     | some t => if s.idleApart n && decide (t + cyclesPerUs < s.now) then s.bondSkew n else s
     | none => s)

/-- PORT_BOND_SKEW: the block-N markers of two members arrive more than 1 µs apart (03 R102). -/
def execPortBondSkew (n : Nat) (s : State) : Host.Outcome State Fault Refusal :=
  onUnit s.variant.ports n s
    (let l := s.members? n
     let late := fun (t : Nat) => decide (t + cyclesPerUs < s.now)
     let apart := l.any fun j => (s.port j).blocks.any fun b =>
       l.any fun k =>
         match (s.port k).blocks.find? fun c => c.bsn == b.bsn with
         | some c => decide (b.arrived + cyclesPerUs < c.arrived)
         | none => (s.port k).nextBsn == b.bsn && late b.arrived
     if 1 < l.length && apart then s.bondSkew n else s)

/-! Reception. -/

/-- Levels of a block: 33 words of 21. -/
def blockLevels : Nat := 693

/-- A block as received, once decoded: placed, its REPLAY_GONE words acted on; three lock faults in a row are a loss (R78). -/
def State.receiveBlock (s : State) (n : Nat) (words : List RxWord) : State :=
  let bad := (words.filter fun w => !w.good).length
  let s := s.modPort n fun p => { p with rxCounts := bump p.rxCounts 39 28 bad }
  let x := s.placeBlock n (words.take 32) (words.getD 32 { w := 0, good := false })
  let s := x.2.actGone n (words.take 32)
  if x.1 && decide (3 ≤ (s.port n).lockFaults) then s.lineLoss n 6 else s

/-- BLOCK_RX: a port in DATA receives a block. While the pattern generator runs, or in HOLD, what the lane carries is discarded. -/
def execBlockRx (n : Nat) (levels : List Pam4) (s : State) : Host.Outcome State Fault Refusal :=
  if levels.length != blockLevels then .refused (.illFormed "a block of other than 693 levels")
  else
    onUnit s.variant.ports n s
      (let p := s.port n
       if p.state != .data then s
       else
         let x := rxWords p.precode 33 levels { scram := p.scram.toNat, prev := p.prevP.toNat }
         let s := s.setPort n { p with scram := BitVec.ofNat 58 x.2.scram, prevP := BitVec.ofNat 2 x.2.prev }
         if (s.port (s.head n)).patterned || s.ledger.pstate == .hold then s else s.receiveBlock n x.1)

end Sys2Proof.Machine
end

