-- ==== Sys2Proof/Machine/PortCommands.lean ====
section
/-! DEFINITION. The port commands (12_mailbox_and_commands.md R378, R379; 03_ray_words.md R91, R93, R96, R105) and the power cycle of a
camera (16_board_interfaces.md R468). -/
namespace Sys2Proof.Machine

def portOf (m : Msg) : Nat := fld (m.w 0) 39 33

/-- Every member's camera supply is switched on, and the chain has latched it (02 R56). -/
def State.powered (s : State) (n : Nat) : Bool := (s.members? n).all fun k => (s.supply k).want && (s.supply k).latched

/-- PORT_CFG (R96: the lead covers 1100 ns and the cable). -/
def execPortCfg (m : Msg) (s : State) : Host.Outcome State Fault Refusal :=
  let n := portOf m
  let argsOk := lenIs m 2 && portArg s n && fld (m.w 0) 32 31 != 3 && fld (m.w 0) 30 29 != 3 && within 1 2000 (fld (m.w 0) 23 13) && zeroFld (m.w 0) 12 0 &&
    zeroFld (m.w 1) 7 0 && decide (8800 + fld (m.w 1) 23 8 ≤ 8 * fld (m.w 1) 39 24)
  .next (mailRun 0x100 permitR m s false argsOk fun s =>
    okNext (s.modPorts (s.group n) fun p =>
      { p with rateMax := fld (m.w 0) 32 31, precodePolicy := fld (m.w 0) 30 29, idleOk := bit (m.w 0) 28, trainRetries := fld (m.w 0) 27 24
               announceWait := fld (m.w 0) 23 13, trigCfg := m.w 1 }))

/-- A port is OFF, and no context is bound to it, unless it is being repaired (15 Table 15-4). -/
def State.portFree (s : State) (k : Nat) : Bool := (s.port k).state == .off && ((s.port k).inReset || (s.portCtxs (s.head k)).isEmpty)

/-- Form a group, or dissolve it. -/
def State.bondPorts (s : State) (n size : Nat) : State :=
  let l := groupPorts n size
  let old := l.flatMap fun k => s.members? k
  let s := s.modPorts old fun p => { p with bond := 0, bondPos := 0 }
  l.zipIdx.foldl (fun (s : State) x => s.modPort x.1 fun p => { p with bond := size, bondPos := x.2 }) s

def execPortBond (m : Msg) (s : State) : Host.Outcome State Fault Refusal :=
  let n := portOf m
  let size := fld (m.w 0) 32 31
  let l := groupPorts n size
  let argsOk := lenIs m 1 && portArg s n && size != 3 && zeroFld (m.w 0) 30 0 && n % 2 ^ size == 0 && l.all fun k => decide (k < s.variant.ports)
  .next (mailRun 0x101 permitR m s false argsOk fun s =>
    if (l.flatMap fun k => s.members? k).all fun k => s.portFree k then okNext (s.bondPorts n size) else .done .state [] s)

/-- A CAM_POWER entry (15 Table 15-2). (log 118 DEDUCED) -/
def State.logCamPower (s : State) (n action offMs : Nat) : State := s.logPhokel (evPort n) 0x84 (action * 2 ^ 62 + offMs * 2 ^ 46)

/-- Switch a camera supply: 0 off, 1 on, 2 off and, after OFF_MS, on again (R379). -/
def State.camPower (s : State) (n action offMs : Nat) : State :=
  let l := s.group n
  let s := s.logCamPower n action offMs
  let s := if action = 1 then s else s.portOff n .state
  let s := l.foldl (fun (s : State) k => s.modSupply k fun x => { x with want := action == 1 }) s
  s.modPort n fun p => { p with cycleEnd := if action = 2 then some (s.now + offMs * cyclesPerMs) else none }

/-- A PORT_POWER for a port is in progress. -/
def State.powerBusy (s : State) (n : Nat) : Bool :=
  (s.inflight? fun i => match i.wait with | .portPower k _ => k == n | _ => false).isSome || (s.port n).cycleEnd.isSome

def execPortPower (m : Msg) (s : State) : Host.Outcome State Fault Refusal :=
  let n := portOf m
  let action := fld (m.w 0) 32 31
  .next (mailRun 0x102 permitR m s false (lenIs m 1 && portArg s n && action != 3 && zeroFld (m.w 0) 14 0) fun s =>
    if s.powerBusy n then .done .busy [] s else .wait (.portPower n action) (s.camPower n action (fld (m.w 0) 30 15)))

/-- CYCLE_OFF_MS_END. -/
def execCycleOffMsEnd (n : Nat) (s : State) : Host.Outcome State Fault Refusal :=
  onUnit s.variant.ports n s
    (match (s.port n).cycleEnd with
     | some t =>
       if t ≤ s.now then
         (s.group n).foldl (fun (s : State) k => s.modSupply k fun x => { x with want := true }) (s.modPort n fun p => { p with cycleEnd := none })
       else s
     | none => s)

/-- Start a training by the port's state: a running port ends its session first (R378). -/
def State.train (s : State) (n : Nat) : State := (if (s.port n).running then s.endSession n else s).beginTraining n

def execPortTrain (m : Msg) (s : State) : Host.Outcome State Fault Refusal :=
  let n := portOf m
  .next (mailRun 0x103 permitR m s false (lenIs m 1 && portArg s n && zeroFld (m.w 0) 32 0) fun s =>
    if (s.port n).training.isSome then .done .busy [] s
    else if !s.powered n then .done .state [] s
    else .wait (.portTrain n) (s.train n))

def execPortStop (m : Msg) (s : State) : Host.Outcome State Fault Refusal :=
  let n := portOf m
  .next (mailRun 0x104 permitR m s false (lenIs m 1 && portArg s n && zeroFld (m.w 0) 32 0) fun s => okNext (s.portOff n .state))

def execPortWake (m : Msg) (s : State) : Host.Outcome State Fault Refusal :=
  let n := portOf m
  .next (mailRun 0x105 permitR m s false (lenIs m 1 && portArg s n && zeroFld (m.w 0) 32 0) fun s =>
    if (s.port n).running then okNext (s.wake n) else .done .state [] s)

/-- A command that a back-channel command carries (R378, R379). -/
def State.camCommand (s : State) (n cmd : Nat) (body : List Byte) : Verdict :=
  if !(s.port n).running then .done .state [] s
  else match s.bcCommand n cmd body with
    | none => .done .busy [] s
    | some (tag, s) => .wait (.sensor n tag) s

/-- TARGET, ALEN and the address bytes of a sensor access (03 Table 3-8). -/
def sensorHead (target alen address : Nat) : List Byte := [BitVec.ofNat 8 target, BitVec.ofNat 8 alen] ++ bytesBE alen address

/-- The arguments of a sensor access. -/
def sensorArgs (s : State) (m : Msg) : Bool :=
  let alen := fld (m.w 0) 24 22
  portArg s (portOf m) && !bit (m.w 0) 25 && (alen == 1 || alen == 2 || alen == 4) && within 1 32 (fld (m.w 0) 21 16) && zeroFld (m.w 0) 15 0 &&
    zeroFld (m.w 1) 39 32 && decide ((m.w 1).toNat < 256 ^ alen)

def execSensorWrite (m : Msg) (s : State) : Host.Outcome State Fault Refusal :=
  let count := fld (m.w 0) 21 16
  .next (mailRun 0x106 permitR m s false (lenIs m (2 + ceilDiv count 5) && sensorArgs s m) fun s =>
    s.camCommand (portOf m) 2 (sensorHead (fld (m.w 0) 32 25) (fld (m.w 0) 24 22) (m.w 1).toNat ++ payloadBytes m 2 count))

def execSensorRead (m : Msg) (s : State) : Host.Outcome State Fault Refusal :=
  .next (mailRun 0x107 permitR m s false (lenIs m 2 && sensorArgs s m) fun s =>
    s.camCommand (portOf m) 3 (sensorHead (fld (m.w 0) 32 25) (fld (m.w 0) 24 22) (m.w 1).toNat ++ [BitVec.ofNat 8 (fld (m.w 0) 21 16)]))

def execTrigMapSet (m : Msg) (s : State) : Host.Outcome State Fault Refusal :=
  .next (mailRun 0x108 permitR m s false (lenIs m 1 && portArg s (portOf m) && zeroFld (m.w 0) 4 0) fun s =>
    s.camCommand (portOf m) 4 (([fld (m.w 0) 32 29, fld (m.w 0) 28 21, fld (m.w 0) 20 13, fld (m.w 0) 12 5]).map (BitVec.ofNat 8)))

def execEpochMapSet (m : Msg) (s : State) : Host.Outcome State Fault Refusal :=
  .next (mailRun 0x109 permitR m s false (lenIs m 1 && portArg s (portOf m) && zeroFld (m.w 0) 24 0 && fld (m.w 0) 32 29 == 0) fun s =>
    s.camCommand (portOf m) 5 [BitVec.ofNat 8 (fld (m.w 0) 32 25)])

def execCamStatus (m : Msg) (s : State) : Host.Outcome State Fault Refusal :=
  .next (mailRun 0x10A permitR m s false (lenIs m 1 && portArg s (portOf m) && zeroFld (m.w 0) 32 0) fun s => s.camCommand (portOf m) 6 [])

end Sys2Proof.Machine
end

