-- ==== Sys2Proof/Machine/Service.lean ====
section
/-! DEFINITION. Service, faults and repair in operation (15_service_and_faults.md R449 to R455; 14_reset_and_boot.md R434; 11 R343; 12
R389, Table 12-13). -/
namespace Sys2Proof.Machine

def unitKind (m : Msg) : Nat := fld (m.w 0) 39 36
def unitIndex (m : Msg) : Nat := fld (m.w 0) 35 29

/-- The camera supply of every member is off, and the chain has latched it. -/
def State.unpowered (s : State) (n : Nat) : Bool := (s.members? n).all fun k => !(s.supply k).want && !(s.supply k).latched

/-- A unit is idle (14 Table 14-7). -/
def State.unitIdle (s : State) (kind idx : Nat) : Bool :=
  match kind with
  | 1 => (s.facet idx).state == .drained || (s.facet idx).state == .quarantined
  | 2 => (s.accord idx).state == .drained || (s.accord idx).state == .off
  | 3 => ((s.port idx).state == .off || (s.port idx).state == .down) && s.unpowered idx && !(s.port idx).inReset
  | 4 => (s.engine idx).halted && !(s.engine idx).inReset
  | 5 => let x := (s.ring.drive idx).state; (x == .lost || x == .spare || x == .init) && !(s.ring.drive idx).inReset
  | _ => false

/-- Begin a drain; none where it is out of order (R451). -/
def State.drainUnit (s : State) (kind idx : Nat) : Option State :=
  match kind with
  | 1 =>
    if (s.facet idx).state == .run then some (((s.modFacet idx fun f => { f with state := .draining }).plan 0).settleDrain idx) else none
  | 2 => if (s.accord idx).state == .run then some (s.modAccord idx fun a => { a with state := .draining }) else none
  | 3 => if (s.port idx).inReset || (s.port idx).drainBy.isSome then none
         else some (s.modPort idx fun p => { p with drainBy := some (s.now + 100 * cyclesPerMs) })
  | 4 => if (s.engine idx).inReset || (s.engine idx).forcePending then none
         else some ((s.modEngine idx fun x => { x with forcePending := true }).tryForce idx)
  | 5 => if (s.ring.drive idx).state == .member && !(s.ring.drive idx).drained then some ((s.modDrive idx fun x => { x with drained := true }).drainDrive idx)
         else none
  | _ => none

/-- UNIT_DRAIN (R451, R454, Table 15-4). (log 55 DEDUCED) -/
def execUnitDrain (m : Msg) (s : State) : Host.Outcome State Fault Refusal :=
  let k := unitKind m
  let i := unitIndex m
  .next (mailRun 0x800 permitR m s false (lenIs m 1 && zeroFld (m.w 0) 28 0 && unitArg s k i) fun s =>
    if s.unitIdle k i then okNext s
    else match s.drainUnit k i with
      | none => .done .state [] s
      | some t => if k != 3 && t.unitIdle k i then okNext (if k = 4 then t.logUnitState 4 i else t) else .wait (.unitDrain k i) t)

/-- Lines of a context that wait in an ingest ring are lost (14 Table 14-7). -/
def State.clearRing (s : State) (c : Nat) : State :=
  let lost := (s.ctx c).frames.filter fun f => (s.ctx c).ring.any fun l => l.frame == f.no && !l.taken
  let s := lost.foldl (fun (s : State) f => s.loseFrame c f) s
  s.modCtx c fun x => { x with ring := [] }

/-- Reset one unit: its registers' Reset values, IN_RESET, and what Table 14-7 adds. -/
def State.resetUnit (s : State) (kind idx : Nat) : State :=
  match kind with
  | 1 => (s.rcForget (· == .facet idx 2)).setFacet idx { Facet.reset idx with state := .inReset }
  | 2 => (s.rcForget (· == .accord idx 6)).modAccord idx fun a => { Accord.reset idx with state := .inReset, ring := a.ring }
  | 3 =>
    let s := ((s.portCtxs idx).map fun x => x.1).foldl (fun (s : State) c => s.clearRing c) s
    (s.members? idx).foldl (fun (s : State) k => (s.rcForget fun r => match r with | .port j _ => j == k | _ => false).modPort k fun p =>
      { Port.reset k with inReset := true, sent := p.sent, disparity := p.disparity, txCode := p.txCode, quietUntil := p.quietUntil, lastFail := p.lastFail
                          trains := p.trains, recovered := p.recovered }) s
  | 4 =>
    let s := (s.rcForget fun r => match r with | .chan e _ _ => e == idx | _ => false).setEngine idx { Engine.reset idx with halted := true, inReset := true }
    (List.range 32).foldl (fun (s : State) ch =>
      s.modChan idx ch fun c =>
        if c.enable then
          { c with state := .halted, counts := 0, fetched := [], fetching := false, again := false, kept := false, released := false, stopPending := false
                   inFlight := false, transfers := [], done := 0, frame := none, unacked := false, skipOwn := c.inFlight || c.skipOwn }
        else c) s
  | 5 =>
    ((s.modRing fun r => r.dropCommands idx).rcForget (· == .drive idx 1)).modDrive idx fun x =>
      { Drive.reset idx with state := .init, inReset := true, labelA := x.labelA, labelB := x.labelB, labelNext := x.labelNext }
  | _ => s

/-- The UNIT_STATE entry of a unit that has just been reset. -/
def State.logReset (s : State) (kind idx : Nat) : State := if kind = 5 then s.logPhokel (evDrive idx) 0x81 1 else s.logUnitState kind idx

def execUnitReset (m : Msg) (s : State) : Host.Outcome State Fault Refusal :=
  let k := unitKind m
  let i := unitIndex m
  .next (mailRun 0x801 permitR m s false (lenIs m 1 && zeroFld (m.w 0) 28 0 && unitArg s k i) fun s =>
    if !s.unitIdle k i then .done .state [] s
    else
      let s := (s.resetUnit k i).logReset k i
      .wait (.unitReset k i (s.now + cyclesPerMs)) (s.modRst fun r => { r with unitsWaiting := r.unitsWaiting ++ [(k, i)] }))

/-- A unit's clock-good (14 R434). -/
def State.unitClock (s : State) (k i : Nat) : State :=
  let s := s.modRst fun r => { r with unitsWaiting := r.unitsWaiting.filter fun u => u != (k, i) }
  s.finish (fun f => match f.wait with | .unitReset a b _ => a == k && b == i | _ => false) .ok []

/-- A unit that UNIT_RESET has reset and that has been released (R451). -/
def State.unitReset? (s : State) (kind idx : Nat) : Bool :=
  let is := match kind with
    | 1 => (s.facet idx).state == .inReset && (s.facet idx).testEnd.isNone
    | 2 => (s.accord idx).state == .inReset
    | 3 => (s.port idx).inReset
    | 4 => (s.engine idx).inReset
    | 5 => (s.ring.drive idx).inReset
    | _ => false
  is && !s.rst.unitsWaiting.contains (kind, idx) && (s.inflight? fun i => i.wait == .unitReadmit kind idx).isNone

def execUnitReadmit (m : Msg) (s : State) : Host.Outcome State Fault Refusal :=
  let k := unitKind m
  let i := unitIndex m
  let own := bit (m.w 0) 28
  .next (mailRun 0x802 permitR m s false (lenIs m 2 && zeroFld (m.w 0) 27 0 && zeroFld (m.w 1) 35 0 && unitArg s k i) fun s =>
    if !s.unitReset? k i then .done .state [] s
    else
      let w : Wait := .unitReadmit k i
      match k with
      | 1 => .wait w (s.modFacet i fun f => { f with testEnd := some (s.now + 5 * cyclesPerMs / 2) })
      | 2 =>
        let s := s.modAccord i fun a => { a with state := .readmitPending }
        .wait w (if own then s.ownLaunch 2 i else s)
      | 3 => .wait w (s.camPower i 1 0)
      | 4 => .wait w (if own then s.ownLaunch 4 i else s)
      | _ =>
        let d := s.ring.drive i
        match d.state, d.info with
        | .spare, _ =>
          if !s.ring.formatted then okNext ((s.modDrive i fun x => { x with inReset := false }).logPhokel (evDrive i) 0x81 4)
          else if d.slots < s.ring.slots then .done .noResource [] s
          else okNext (s.joinDrive i)
        | _, some info => if driveOk info then .wait w (s.modRing fun r => { r with joining := some i }) else .done .fault [] s
        | _, none => if s.ring.joining.isSome then .done .busy [] s else .wait w (s.modRing fun r => { r with joining := some i }))

/-- The UNIT_READMIT of a unit names Phokel's own launch. -/
def State.ownsLaunch (s : State) (kind idx : Nat) : Bool :=
  match s.inflight? fun i => i.wait == .unitReadmit kind idx with
  | some i => bit (pw i.payload 0) 28
  | none => false

/-- LINE_MEMORY_TEST_END (R452). -/
def execLineMemoryTestEnd (f : Nat) (pass : Bool) (s : State) : Host.Outcome State Fault Refusal :=
  onUnit s.variant.facets f s
    (match (s.facet f).testEnd with
     | none => s
     | some t =>
       if s.now < t then s
       else if pass then
         let s := s.modFacet f fun x => { x with state := .readmitPending, launched := false, testEnd := none }
         if s.ownsLaunch 1 f then s.ownLaunch 1 f else s
       else
         ((s.modFacet f fun x => { x with state := .quarantined, testEnd := none }).logUnitState 1 f).finishWait (.unitReadmit 1 f) .fault)

/-! Ports that Phokel looks after (R449, R451). -/

/-- PORT_RECOVERY: a port with a bound context has entered DOWN; at most once in 10 minutes. -/
def execPortRecovery (n : Nat) (s : State) : Host.Outcome State Fault Refusal :=
  onUnit s.variant.ports n s
    (let p := s.port n
     let rested := match p.recovered with | some t => decide (t + 600 * cyclesPerS ≤ s.now) | none => true
     if p.state != .down || p.bondPos != 0 || (s.portCtxs n).isEmpty || !rested || s.powerBusy n || p.inReset || p.drainBy.isSome || s.phokelStops ||
        s.ledger.pstate != .run then s
     else (s.camPower n 2 200).modPort n fun p => { p with recovered := some s.now, recovering := 1 })

/-- The map that a recovered port is sent next: its back-channel command. -/
def Port.mapAt (p : Port) (i : Nat) : Option (Nat × List Nat) :=
  match p.trigMaps[i]? with
  | some (id, a, b, c) => some (4, [id, a, b, c])
  | none => if i = p.trigMaps.length then p.epochMap.map fun e => (5, [e]) else none

/-- One step of a port's recovery. -/
def State.stepRecovery (s : State) (n : Nat) : State :=
  let p := s.port n
  if p.recovering < 2 then s
  else if p.recovering = 2 then
    if p.running then s.modPort n fun p => { p with recovering := 3 }
    else if p.training.isNone then s.modPort n fun p => { p with recovering := 0 } else s
  else if !p.running then s.modPort n fun p => { p with recovering := 0 }
  else match p.mapAt (p.recovering - 3) with
    | none => s.modPort n fun p => { p with recovering := 0 }
    | some (cmd, body) =>
      match s.bcCommand n cmd (body.map (BitVec.ofNat 8)) with
      | some (_, s) => s.modPort n fun p => { p with recovering := p.recovering + 1 }
      | none => s

/-- A port's drain: open frames have closed, or 100 ms have passed; then the port is OFF and its supply off. (log 85 DEDUCED) -/
def State.stepPortDrain (s : State) (n : Nat) : State :=
  match (s.port n).drainBy with
  | none => s
  | some t =>
    if s.openFrames n && decide (s.now < t) then s
    else (s.camPower n 0 0).modPort n fun p => { p with drainBy := none }

/-- A port that readmission has trained gets Phokel's launch; one that failed completes with FAULT. -/
def State.stepPortReadmit (s : State) (n : Nat) : State :=
  if (s.inflight? fun i => i.wait == .unitReadmit 3 n).isNone then s
  else if (s.port n).state == .down then s.finishWait (.unitReadmit 3 n) .fault
  else if (s.port n).running && s.ownsLaunch 3 n && !(s.tu.launches.any fun l => l.own == some (3, n)) then s.ownLaunch 3 n
  else s

/-- A group that has come up gets an epoch launch of Phokel's (01 R22); that of a readmission serves instead. (log 143 DESIGN CHOICE) -/
def State.stepBringUp (s : State) (n : Nat) : State :=
  if !(s.port n).launchDue then s
  else
    let s := s.modPort n fun p => { p with launchDue := false }
    if (s.port n).running && (s.inflight? fun i => i.wait == .unitReadmit 3 n).isNone then s.ownLaunch 3 n else s

/-- UNIT_RESETs without their clock-good after 1 ms: TIMEOUT, and a RESET_DEFERRED entry (14 R434). -/
def State.stepResets (s : State) : State :=
  (s.mail.inflight.filter fun i => match i.wait with | .unitReset _ _ due => decide (due ≤ s.now) | _ => false).foldl (fun (s : State) i =>
    match i.wait with
    | .unitReset k x due => ((s.attn attnDeferred).logPhokel (unitId k x) 0x83 0).finishWait (.unitReset k x due) .timeout
    | _ => s) s

/-- What Phokel sees to in a cycle. -/
def State.stepService (s : State) : State :=
  if s.phokelStops then s
  else
    let ns := s.ports.map fun x => x.1
    (ns.foldl (fun (s : State) n => (((s.stepRecovery n).stepPortDrain n).stepPortReadmit n).stepBringUp n) s).stepResets

/-! Engines 28 to 31 (11 R343; R453). -/

/-- DMA_AUTO_RESUME: 1 ms after a halt; after CAUSE 0x5 by the procedure of Table 15-4. A halt that FORCE asked for stays. (log 76 DEDUCED) -/
def execDmaAutoResume (e : Nat) (s : State) : Host.Outcome State Fault Refusal :=
  let x := s.engine e
  if 32 ≤ e then .next s
  else
    .next (if e < 28 || !x.halted || x.inReset || x.cause = 6 || decide (s.now < x.haltCycle + cyclesPerMs) || s.phokelStops then s
      else if x.cause = 5 then ((s.resetUnit 4 e).logReset 4 e).ownLaunch 4 e
      else ((s.resumeEngine e).raise (evEngine e) 2).afterResume e)

end Sys2Proof.Machine
end

