-- ==== Sys2Proof/Machine/Reset.lean ====
section
/-! DEFINITION. The reset levels, their sources, and the release of the domains (14_reset_and_boot.md R421 to R435; 17 R481; 11 R326, R327;
12 R370). -/
namespace Sys2Proof.Machine

/-! What each level clears (Table 14-1). -/

/-- The travel engine in the always-on domain: counter and history; its configuration is outside. -/
def Travel.kept (t : Travel) : Travel := { Travel.reset with tr := t.tr, anchor := t.tr, extreme := t.tr, history := t.history, atLimit := t.atLimit }

/-- Device Time, its discipline and parameters stay; what a read latched and the counts do not. -/
def TimeBase.kept (t : TimeBase) : TimeBase := { t with latchHi := none, latchTravel := none, latchStatus := none, syncCounts := 0 }

/-- Fuses and boot flash: kept by every reset. -/
def Security.stored (x : Security) : Security :=
  { Security.reset with lifecycle := x.lifecycle, ownerHash := x.ownerHash, ownerRevoked := x.ownerRevoked, ownerPub := x.ownerPub, rollback := x.rollback
                        lastSeq := x.lastSeq, doorSecretStored := x.doorSecretStored, commissionStored := x.commissionStored
                        bootA := x.bootA, bootB := x.bootB, bootSeq := x.bootSeq, active := x.active, tryByte := x.tryByte
                        slots := x.slots.map fun y => { y with staged := false } }

/-- Debug logic: kept by a system reset whose cause is no security violation. -/
def Security.debugKept (x y : Security) : Security :=
  { x with debugOpen := y.debugOpen, debugSinceBoot := y.debugSinceBoot, challenge := y.challenge, debugFails := y.debugFails, failRun := y.failRun
           refuseUntil := y.refuseUntil, heldOpening := y.heldOpening, tap := y.tap, tapRefused := y.tapRefused, halted := y.halted }

/-- The board's side of a system reset: the two-wire target runs on, rws fields stay, the camera supplies go off. -/
def Board.kept (b : Board) : Board :=
  { Board.reset with addr := b.addr, pointer := b.pointer, twOpen := b.twOpen, twCfg := b.twCfg, filterPending := b.filterPending
                     supplies := b.supplies.map fun (x : Nat × Supply) => (x.1, { x.2 with want := false, suspect := false })
                     pattern := b.pattern, attnCount := b.attnCount, twAck := b.twAck }

/-- What lies on the drives. -/
def Ring.onDrives (r : Ring) : Ring :=
  { Ring.reset with drives := (r.drives.filter fun x => !x.2.labelA.isEmpty || !x.2.labelB.isEmpty).map fun x =>
      (x.1, { Drive.reset x.1 with labelA := x.2.labelA, labelB := x.2.labelB, labelNext := x.2.labelNext }), logTail := r.logTail }

/-- CAUSE codes of a security violation (Table 14-2). -/
def secCause (c : Nat) : Bool := within 0x10 0x14 c

/-- A violation is kept until Phokel runs again and raises it (13 R416). -/
def Security.addViolation (x : Security) (c : Nat) : Security := if secCause c then { x with violations := x.violations ++ [c] } else x

/-- A system reset (R421, R422). One that ends HOLD keeps the power cap for RUN (10 R311). (log 66 DEDUCED) -/
def State.systemReset (s : State) (cause : Nat) : State :=
  let sec := s.sec.stored
  let sec := if secCause cause then { sec with debugSinceBoot := s.sec.debugSinceBoot } else sec.debugKept s.sec
  let sec := { sec with violations := s.sec.violations }
  { State.reset with
    ledger := { Ledger.reset with capDw := if s.ledger.pstate = .hold then s.ledger.capDw else 0 }
    variant := s.variant, time := s.time.kept, tu := { TimeUnits.reset with travel := s.tu.travel.kept, phase := s.tu.phase }, board := s.board.kept
    ring := s.ring.onDrives, sec := sec, host := { HostLink.reset with writes := s.host.writes, lastRead := s.host.lastRead }, freeCount := s.freeCount, pending := s.pending
    rst := { ResetCtl.reset with rstrap := s.rst.rstrap, strapCode := s.rst.strapCode, strapInvalid := s.rst.strapInvalid, released := s.rst.released &&& 1
                                 cause := BitVec.ofNat 8 cause, nextStep := 2, alwaysOn := s.rst.alwaysOn, alwaysOnSince := s.rst.alwaysOnSince, resetAt := some s.now } }

/-- Loss of power in the middle of a fuse leaves ROLLBACK at the old or the new count (13 R412). (log 167 DESIGN CHOICE) -/
def State.tornFuse (s : State) : State :=
  match s.sec.fuses with
  | none => s
  | some _ => let d := s.draw; d.2.modSec fun x => { x with rollback := x.rollback + d.1 % 2 }

/-- A power-on reset (R421): fuses, flash and drives keep what they hold. (log 119 DEDUCED) -/
def State.powerReset (s : State) : State :=
  let s := s.tornFuse
  { State.reset with variant := s.variant, ring := s.ring.onDrives, sec := s.sec.stored, freeCount := s.freeCount, pending := s.pending
                     host := { HostLink.reset with writes := s.host.writes, lastRead := s.host.lastRead }
                     board := { Board.reset with supplies := s.board.supplies.map fun (x : Nat × Supply) => (x.1, { x.2 with want := false, suspect := false })
                                                 pattern := s.board.pattern, attnCount := s.board.attnCount, twAck := s.board.twAck } }

/-- A system reset, which waits until a fuse being written is complete (13 R412). (log 167 DESIGN CHOICE) -/
def State.resetOrWait (s : State) (cause : Nat) : State :=
  if s.sec.fuses.isSome then s.modRst fun r => { r with resetWaits := some (match r.resetWaits with | some c => min c cause | none => cause) }
  else s.systemReset cause

/-- A cycle of the fuse writer; a reset that waited follows the fuse (13 R412). (log 167 DESIGN CHOICE) -/
def State.stepFuses (s : State) : State :=
  match s.sec.fuses with
  | none => s
  | some f =>
    if s.now < f.doneAt then s
    else match s.rst.resetWaits with
      | some c => (s.modSec fun x => { x with rollback := x.rollback + 1, fuses := none }).systemReset c
      | none => s.fuseDone f

/-- A source of system level: deferred in HOLD until SEAL_DONE; of two in one cycle the lower code is recorded, with one reset (R422, Table 14-8). -/
def State.systemCause (s : State) (cause : Nat) : State :=
  if s.rst.off || !s.rst.alwaysOn then s
  else
  let s := s.modSec fun x => x.addViolation cause
  if s.ledger.pstate = .hold && !s.ledger.sealDone then
    s.modRst fun r => { r with deferredCause := some (match r.deferredCause with | some c => min c cause | none => cause) }
  else if s.rst.resetAt = some s.now then
    let s := s.modRst fun r => { r with cause := BitVec.ofNat 8 (min r.cause.toNat cause) }
    if secCause cause then s.modSec fun x => { x.stored with debugSinceBoot := x.debugSinceBoot, violations := x.violations } else s
  else s.resetOrWait cause

/-- The management cluster is up: Phokel has started, or the cluster boots. (log 181 DEDUCED) -/
def State.clusterUp (s : State) : Bool := !s.rst.off && (s.rst.phokel || (s.rst.bootState == .booting && s.rst.released.getLsbD 3))

/-- A core reset: the management cluster alone (R406, R421; 12 R370). Before Phokel first starts neither watchdog runs (R425). (log 181 DEDUCED) -/
def State.startCoreReset (s : State) (cause : Nat) : State :=
  if !s.clusterUp then s
  else
    let up := s.rst.phokel
    let s := s.modRst fun r => { r with cause := BitVec.ofNat 8 cause, bootState := .booting, coreReset := up, mcWatch := if up then some (s.now + 150 * cyclesPerMs) else none }
    let s := s.modSec fun x =>
      let x := if cause = 0x21 && x.activation.isSome then x.writeBoot x.active 0xFF else x
      { x with measLog := [], bootFlash := none }
    let s := s.modMail fun m => { m with shed := 0, shedSince := s.now, loopHalvings := [0, 0, 0, 0], loopSince := s.now }
    let s := s.modLedger fun l => { l with commission := none }
    s.modBoard fun b => { b with holdupTest := false }

/-! Sources (Table 14-2). -/

/-- A pulse on PORST_N or SYSRST_N (R423): between 500 ns and 1 µs the manual leaves open whether it is accepted. (log 49 DESIGN CHOICE) -/
def State.pulseTaken (s : State) (lowNs : Nat) : Bool × State :=
  if lowNs < 500 then (false, s)
  else if 1000 ≤ lowNs then (true, s)
  else let d := s.draw; (d.1 % 2 == 1, d.2)

/-- POWER_ON_RESET (R421, Table 14-1). (log 119 DEDUCED) -/
def execPowerOnReset (lowNs : Nat) (s : State) : Host.Outcome State Fault Refusal :=
  let p := s.pulseTaken lowNs
  .next (if p.1 then p.2.powerReset else p.2)

/-- See the assumption log (log 179 DEDUCED). -/
def execSysrstPin (lowNs : Nat) (s : State) : Host.Outcome State Fault Refusal :=
  let p := s.pulseTaken lowNs
  .next (s.onBall (if p.1 then p.2.systemCause 0x02 else p.2))

/-- SUPPLY_OFF (17 R481): below the OFF levels every domain is held in reset until the next power-on reset. -/
def execSupplyOff (vddAonMv vddMv vddLowNs : Nat) (s : State) : Host.Outcome State Fault Refusal :=
  .next (if vddAonMv < 700 || (vddMv < 650 && 1000 < vddLowNs) then s.powerReset.modRst fun r => { r with off := true } else s)

/-- The management cluster is halted by a debug session, or may be: both watchdogs pause (R425). -/
def State.clusterDebug (s : State) : Bool := s.sec.debugOpen.contains 0

/-- A watchdog can have expired, and does not stand still (R425). (log 91 DEDUCED) -/
def State.expired (s : State) (w : Option Nat) : Bool := match w with | some t => decide (t ≤ s.now) && !s.clusterDebug | none => false

/-- MC_WATCHDOG: a core reset (R425). (log 91 DEDUCED) -/
def execMcWatchdog (s : State) : Host.Outcome State Fault Refusal := .next (if s.expired s.rst.mcWatch then s.startCoreReset 0x21 else s)

/-- SYS_WATCHDOG: a system reset (R425). (log 91 DEDUCED) -/
def execSysWatchdog (s : State) : Host.Outcome State Fault Refusal := .next (if s.expired s.rst.sysWatch then s.systemCause 0x03 else s)

/-- A cycle in which both watchdogs pause (R425). (log 91 DEDUCED) -/
def State.stepWatch (s : State) : State :=
  if s.clusterDebug then s.modRst fun r => { r with mcWatch := r.mcWatch.map (· + 1), sysWatch := r.sysWatch.map (· + 1) } else s

/-- MC_PARITY (01 R38). -/
def execMcParity (s : State) : Host.Outcome State Fault Refusal :=
  .next (if s.clusterUp then (s.parityError evMc evMc 1 0).startCoreReset 0x23 else s)

/-- CAUSE of a security violation. -/
def secCauseCode : SecCause → Nat
  | .fuseParity => 0x10 | .supplyGlitch => 0x11 | .clockGlitch => 0x12 | .keyEngine => 0x13 | .fuseWrite => 0x14

/-- SECURITY_VIOLATION (13 R416): in HOLD it is logged and deferred. -/
def execSecurityViolation (cause : SecCause) (s : State) : Host.Outcome State Fault Refusal :=
  .next (if s.ledger.pstate = .hold && !s.ledger.sealDone then (s.logHw evSecurity 9 (secCauseCode cause)).systemCause (secCauseCode cause) else s.systemCause (secCauseCode cause))

/-- SYS_RESET. -/
def execSysReset (m : Msg) (s : State) : Host.Outcome State Fault Refusal :=
  .next (mailRun 0x006 permitRL0 { m with flags := m.flags ||| 1 } s false (lenIs m 1 && m.w 0 == 0x5359535400) fun s => okNext (s.resetOrWait 0x05))

/-- CORE_RESET: answered after the restart. -/
def execCoreReset (m : Msg) (s : State) : Host.Outcome State Fault Refusal :=
  .next (mailRun 0x007 permitRL0 m s false (lenIs m 1 && m.w 0 == 0x434F524500) fun s => .wait .coreReset (s.startCoreReset 0x22))

/-! Release of the domains (R427 to R432). -/

/-- The all-off pattern is latched (R435). -/
def Board.allOff (b : Board) : Board :=
  { b with pattern := 0, supplies := b.supplies.map fun (x : Nat × Supply) => (x.1, { x.2 with want := false, latched := false, suspect := false }) }

/-- ALWAYS_ON_UP: ADDR[2:0] is sampled (16 R456), and the power chain latches the all-off pattern (R435). -/
def execAlwaysOnUp (addr : BitVec 3) (s : State) : Host.Outcome State Fault Refusal :=
  .next (if s.rst.alwaysOn || s.rst.off then s
    else (s.modRst fun r => { r with alwaysOn := true, alwaysOnSince := s.now }).modBoard fun b => { b.allOff with addr := addr })

/-- Nominal resistors of Table 14-5, in ohms. (log 50 DEDUCED) -/
def strapOhms : List Nat := [1000, 1500, 2200, 3300, 4700, 6800, 10000, 15000, 22000, 33000, 47000, 68000, 100000, 150000, 220000, 330000]

/-- The code whose band holds a reading: bands run to the geometric mean of neighbours (R432); none outside 820 Ω to 400 kΩ. (log 50 DEDUCED) -/
def strapOf (r : Option Nat) : Option Nat :=
  match r with
  | some v =>
    if within 820 400000 v then some (((List.range 15).filter fun k => decide (strapOhms.getD k 0 * strapOhms.getD (k + 1) 0 ≤ v * v)).length) else none
  | none => none

/-- RSTRAP is measured. -/
def ResetCtl.measure (x : ResetCtl) (r : Option Nat) : ResetCtl :=
  match strapOf r with
  | some k => { x with rstrap := r, strapCode := k, strapInvalid := false }
  | none => { x with rstrap := r, strapCode := 13, strapInvalid := true }

/-- 256 periods of the 25 MHz reference, in cycles (R427). -/
def stepGap : Nat := 2560

/-- A step is released at `now`, and complete at `done`; the next one begins 256 reference periods later (R427). -/
def ResetCtl.release (x : ResetCtl) (done step : Nat) : ResetCtl :=
  { x with released := x.released ||| BitVec.ofNat 12 (2 ^ (step - 1)), stepWaits := false, nextStep := step + 1, stepAt := done + stepGap }

/-- Longest time from step 2's release to the lock of every core PLL, in cycles (Table 14-4). -/
def lockMax : Nat := 150 * cyclesPerUs

/-- A step other than 1 and 4 is released in cycle `at_`: step 2 completes when every core PLL reports lock, the others at once (R427). (log 182 DEDUCED) -/
def State.releaseStep (s : State) (at_ : Nat) : State :=
  if s.rst.nextStep = 2 then let d := s.draw; d.2.modRst fun x => x.release (at_ + d.1 % (lockMax + 1)) 2
  else s.modRst fun x => x.release at_ x.nextStep

/-- The boot source of a strap code is none. -/
def strapHeld (k : Nat) : Bool := decide (13 ≤ k)

/-- Step 4: the options load; a parity failure restarts the loading once (R430, R431). -/
def State.loadOptions (s : State) (rstrap : Option Nat) (fuseOk : Bool) : State :=
  let s := if s.rst.cause = 0x01 then s else s.modRst fun r => r.measure rstrap
  if fuseOk then s.modRst fun r => { r.release s.now 4 with bootState := if strapHeld r.strapCode then .held else .booting }
  else if !s.rst.optionRetried then s.modRst fun r => { r with optionRetried := true }
  else (s.modRst fun r => { r with bootState := .failOptions, stepWaits := false, nextStep := 12, stepAt := s.now + stepGap }).attn attnBootFail

/-- DOMAIN_RELEASE: the step due next, 256 reference periods after the one before. (log 48 DEDUCED) -/
def execDomainRelease (clockGood : Bool) (rstrap : Option Nat) (fuseParityOk : Bool) (s : State) : Host.Outcome State Fault Refusal :=
  let r := s.rst
  .next (if r.off || !r.alwaysOn || decide (12 < r.nextStep) || r.stepWaits || decide (s.now < r.stepAt) then s
    else if !clockGood then
      (s.modRst fun x => { x with deferred := x.deferred ||| BitVec.ofNat 12 (2 ^ (x.nextStep - 1)), stepWaits := true }).attn attnDeferred
    else if r.nextStep = 4 then s.loadOptions rstrap fuseParityOk
    else if r.nextStep = 1 then s.modRst fun x => (x.measure rstrap).release s.now 1
    else s.releaseStep s.now)

/-- CLOCK_GOOD: a deferred release follows in the next cycle, that of a step which measures or loads with its DOMAIN_RELEASE; or a unit's
(R428, R434). (log 182 DEDUCED) -/
def execClockGood (unit : Option (Nat × Nat)) (s : State) : Host.Outcome State Fault Refusal :=
  .next (match unit with
    | none =>
      if !s.rst.stepWaits then s
      else if s.rst.nextStep = 1 || s.rst.nextStep = 4 then s.modRst fun x => { x with stepWaits := false }
      else s.releaseStep (s.now + 1)
    | some (k, i) => if s.rst.unitsWaiting.contains (k, i) then s.unitClock k i else s)

/-! ResetCause (Table 14-3). -/

/-- BOOT_STATE as it reads: a core reset changes no register but CAUSE (00 R8), so that RUNNING stands while the cluster boots again. (log 149 DEDUCED) -/
def ResetCtl.shownState (r : ResetCtl) : BootState := if r.coreReset && r.bootState == .booting then .running else r.bootState

def State.resetCause (s : State) : Word :=
  let r := s.rst
  mkWord [(39, 36, r.strapCode), (35, 35, b2n r.strapInvalid), (34, 32, r.shownState.code), (31, 20, r.released.toNat), (19, 8, r.deferred.toNat), (7, 0, r.cause.toNat)]

/-! The host link (11 R326, R327). -/

/-- RESET of the Door 0 side (12 R365, 11 R326): its queues empty; a message being taken is finished for Phokel alone. (log 73 DEDUCED) -/
def State.emptyDoor0 (s : State) : State :=
  let s := (List.range 3).foldl (fun (s : State) k => let n := s.note 0 k; s.setNote 0 k { Note.reset k with thresh := n.thresh }) s
  s.modMail fun m =>
    { m with taking := match m.taking with
               | some t => if t.door = 0 then (if t.words.length < headerLen t.header then none else some { t with mute := true }) else some t
               | none => none
             inflight := m.inflight.map fun i => if i.door = 0 then { i with mute := true } else i }

end Sys2Proof.Machine
end

