-- ==== Sys2Proof/Machine/Power.lean ====
section
/-! DEFINITION. The energy ledger, the power states, the power cap and the thermal limit (10_energy_ledger.md; 17_electrical_and_package.md
R485; 12 Table 12-11). -/
namespace Sys2Proof.Machine

/-! The ledger's computation (R301, R303). -/

/-- SEAL_RATE in MB/s: 8000 per member drive until a commissioning run has measured it (Table 10-3). -/
def State.sealRate (s : State) : Nat := s.ledger.sealRate.getD (8000 * s.ring.members.length)

/-- C: the measured capacitance where it is smaller and not zero (R303). -/
def Ledger.cap (l : Ledger) : Nat := if l.capMeasUf != 0 && decide (l.capMeasUf < l.capUf) then l.capMeasUf else l.capUf

/-- P_SEAL in mW. (log 56 DEDUCED) -/
def Ledger.pSeal (l : Ledger) : Nat := (l.devSealMw + l.boardSealMw) * 1000 / l.etaPm

/-- A quantity of 40 bits. (log 56 DEDUCED) -/
def sat40 (n : Nat) : Nat := min (2 ^ 40 - 1) n

/-- V_FLOOR in 0.1 µV. -/
def Ledger.floor (l : Ledger) : Nat := l.vFloorMv * 10000

/-- E_AVAIL in µJ for a bus voltage in 0.1 µV. -/
def Ledger.availAt (l : Ledger) (v : Nat) : Nat := if v ≤ l.floor then 0 else l.cap * (v * v - l.floor * l.floor) / (2 * 10 ^ 14)

/-- E_USE from E_AVAIL. -/
def Ledger.useOf (l : Ledger) (avail : Nat) : Nat := avail * (100 - l.marginPct) / 100

/-- E_NEED for U bytes; none where SEAL_RATE is 0 (notes/assumptions/56). (log 56 DEDUCED) -/
def Ledger.needOf (l : Ledger) (rate u : Nat) : Option Nat :=
  if u = 0 then some l.eShutUj else if rate = 0 then none else some (ceilDiv (l.pSeal * u) (rate * 1000) + l.eShutUj)

/-- ALLOW; none where P_SEAL is 0 (notes/assumptions/56). (log 56 DEDUCED) -/
def Ledger.allowOf (l : Ledger) (use rate : Nat) : Option Nat :=
  if l.capUf = 0 || l.vFloorMv = 0 || l.senseScale = 0 || use ≤ l.eShutUj then some 0
  else if l.pSeal = 0 then none else some ((use - l.eShutUj) * rate * 1000 / l.pSeal)

/-- A value, or one that is left open. -/
def State.orDraw (s : State) (v : Option Nat) : Nat × State := match v with | some n => (n, s) | none => let d := s.draw; (d.1, d.2)

/-- LEDGER_CFG has given the ledger its parameters. -/
def Ledger.configured (l : Ledger) : Bool := l.capUf != 0

/-! Reductions under the power cap and the thermal limit (R312, R313; 17 R485). -/

/-- Steps of a list that name a context. -/
def stepCount (l : List Nat) (c : Nat) : Nat := (l.filter fun x => x == c).length

/-- Pixel rates of the bound contexts under a list of steps: halvings, and none from the fourth step on. -/
def State.admitted (s : State) (steps : List Nat) : List Nat :=
  s.bound.map fun c =>
    let k := stepCount steps c
    if 4 ≤ k then 0 else ({ s.loadOf c with halvings := max k (s.ctx c).plannedReduction } : Load).rate.floor.toNat

/-- The rows of 17 Table 17-4: the maximum figure in mW, and the admitted loads that scale it: trained ports, pixel rates of the contexts,
pixel rates of the Accords, bytes to the host, streams, drives of the ring (R312; 17 R483). (log 41 DESIGN CHOICE) -/
def State.planBlocks (s : State) (steps : List Nat) : List (Nat × List Nat) :=
  let rates := s.admitted steps
  let ports := [((List.range s.variant.ports).filter fun n => (s.port n).running).length]
  [(9100, ports), (1200, ports), (13200, rates), (2000, s.accords.map fun x => (s.accordLoad x.1).floor.toNat), (4000, rates), (5600, rates),
    (5000, [s.hostSum.floor.toNat]), (1500, [(s.bb.streams.filter fun x => x.2.inUse.enable).length]), (1800, []), (1000, [s.ring.members.length]), (600, [])]

/-- The planned draw under a list of steps, in 0.1 W: each block's maximum scaled by its loads, and the leakage, 11 W at most, at the
present junction temperature (R312; 17 R483). (log 41 DESIGN CHOICE) -/
def State.plannedFor (s : State) (steps : List Nat) : Nat :=
  let blocks := (s.planBlocks steps).zipIdx.map fun b => b.1.1 * min 1000 (Config.blockShare b.2 b.1.2) / 1000
  ceilDiv (sumNat blocks + min 11000 (Config.leakage s.board.temp)) 100

/-- The context that the next step of a list takes: bulk first, highest number first; never a safety context. (log 68 DEDUCED) -/
def State.nextStep (s : State) (steps : List Nat) : Option Nat :=
  (s.byClassDown (s.bound.filter fun c => (s.ctx c).bind.cls != 0 && decide (stepCount steps c < 4))).head?

/-- Steps added until the plan fits under a cap; none where it cannot. -/
def State.fitCap : Nat → State → Nat → List Nat → Option (List Nat)
  | 0, _, _, _ => none
  | n + 1, s, cap, steps =>
    if cap = 0 || s.plannedFor steps ≤ cap then some steps
    else match s.nextStep steps with
      | some c => State.fitCap n s cap (steps ++ [c])
      | none => none

/-- The contexts take the larger of the two reductions; each from its next frame start (R312, R314). -/
def State.applySteps (s : State) : State :=
  s.bound.foldl (fun (s : State) c =>
    let k := max (stepCount s.ledger.capSteps c) (stepCount s.ledger.thermalSteps c)
    s.modCtx c fun x => if Due.planned x.capDue x.capReduction = k then x else { x with capDue := some (Due.accept s.now x.capDue k) }) s

/-- The steps that stand: those of the cap and of the thermal limit. -/
def State.stepsNow (s : State) : List Nat :=
  s.bound.flatMap fun c => List.replicate (max (stepCount s.ledger.capSteps c) (stepCount s.ledger.thermalSteps c)) c

/-- Planned draw as it stands. -/
def State.planNow (s : State) : State := s.modLedger fun l => { l with planDw := min 4095 (s.plannedFor s.stepsNow) }

/-- Change the steps of the cap. -/
def State.setCapSteps (s : State) (steps : List Nat) : State :=
  (s.modLedger fun l => { l with capSteps := steps, capSince := s.now }).applySteps.planNow

/-- One further step under the cap, if one remains. -/
def State.oneStep (s : State) : State :=
  match s.nextStep s.ledger.capSteps with
  | some c => s.setCapSteps (s.ledger.capSteps ++ [c])
  | none => s

/-- A port's camera streams, or stops, as its contexts' steps ask (R312): an EPOCH_MAP of Phokel's own and an epoch mark, and the port's own
map afterwards (notes/assumptions/57). (log 57 DEDUCED) -/
def State.stepStream (s : State) (n : Nat) : State :=
  let p := s.port n
  let cs := s.portCtxs n
  let stop := !cs.isEmpty && cs.all fun x => decide (4 ≤ min (s.ctx x.1).capReduction (Due.planned (s.ctx x.1).capDue (s.ctx x.1).capReduction))
  match p.mapDue with
  | some t =>
    if s.now < t then s
    else match p.epochMap with
      | none => s.modPort n fun p => { p with mapDue := none }
      | some e =>
        if !p.running then s
        else match s.bcCommand n 5 [BitVec.ofNat 8 e] with
          | some (_, s) => s.modPort n fun p => { p with mapDue := none }
          | none => s
  | none =>
    if stop == p.streamStopped || !p.running || p.bondPos != 0 then s
    else match s.bcCommand n 5 [if stop then 8 else 2] with
      | none => s
      | some (_, s) =>
        (s.planMark n s.tu.epoch (s.dtNs + 1000000)).2.modPort n fun p => { p with streamStopped := stop, mapDue := some (s.now + 2 * cyclesPerMs) }

/-- Step 4 of the reductions for every port (R312). (log 57 DEDUCED) -/
def State.stepStreams (s : State) : State := (s.ports.map fun x => x.1).foldl (fun (s : State) n => s.stepStream n) s

/-- POWER_CAP. -/
def execPowerCap (m : Msg) (s : State) : Host.Outcome State Fault Refusal :=
  let cap := fld (m.w 0) 39 28
  .next (mailRun 0x604 permitRB m s false (lenIs m 1 && zeroFld (m.w 0) 27 0) fun s =>
    match s.fitCap (4 * s.bound.length + 1) cap s.ledger.capSteps with
    | none => .done .noResource [] s
    | some steps =>
      let raised := cap == 0 || (s.ledger.capDw != 0 && decide (s.ledger.capDw < cap))
      let s := s.modLedger fun l => { l with capDw := cap, capUndo := raised && !l.capSteps.isEmpty }
      let s := (if steps = s.ledger.capSteps then s else s.setCapSteps steps).planNow
      .done .ok [BitVec.ofNat 40 s.ledger.planDw] s)

/-- POWER_CAP_CHECK: the draw averaged over 1 s passes the cap by more than 5 % (R313). -/
def execPowerCapCheck (meanMw : Nat) (s : State) : Host.Outcome State Fault Refusal :=
  .next (if s.ledger.capDw = 0 || s.ledger.pstate != .run || s.phokelStops || decide (meanMw ≤ s.ledger.capDw * 105) then s
    else (s.oneStep.modLedger fun l => { l with capUndo := false }).raise evPower 7)

/-- POWER_CAP_UNDO: the newest step, one every 100 ms, while the plan fits without it (R312). -/
def execPowerCapUndo (s : State) : Host.Outcome State Fault Refusal :=
  let l := s.ledger
  .next (if !l.capUndo || decide (s.now < l.capSince + 100 * cyclesPerMs) || s.phokelStops || l.pstate == .hold then s
    else
      let steps := l.capSteps.dropLast
      if l.capSteps.isEmpty || (l.capDw != 0 && decide (l.capDw < s.plannedFor steps)) then s.modLedger fun l => { l with capUndo := false }
      else s.setCapSteps steps)

/-- THERMAL_SAMPLE (17 Table 17-6). (log 90 DEDUCED) -/
def execThermalSample (temp : Int) (s : State) : Host.Outcome State Fault Refusal :=
  let b := s.board
  let s := s.modBoard fun b => { b with temp := temp, thermalWarn := decide (110 ≤ temp) || (b.thermalWarn && decide (107 < temp))
                                        thermalLimit := decide (115 ≤ temp) || (b.thermalLimit && decide (112 < temp)) }
  let s := if s.board.thermalWarn && !b.thermalWarn then (s.raise evThermal 1).attn attnThermal else s
  let s := if s.board.thermalLimit && !b.thermalLimit then (s.raise evThermal 2).attn attnThermal else s
  .next (if 125 ≤ temp then s.systemCause 4 else s)

/-- THERMAL_STEP: a step while the limit is set, the newest undone while it is clear; one every 100 ms. (log 68 DEDUCED) -/
def execThermalStep (s : State) : Host.Outcome State Fault Refusal :=
  let l := s.ledger
  let change := fun (steps : List Nat) => (s.modLedger fun l => { l with thermalSteps := steps, thermalSince := s.now }).applySteps.planNow
  .next (if (l.thermalSince != 0 && decide (s.now < l.thermalSince + 100 * cyclesPerMs)) || s.phokelStops || l.pstate != .run then s
    else if s.board.thermalLimit then (match s.nextStep l.thermalSteps with | some c => change (l.thermalSteps ++ [c]) | none => s)
    else if l.thermalSteps.isEmpty then s else change l.thermalSteps.dropLast)

/-! LEDGER_COMPUTE (R301, R303 to R305). -/

/-- SHORT is set and raised (R305). -/
def State.setShort (s : State) : State := ((s.modLedger fun l => { l with short := true, clearSince := none }).raise evPower 1).attn attnLedger

/-- What the 100 µs computation leaves. (log 144 DEDUCED) -/
def State.compute (s : State) (codes : List (BitVec 12)) (drawMw : Nat) : State :=
  let l := s.ledger
  let means := ((sumNat (codes.map fun c => c.toNat)) * l.senseScale :: l.means).take 10
  let v := minNat means
  let avail := l.availAt v
  let use := l.useOf avail
  let need := s.orDraw (l.needOf s.sealRate s.ring.u)
  let allow := need.2.orDraw (l.allowOf use s.sealRate)
  let s := allow.2.modLedger fun l =>
    { l with means := means, code := (codes.getLast?.map fun c => c.toNat).getD 0, vL := min (2 ^ 20 - 1) (v / 10000), eAvail := sat40 avail, eUse := sat40 use
             eNeed := sat40 need.1, allow := sat40 allow.1, measMw := min 65535 drawMw }
  let s := if s.ledger.allow = l.allow then s else s.ringReask
  let short := s.ledger.configured && decide (s.ledger.eUse < s.ledger.eNeed)
  let s := if short then (if s.ledger.short then s.modLedger fun l => { l with clearSince := none } else s.setShort)
    else if s.ledger.short && s.ledger.clearSince.isNone then s.modLedger fun l => { l with clearSince := some s.now } else s
  let s := s.planNow
  if s.ledger.capDw != 0 && decide (s.ledger.capDw < s.ledger.planDw) && s.ledger.pstate == .run && !s.phokelStops then s.oneStep else s

/-- LEDGER_COMPUTE: one window of ten samples. (log 48 DEDUCED) -/
def execLedgerCompute (codes : List (BitVec 12)) (drawMw : Nat) (s : State) : Host.Outcome State Fault Refusal :=
  if codes.length != 10 then .refused (.illFormed "a window of other than ten samples") else .next (s.compute codes drawMw)

/-- LEDGER_SHORT_CLEAR: E_NEED ≤ E_USE has held for 1 ms. -/
def execLedgerShortClear (s : State) : Host.Outcome State Fault Refusal :=
  .next (match s.ledger.clearSince with
    | some t =>
      if s.ledger.short && decide (t + cyclesPerMs ≤ s.now) then (s.modLedger fun l => { l with short := false, clearSince := none }).raise evPower 1 else s
    | none => s)

/-! The ledger's commands. -/

/-- Ranges of Table 10-3. -/
def ledgerCfgOk (w : Nat → Word) : Bool :=
  within 1 1000000 (fld (w 0) 39 20) && within 500 1000 (fld (w 0) 19 10) && within 10 75 (fld (w 0) 9 3) && zeroFld (w 0) 2 0 &&
    within 1000 100000 (fld (w 1) 39 23) && within 1 65535 (fld (w 1) 22 7) && within 1 50 (fld (w 1) 6 1) && zeroFld (w 1) 0 0 &&
    decide (fld (w 2) 39 20 ≤ 1000000) && decide (fld (w 2) 19 0 ≤ 1000000) && within 10000 10000000 (fld (w 3) 39 16) && within 1 255 (fld (w 3) 15 8) &&
    zeroFld (w 3) 7 0 && within 10 10000 (fld (w 4) 39 26) && zeroFld (w 4) 25 0 && decide (fld (w 1) 39 23 * 1000 < 4095 * fld (w 1) 22 7)

/-- The parameters that a LEDGER_CFG carries. -/
def Ledger.configure (l : Ledger) (w : Nat → Word) : Ledger :=
  { l with capUf := fld (w 0) 39 20, etaPm := fld (w 0) 19 10, marginPct := fld (w 0) 9 3, vFloorMv := fld (w 1) 39 23, senseScale := fld (w 1) 22 7
           capTolPct := fld (w 1) 6 1, boardSealMw := fld (w 2) 39 20, boardRunMw := fld (w 2) 19 0, eShutUj := fld (w 3) 39 16, pfFilter := fld (w 3) 15 8
           holdExit := fld (w 4) 39 26 }

/-- The check of R308: a DEGRADED result is kept, and raised once; the result of HOLD goes to the log, and so to the log tail, whatever it
is. (log 66 DEDUCED) -/
def State.checkCap (s : State) (inHold : Bool) : State :=
  if s.ledger.fails && !s.ledger.degraded then s.degrade inHold
  else if inHold then s.logHw evPower 3 (s.ledger.capEntry true)
  else s

def execLedgerCfg (m : Msg) (s : State) : Host.Outcome State Fault Refusal :=
  .next (mailRun 0x600 permitRLB m s false (lenIs m 5 && ledgerCfgOk m.w) fun s => okNext ((s.modLedger fun l => l.configure m.w).checkCap false))

/-- w6 to w8 of LEDGER_STATUS. -/
def State.commissionWords (s : State) : List Word :=
  [mkWord [(39, 20, s.ledger.devSealMw), (19, 0, s.sealRate)], mkWord [(39, 20, s.ledger.capMeasUf)]]

def execLedgerStatus (m : Msg) (s : State) : Host.Outcome State Fault Refusal :=
  .next (mailRun 0x602 permitRLHB m s false (lenIs m 0) fun s =>
    .done .ok ((List.range 6).map s.ledgerWord ++ s.commissionWords ++ [BitVec.ofNat 40 s.ledger.eUse]) s)

/-- Every drive of the formation is there: none is lost. (log 68 DEDUCED) -/
def State.fullFormation (s : State) : Bool := !s.ring.members.isEmpty && (List.range s.variant.drives).all fun d => (s.ring.drive d).state != .lost

/-- Step 1 of the rehearsal (R306). -/
def State.beginRehearsal (s : State) : State := s.modLedger fun l => { l with commission := some (.grow (min (s.ring.unsealedMax / 2) s.allowance) s.now) }

/-- The newest window mean, in mV (R301, R307). -/
def Ledger.meanMv (l : Ledger) : Nat := l.means.headD 0 / 10000

/-- A GPIO has FUNC HOLDUP_TEST (16 Table 16-2). -/
def State.holdupGpio (s : State) : Bool := s.board.gpio.any fun x => x.2.func == 3

def execLedgerCommission (m : Msg) (s : State) : Host.Outcome State Fault Refusal :=
  .next (mailRun 0x601 permitR m s false (lenIs m 0) fun s =>
    if s.ring.state != .run || !s.fullFormation then .done .state [] s
    else if s.ledger.commission.isSome then .done .busy [] s
    else .wait .ledgerCommission
      (if s.holdupGpio then (s.modLedger fun l => { l with commission := some (.capTest s.now l.meanMv) }).modBoard fun b => { b with holdupTest := true }
       else s.beginRehearsal))

/-- A capacitance test begun in a cycle with V_1 ends now: after 2 ms, or as soon as a window mean lies more than 5 % below V_1 (R307). (log 66 DEDUCED) -/
def State.capTestOver (s : State) (start v1 : Nat) : Bool :=
  decide (start + 2 * cyclesPerMs ≤ s.now) || decide (s.ledger.meanMv * 100 < v1 * 95)

/-- CAP_TEST_END (R307): the window means in mV, the time run in µs. Where the test does not end now with these, there is no such
happening. (log 66 DEDUCED) -/
def execCapTestEnd (us drawMw v1 v2 : Nat) (s : State) : Host.Outcome State Fault Refusal :=
  .next (match s.ledger.commission with
    | some (.capTest start v) =>
      if !s.capTestOver start v || v1 != v || v2 != s.ledger.meanMv || us != (s.now - start) / cyclesPerUs then s
      else
      let l := s.ledger
      let c := s.orDraw (if v1 ≤ v2 then none else some (2 * (drawMw + l.boardRunMw) * 1000 * us * 1000 / (l.etaPm * (v1 * v1 - v2 * v2))))
      let s := (c.2.modLedger fun l => { l with capMeasUf := min 1048575 c.1 }).modBoard fun b => { b with holdupTest := false }
      let s := if s.ledger.fails then s.checkCap false else s.modLedger fun l => { l with degraded := false }
      s.beginRehearsal
    | _ => s)

/-- The backlog that step 2 seals from now on: the full segments that the writer has held open (R306). (log 66 DEDUCED) -/
def State.backlog (s : State) : Commission :=
  let gs := s.ring.segments.filter fun g => g.full && !g.sealed
  .seal (sumNat (gs.map fun g => g.used)) (gs.map fun g => g.ssn) s.now

/-- REHEARSAL_LEVEL_REACHED: the backlog is sealed from here on. -/
def execRehearsalLevelReached (s : State) : Host.Outcome State Fault Refusal :=
  .next (match s.ledger.commission with
    | some (.grow level _) => if level ≤ s.ring.u then s.modLedger fun l => { l with commission := some s.backlog } else s
    | _ => s)

/-- The segments of a backlog are sealed (R306). (log 66 DEDUCED) -/
def State.backlogSealed (s : State) (ssns : List Nat) : Bool := s.ring.segments.all fun g => g.sealed || !ssns.contains g.ssn

/-- The commissioning values go to the configuration area of the boot flash (R306; 13 R402). -/
def State.storeCommission (s : State) : State :=
  s.modSec fun x => { x with commissionStored := some (s.ledger.devSealMw, s.sealRate, s.ledger.capMeasUf) }

/-- REHEARSAL_SEAL_DONE: the backlog is sealed. SEAL_RATE in bytes per µs, DEV_SEAL_MW with 3 % added; both go to the boot flash (R306). -/
def execRehearsalSealDone (us drawMw : Nat) (s : State) : Host.Outcome State Fault Refusal :=
  .next (match s.ledger.commission with
    | some (.seal bytes ssns start) =>
      if !s.backlogSealed ssns || us != (s.now - start) / cyclesPerUs then s
      else
      let rate := s.orDraw (if us = 0 then none else some (bytes / us))
      let s := rate.2.modLedger fun l =>
        { l with commission := none, commissioned := true, sealRate := some (min 1048575 rate.1), devSealMw := min 1048575 (drawMw * 103 / 100) }
      (s.storeCommission.raise evPower 2).finishWait .ledgerCommission .ok s.commissionWords
    | _ => s)

/-- REHEARSAL_TIMEOUT: step 1 has not reached its level within 1 s. (log 66 DEDUCED) -/
def execRehearsalTimeout (s : State) : Host.Outcome State Fault Refusal :=
  .next (match s.ledger.commission with
    | some (.grow level start) =>
      if s.ring.u < level && decide (start + cyclesPerS ≤ s.now) then (s.modLedger fun l => { l with commission := none }).finishWait .ledgerCommission .state
      else s
    | _ => s)

/-! LOW (R298 to R300). -/

/-- A commissioning run is given up: it changes nothing. -/
def State.dropCommission (s : State) : State :=
  ((s.modLedger fun l => { l with commission := none }).modBoard fun b => { b with holdupTest := false }).finishWait .ledgerCommission .state

/-- Every camera supply is switched off. (log 118 DEDUCED) -/
def State.suppliesOff (s : State) : State :=
  (List.range s.variant.ports).foldl (fun (s : State) k => s.modSupply k fun x => { x with want := false }) s

/-- Every group's member 0. -/
def State.heads (s : State) : List Nat := (List.range s.variant.ports).filter fun n => (s.port n).bondPos == 0

/-- What waits for a port's supply completes with STATE, and no recovery or power cycle goes on. (log 63 DEDUCED) -/
def State.dropPower (s : State) : State :=
  let s := s.finishAll (fun i => match i.wait with | .portPower _ _ => true | _ => false) .state
  s.modPorts (s.ports.map fun x => x.1) fun p => { p with cycleEnd := none, recovering := 0 }

/-- The ring stops for LOW (R298): a RING_START that still recovers is given up. (log 63 DEDUCED) -/
def State.ringToLow (s : State) : State :=
  match s.ring.state with
  | .run | .noDrive => s.ringHalt
  | .recovering => (s.modRing fun r => { r with state := .stopped }.dropStart).finishWait .ringStart .state
  | _ => s

/-- Entry to LOW begins. (log 63 DEDUCED) -/
def State.beginLow (s : State) (wake : List Nat) : State :=
  let ports := (s.heads.filter fun n => s.powered n).map fun n => (n, (s.port n).running || (s.port n).training.isSome)
  let s := s.modLedger fun l => { l with enteringLow := true, wakeEvents := wake, lowPorts := ports }
  let s := if s.ledger.commission.isSome then s.dropCommission else s
  let s := s.ringToLow.dropPower
  let s := s.heads.foldl (fun (s : State) n => s.portOff n .state) s
  let s := s.suppliesOff
  (List.range 4).foldl (fun (s : State) p => if (s.bbp p).link then s.bbDown p else s) s

/-- A DMA channel has a descriptor in progress. -/
def State.dmaBusy (s : State) : Bool :=
  (List.range 32).any fun e => !(s.engine e).halted && (!(s.engine e).readbacks.isEmpty ||
    (List.range 32).any fun ch => (s.chan e ch).inFlight && (s.chan e ch).state == .active)

/-- Every unit that stops in LOW has stopped: Facets and the engines that serve them, the ring, the supplies (R298). (log 63 DEDUCED) -/
def State.lowReached (s : State) : Bool :=
  (s.bound.all fun c => (s.ctx c).frames.isEmpty && (s.ctx c).statsDue.isEmpty) && !s.dmaBusy && s.ring.closedSpans.isEmpty && (s.ring.nvme ++ s.ring.nvmeWait).isEmpty && s.ring.span.isNone &&
    (List.range s.variant.ports).all fun k => !(s.supply k).latched

/-- LOW is entered once everything has stopped (R298). -/
def State.stepLow (s : State) : State :=
  if s.ledger.enteringLow && s.ledger.pstate == .run && !s.phokelStops && s.lowReached then
    ((s.modLedger fun l => { l with pstate := .low, enteringLow := false }).raise evPower 5).finishWait .powerLow .ok
  else s

/-- WAKE_EVENTS as a POWER_STATE carries them. -/
def wakeList (m : Msg) : List Nat :=
  ([fld (m.w 1) 39 28, fld (m.w 1) 27 16, fld (m.w 1) 15 4, fld (m.w 2) 39 28, fld (m.w 2) 27 16, fld (m.w 2) 15 4]).take (fld (m.w 0) 37 35)

/-- The payload of a POWER_STATE, TARGET apart: reserved bits zero, at most six events. -/
def powerStateOk (m : Msg) : Bool :=
  lenIs m 3 && decide (fld (m.w 0) 37 35 ≤ 6) && zeroFld (m.w 0) 34 0 && zeroFld (m.w 1) 3 0 && zeroFld (m.w 2) 3 0

/-- TARGET of a POWER_STATE. -/
def powerTarget (m : Msg) : Nat := fld (m.w 0) 39 38

/-- POWER_STATE with TARGET LOW; TARGET 2 or 3 is refused as an argument. -/
def execPowerStateLow (m : Msg) (s : State) : Host.Outcome State Fault Refusal :=
  if powerTarget m = 0 then .refused (.illFormed "POWER_STATE with TARGET RUN")
  else
    .next (mailRun 0x603 permitRLB m s false (powerTarget m == 1 && powerStateOk m) fun s =>
      if s.ledger.pstate = .low then okNext (s.modLedger fun l => { l with wakeEvents := wakeList m })
      else if s.ledger.enteringLow then .done .busy [] s
      else .wait .powerLow (s.beginLow (wakeList m)))

/-- Exit from LOW (R300): supplies on, ports to train as they come up. -/
def State.wakeUp (s : State) : State :=
  let ports := s.ledger.lowPorts
  let s := (s.modLedger fun l => { l with pstate := .run, lowPorts := [] }).raise evPower 6
  ports.foldl (fun (s : State) x =>
    let s := (s.group x.1).foldl (fun (s : State) k => s.modSupply k fun y => { y with want := true }) s
    s.modPort x.1 fun p => { p with trainDue := x.2 }) s

/-- POWER_STATE with TARGET RUN. (log 64 DEDUCED) -/
def execPowerStateRun (m : Msg) (s : State) : Host.Outcome State Fault Refusal :=
  if powerTarget m != 0 then .refused (.illFormed "POWER_STATE with another TARGET than RUN")
  else
    .next (mailRun 0x603 permitRLB m s false (powerStateOk m) fun s =>
      if s.ledger.pstate = .low then okNext s.wakeUp else if s.ledger.enteringLow then .done .busy [] s else okNext s)

/-- LOW_WAKE: an event that WAKE_EVENTS names, or an address match at the two-wire target (R297). (log 64 DEDUCED) -/
def execLowWake (event : Option (BitVec 12)) (s : State) : Host.Outcome State Fault Refusal :=
  let named := match event with | some e => s.ledger.wakeEvents.contains e.toNat | none => true
  .next (if s.ledger.pstate = .low && named then s.wakeUp else s)

/-! HOLD (R308 to R311; 09 R290). -/

/-- The lines of a frame's coding output that have been staged when HOLD cuts its record: those that have formed for good, of each plane its
offset in the payload and its bytes (R290). (log 58 DEDUCED, 146 DEDUCED) -/
def State.codingStaged (s : State) (c : Nat) (f : Frame) : Nat × List (Nat × List Byte) :=
  let x := s.ctx c
  let r := f.inUse x.bind 1
  let pic := f.picture x.bind
  let n := if f.formed.getD 1 false then s.hostRows c 1 f r (cropRows r pic.1.length) else 0
  if n = 0 then (0, [])
  else
    let rows := scaledRows 1 f.params r (x.out 1).coefH (f.staged x pic.1)
    let planes := packPlanes r.format (deliverRows 1 f.params r ((List.range n).map fun k => verticalRow r (x.out 1).coefV rows k))
    let line := formatLine r.format r.outW
    let first := (bandBase r.orient r.outH 0 n).2
    (n, ((planes.zip (formatPlanes r.format r.outH)).foldl (fun acc p =>
      (acc.1 ++ [(acc.2 + first * p.2 / max 1 r.outH * line, p.1.flatten)], acc.2 + p.2 * line)) (([] : List (Nat × List Byte)), 0)).1)

/-- The TAG block of a record that HOLD cuts, with the lines that it holds. (log 58 DEDUCED) -/
def State.cutTag (s : State) (o : OpenRec) (lines : Nat) : List Word :=
  let x := s.ctx o.context
  let b := x.bind
  match x.frame? o.frame with
  | none => List.replicate 16 0
  | some f =>
    let r := f.inUse b 1
    let t : TagFacts :=
      { kind := if o.raw then 2 else 1, format := if o.raw then 0xB else r.format, context := o.context, port := b.port, vc := b.vc, frameNo := o.frame
        capture := s.capture f, first := (f.stamps.head?.map fun t => t.travel).getD 0, last := (f.stamps.getLast?.map fun t => t.travel).getD 0
        exposure := f.exposure, gain := f.gain, flags := f.flags, linesIn := f.lines, crc := ~~~o.crc, ring := s.ringPlace o.context o.frame
        width := if o.raw then b.width else r.outW, height := min 65535 lines, payload := o.offset, outStamp := s.stamp }
    t.block 2 (x.out 1).dropsRing

/-- One open record is completed with the lines already staged, its pieces marked HOLD_CUT, and gets a TAG piece (R290). (log 58 DEDUCED, 114 DEDUCED) -/
def State.cutRecord (s : State) (o : OpenRec) : State :=
  match (s.ctx o.context).frame? o.frame with
  | none => let x := s.recFlush o true; x.2.recEnd x.1 (x.2.cutTag x.1 0) true
  | some f =>
    if o.raw then
      let x := s.recFlush o true
      x.2.recEnd x.1 (x.2.cutTag x.1 f.lines) true
    else
      let staged := s.codingStaged o.context f
      let x := staged.2.zipIdx.foldl (fun (x : OpenRec × State) p =>
        let o := { x.1 with offset := p.1.1, buf := p.1.2, crc := crcOver x.1.crc p.1.2, capture := some (s.capture f) }
        x.2.recPut o true (decide (p.2 + 1 = staged.2.length))) (o, s)
      let x := x.2.recAnchor x.1
      x.2.recEnd x.1 (x.2.cutTag x.1 staged.1) true

/-- The ring on entry to HOLD: records, LOG piece, segment and span (09 R290); a recovery is given up. -/
def State.ringToHold (s : State) : State :=
  match s.ring.state with
  | .recovering => s.modRing fun r => { r with state := .stopped }.dropStart
  | _ => (s.ring.openRecs.foldl (fun (s : State) o => s.cutRecord o) s).closeSpan 3 none

/-- Messages that HOLD does not end: barriers and fences complete, and restarts and flash operations go on. (log 65 DEDUCED) -/
def Inflight.outlivesHold (i : Inflight) : Bool :=
  match i.wait with
  | .barrier _ | .fence | .fwActivate | .coreReset | .flash => true
  | _ => false

/-- HOLD is entered: steps 1 and 2 of Table 10-4, and the beginning of step 3. (log 65 DEDUCED, 114 DEDUCED, 156 DESIGN CHOICE) -/
def State.enterHold (s : State) : State :=
  let s := ((s.modLedger fun l =>
    { l with pstate := .hold, enteringLow := false, commission := none, sealDone := false, tailSent := false, holdStart := some (s.ledger.vL, s.ring.u, s.now) }).raise evPower 4).attn attnHold
  let s := (s.closeScopes fun _ => true).modSec fun x => { x with heldOpening := none }
  let s := s.modBoard fun b => { b with holdupTest := false }
  let s := s.finishAll (fun i => !i.outlivesHold) .state
  let s := s.ringToHold
  let s := s.heads.foldl (fun (s : State) n => s.portOff n .state) s
  let s := s.dropPower.suppliesOff
  let s := (List.range 5).foldl (fun (s : State) p => if s.variant.hasBb p && (s.bbp p).link then s.bbDown p else s) s
  s.sessionsClose fun _ => true

/-- HOLD_ENTER: PFAIL_N has been low for PF_FILTER. -/
def execHoldEnter (lowUs : Nat) (s : State) : Host.Outcome State Fault Refusal :=
  .next (if lowUs < s.ledger.pfFilter || s.ledger.pstate == .hold || !s.rst.alwaysOn || s.rst.off then s else s.enterHold)

/-- The HOLD measurement (R308): P_SEAL as the load while U was sealed. (log 66 DEDUCED, 114 DEDUCED) -/
def State.holdMeasure (s : State) : State :=
  match s.ledger.holdStart with
  | none => s
  | some (v1, u, t) =>
    let v2 := s.ledger.vL
    if u = 0 || v1 ≤ v2 || !s.ledger.configured then s
    else
      let us := (s.now - t) / cyclesPerUs
      (s.modLedger fun l => { l with capMeasUf := min 1048575 (2 * l.pSeal * us * 1000 / (v1 * v1 - v2 * v2)), holdStart := none }).checkCap true

/-- The log tail: entries since the snapshot, those still queued included, 16 bytes each; the last 4096 fill it (09 R267, R290). (log 67 DEDUCED) -/
def State.tailBytes (s : State) : List Byte :=
  let n := min 4096 (s.log.written - s.ring.snapshot)
  let held := (List.range n).map fun i => bankGet (fun _ => (0 : BitVec 128)) s.log.entries ((s.log.next + 4096 - n + i) % 4096)
  let all := held ++ s.log.queue.map fun e => e.bits
  (all.drop (all.length - 4096)).flatMap fun e => bytesLE 16 e.toNat

/-- Reads of Engines 29 and 31 that the seal still waits for: a LOG piece, a span record. -/
def State.sealReads (s : State) : Bool :=
  [29, 31].any fun e => (s.engine e).readbacks.any fun r => match r.kind with | .logPiece _ | .spanRecord _ => true | _ => false

/-- Everything that R290 seals lies on the drives. -/
def State.sealed (s : State) : Bool :=
  s.ring.members.isEmpty ||
  (s.ring.closedSpans.isEmpty && s.ring.span.isNone && !s.sealReads && (s.ring.nvme ++ s.ring.nvmeWait).all fun c => c.op == .read)

/-- Drives that get the log tail: the members, or those present where there is none (R290, 10 R309). -/
def State.tailDrives (s : State) : List Nat := if s.ring.members.isEmpty then s.readyDrives else s.ring.members

/-- Step 4 of Table 10-4: the HOLD measurement, and the log tail to LBA 2 of every drive (09 R267, R290, R308). (log 67 DEDUCED) -/
def State.sealTail (s : State) : State :=
  if s.ledger.pstate != .hold || s.ledger.tailSent || !s.sealed then s
  else
    let s := (s.holdMeasure).modLedger fun l => { l with tailSent := true }
    if s.tailDrives.isEmpty then s
    else
      let tail := s.tailBytes
      let data := tail ++ zeros (ceilDiv tail.length 4096 * 4096 - tail.length)
      s.modRing fun r => (s.tailDrives.foldl (fun (r : Ring) d => r.submitWrites s.now d .logTail 2 data) { r with logTail := tail })

/-- SEAL_DONE (R309): sealing and the log tail are complete; then what was deferred (14 R422). -/
def execSealDone (s : State) : Host.Outcome State Fault Refusal :=
  let s := s.sealTail
  .next (if s.ledger.pstate != .hold || s.ledger.sealDone || !s.ledger.tailSent || !s.sealed then s
    else
      let s := s.modRing fun r => { r with state := if r.state == .run || r.state == .noDrive then .sealed else r.state }
      let s := (s.modLedger fun l => { l with sealDone := true }).attn attnSealDone
      match s.rst.deferredCause with
      | some c => s.resetOrWait c
      | none => s)

/-- HOLD_EXIT (R310). -/
def execHoldExit (highMs : Nat) (s : State) : Host.Outcome State Fault Refusal :=
  .next (if s.ledger.pstate = .hold && s.ledger.sealDone && decide (s.ledger.holdExit ≤ highMs) then s.resetOrWait 0x06 else s)

/-- What Phokel and the ledger see to in a cycle. -/
def State.stepPower (s : State) : State := (if s.phokelStops then s else s.stepStreams.stepLow).sealTail

end Sys2Proof.Machine
end

