-- ==== Sys2Proof/Machine/Board.lean ====
section
/-! DEFINITION. The two-wire target, the board door and the camera power chain (16_board_interfaces.md R456 to R470, R474). -/
namespace Sys2Proof.Machine

/-! The two-wire target. -/

/-- The strap selects policy QUIET (14 Table 14-5). (log 69 DEDUCED) -/
def ResetCtl.quiet (x : ResetCtl) : Bool := [1, 3, 5, 7, 9, 15].contains x.strapCode

/-- The always-on domain runs. -/
def State.aon (s : State) : Bool := s.rst.alwaysOn && !s.rst.off

/-- The domain of a pointer's register is served (Table 16-1). -/
def ResetCtl.serves (x : ResetCtl) (p : Nat) : Bool :=
  if p = 0x00 || within 0x08 0x0D p then x.released.getLsbD 3 else if within 0x18 0x1F p then x.released.getLsbD 4 else true

/-- The target's own address. -/
def Board.address (b : Board) : Nat := 0x58 + b.addr.toNat

/-- BoardStatus (Table 16-2). -/
def State.boardStatus (s : State) : Word :=
  mkWord [(39, 37, s.ledger.pstate.code), (36, 34, s.rst.shownState.code), (33, 32, s.sec.lifecycle.code), (31, 31, b2n s.ledger.sealDone),
    (30, 30, b2n s.board.attnPending), (29, 29, b2n s.board.chainErr), (28, 21, (s.board.temp % 256).toNat)]

/-- The register that a pointer selects (Table 16-1); a pointer that is not listed reads as 0 (R459). -/
def State.twWord (s : State) (p : Nat) : Word :=
  let b := s.board
  if p = 0x00 then s.chipId else if p = 0x01 then s.resetCause else if p = 0x02 then s.boardStatus else if p = 0x03 then b.attn
  else if p = 0x04 then b.twCfg else if within 0x08 0x0D p then s.ledgerWord (p - 0x08)
  else if p = 0x10 then b.pwrFault0 else if p = 0x11 then b.pwrFault1 else if p = 0x12 then b.pwrFault2
  else if within 0x1B 0x1D p then (s.note 2 (p - 0x1B)).count
  else if p = 0x1E then mkWord [(39, 32, b.respWords.length), (31, 24, b.respLens.length)]
  else if p = 0x1F then b.respWords.headD 0
  else if within 0x20 0x2F p then (s.gpio (p - 0x20)).cfg
  else if p = 0x30 then BitVec.ofNat 40 (maskOf ((List.range 16).filter fun i => (s.gpio i).level))
  else 0

/-- The register pointed at is fetched from its domain (R461): what a read of it then returns. -/
def State.twFetch (s : State) : State := s.modBoard fun b => { b with twRead := s.twWord b.pointer.toNat }

/-- A FILTER written takes effect when the transaction that wrote it is over (R463). (log 69 DEDUCED) -/
def Board.settleFilter (b : Board) : Board :=
  match b.filterPending with
  | some f => { b with twCfg := setFld b.twCfg 39 35 f, filterPending := none }
  | none => b

/-- TW_ADDRESS_MATCH (R456, R457, R461, R462). A match in LOW wakes the device under either policy. (log 64 DEDUCED, 179 DEDUCED) -/
def execTwAddressMatch (addr : BitVec 7) (pointer : Option Byte) (s : State) : Host.Outcome State Fault Refusal :=
  let s0 := s.modBoard fun b => { b.settleFilter with twOpen := false, twAck := false }
  .next (if !s.aon || s.scanOpen then s
    else if addr.toNat != s.board.address || decide (s.now < s.rst.alwaysOnSince + 60 * cyclesPerUs) then s0
    else
      let s1 := if s.ledger.pstate = .low then s0.wakeUp else s0
      match pointer with
      | none => (s1.modBoard fun b => { b with twOpen := true, twAck := true }).twFetch
      | some p =>
        if s.rst.serves p.toNat then (s1.modBoard fun b => { b with twOpen := true, twAck := true, pointer := p }).twFetch
        else s1.modBoard fun b => { b with twOpen := true })

/-- Reserved fields of a two-wire register (R9, Tables 16-2, 12-2, 10-6, 0-2). -/
def twReserved (p : Nat) : List (Nat × Nat) :=
  if p = 0x00 then [(7, 0)] else if p = 0x02 then [(20, 0)] else if p = 0x03 then [(29, 0)] else if p = 0x04 then [(34, 34), (23, 0)]
  else if p = 0x08 then [(13, 0)] else if p = 0x09 then [(7, 0)] else if p = 0x12 then [(39, 16)] else if within 0x1B 0x1D p then [(17, 0)]
  else if p = 0x1E then [(23, 0)] else if within 0x20 0x2F p then [(24, 0)] else if p = 0x30 then [(39, 16)] else []

/-- A value that Gpio[i].Cfg may take: a listed FUNC, and one HOLDUP_TEST at most (R474). -/
def State.gpioOk (s : State) (i : Nat) (w : Word) : Bool :=
  decide (fld w 39 37 ≤ 4) && (fld w 39 37 != 3 || (List.range 16).all fun k => k == i || (s.gpio k).func != 3)

/-- A push to Door 2: the fifth byte is not acknowledged where the queue refuses the word (R461, 12 R360). (log 183 DEDUCED) -/
def State.twPush (s : State) (note : Nat) (w : Word) : State :=
  let before := (s.note 2 note).refused
  let s := if s.queueUp 2 then s.push 2 note w 0 else s
  s.modBoard fun b => { b with twAck := (s.note 2 note).refused == before }

/-- Fresh bits of a PwrFault register. -/
def Board.pwrFresh (b : Board) (k : Nat) : Fresh := b.pwrNew.getD k { cycle := 0, bits := 0 }

/-- Ones written to PwrFault registers clear their bits. -/
def Board.clearFault (b : Board) (now k : Nat) (w : Word) : Board :=
  let clear := (b.pwrFresh k).clear now
  match k with
  | 0 => { b with pwrFault0 := clear b.pwrFault0 w }
  | 1 => { b with pwrFault1 := clear b.pwrFault1 w }
  | _ => { b with pwrFault2 := clear b.pwrFault2 w }

/-- A whole register write takes effect; none where it carries a reserved value (R458, R9). -/
def State.twStore (s : State) (p : Nat) (w : Word) : Option State :=
  if !((twReserved p).all fun x => zeroFld w x.1 x.2) then none
  else if p = 0x03 then some (s.modBoard fun b => { b with attn := b.attnNew.clear s.now b.attn w })
  else if p = 0x04 then some (s.modBoard fun b => { b with twCfg := setFld b.twCfg 33 24 (fld w 33 24), filterPending := some (fld w 39 35) })
  else if within 0x10 0x12 p then some (s.modBoard fun b => b.clearFault s.now (p - 0x10) w)
  else if within 0x18 0x1A p then some (s.twPush (p - 0x18) w)
  else if within 0x20 0x2F p then if s.gpioOk (p - 0x20) w then some (s.setGpio (p - 0x20) ((s.gpio (p - 0x20)).write s.now w)) else none
  else some s

/-- Pushes and BoardResp.Data keep the pointer (R457). -/
def pointerStays (p : Nat) : Bool := within 0x18 0x1A p || p == 0x1F

/-- After the fifth byte of a register. -/
def Board.pointerOn (b : Board) : Board := if pointerStays b.pointer.toNat then b else { b with pointer := b.pointer + 1 }

/-- A refused write raises REG_RESERVED_WRITE; DATA, an offset in BAR0 for other writes, is open (notes/assumptions/59). (log 59 DESIGN CHOICE) -/
def State.twRefused (s : State) : State := let d := s.draw; d.2.raise evRegs 1 d.1

/-- TW_REGISTER_WRITE: five data bytes for the register pointed at. -/
def execTwRegisterWrite (w : Word) (s : State) : Host.Outcome State Fault Refusal :=
  .next (if !s.aon || s.scanOpen || !s.board.twOpen || !s.board.twAck then s
    else
      let s' := match s.twStore s.board.pointer.toNat w with | some t => t | none => s.twRefused
      (s'.modBoard Board.pointerOn).twFetch)

/-! The board response buffer (R467). -/

/-- The oldest word leaves; a response of which a word has gone is no longer whole. -/
def Board.popResp (b : Board) : Board :=
  match b.respWords with
  | [] => { b with twRead := 0 }
  | w :: r => { b with respWords := r, twRead := w, respLens := if b.respWords.length = sumNat b.respLens then b.respLens.drop 1 else b.respLens }

/-- BOARD_RESP_DATA_READ: the fifth byte of BoardResp.Data has gone out; 0 when the buffer is empty. -/
def execBoardRespDataRead (s : State) : Host.Outcome State Fault Refusal :=
  .next (if !s.aon || s.scanOpen || !s.board.twOpen || s.board.pointer.toNat != 0x1F then s else s.modBoard Board.popResp)

/-- Held responses are placed in order while there is room. -/
def State.placeHeld : Nat → State → State
  | 0, s => s
  | n + 1, s =>
    match s.board.respHeld with
    | w :: r => if s.board.respRoom w then State.placeHeld n ((s.modBoard fun b => { b with respHeld := r }).boardPlace w) else s
    | [] => s

/-- BOARD_RESP_PLACE. (log 184 DEDUCED) -/
def execBoardRespPlace (s : State) : Host.Outcome State Fault Refusal := .next (if s.phokelStops then s else s.placeHeld s.board.respHeld.length)

/-- TW_STUCK_BUS: 25 ms of a low line within a transaction. -/
def execTwStuckBus (s : State) : Host.Outcome State Fault Refusal := .next (if s.board.twOpen then s.modBoard fun b => { b with twOpen := false } else s)

/-! Attention (R464). -/

/-- ATTN_REQUEST: the bus has been idle for 100 µs; a request cut short by SCL is tried again. -/
def execAttnRequest (sclFell : Bool) (s : State) : Host.Outcome State Fault Refusal :=
  let due := match s.board.attnAt with | some t => decide (t + 100 * cyclesPerMs ≤ s.now) | none => true
  .next (if !s.aon || s.rst.quiet || !s.board.attnPending || !due then s
    else if sclFell then s.modBoard fun b => { b with attnAt := none }
    else s.modBoard fun b => { b with attnAt := some s.now, attnCount := b.attnCount + 1 })

/-! The camera power chain (R468 to R470). -/

/-- Markers read 1, 0. -/
def chainGood (samples : BitVec 98) : Bool := samples.getLsbD 0 && !samples.getLsbD 1

/-- Chain errors: two bad frames in a row set CHAIN_ERR, sixteen good ones clear it. -/
def State.chainCheck (s : State) (good : Bool) : State :=
  let b := s.board
  let bad := if good then 0 else b.badRun + 1
  let ok := if good then b.goodRun + 1 else 0
  let err := if 2 ≤ bad then true else if 16 ≤ ok then false else b.chainErr
  let s := s.modBoard fun b => { b with badRun := min 2 bad, goodRun := min 16 ok, chainErr := err }
  if err && !b.chainErr then s.attn attnChainErr else s

/-- The flag of a port reads 0 in a frame that meets the conditions of R470. -/
def State.chainSuspect (s : State) (samples : BitVec 98) (k : Nat) : Bool :=
  let x := s.supply k
  chainGood samples && !samples.getLsbD (2 + k) && x.latched && decide (x.onSince + 5 * cyclesPerMs < s.now)

/-- The chain's switches take the pattern that the frame carried. -/
def Supply.latch (x : Supply) (now : Nat) (suspect : Bool) : Supply :=
  { x with latched := x.want, onSince := if x.want && !x.latched then now else x.onSince, suspect := suspect }

/-- Set the PwrFault bit of a port (Table 16-2). -/
def Board.setFault (b : Board) (now k : Nat) : Board :=
  let m : Word := BitVec.ofNat 40 (2 ^ (k % 40))
  let b := { b with pwrNew := b.pwrNew.set (k / 40) ((b.pwrFresh (k / 40)).add now m) }
  match k / 40 with
  | 0 => { b with pwrFault0 := b.pwrFault0 ||| m }
  | 1 => { b with pwrFault1 := b.pwrFault1 ||| m }
  | _ => { b with pwrFault2 := b.pwrFault2 ||| m }

/-- A port sets OFF as for a loss (15 R450): no retraining. -/
def State.lossOff (s : State) (n : Nat) : State :=
  if (s.port n).state = .off then s
  else ((s.modPort n fun p => { p with lineEvents := bump p.lineEvents 39 24, lastFail := 6 }).raise (evPort n) 0x04).portOff n .fault

/-- A confirmed fault (R470, 15 R450). (log 70 DEDUCED) -/
def State.supplyFault (s : State) (k : Nat) : State :=
  let h := s.head k
  let s := (s.modBoard fun b => b.setFault s.now k).attn attnPwrFault
  let s := (s.group h).foldl (fun (s : State) j => s.modSupply j fun x => { x with want := false }) s
  let s := (s.lossOff h).logCamPower h 3 0
  let s := s.modPort h fun p => { p with recovering := 0, cycleEnd := none, trainDue := false }
  let s := s.finishAll (fun i => match i.wait with | .portPower j _ => j == h | _ => false) .fault
  s.finishWait (.unitReadmit 3 h) .fault

/-- PORT_POWER and UNIT_DRAIN complete once the chain has latched what they ask for; ports that wait for their supply train. (log 70 DEDUCED) -/
def State.chainDone (s : State) (n : Nat) : State :=
  let p := s.port n
  let on := s.powered n
  let off := s.unpowered n
  let s := if p.cycleEnd.isSome then s
    else (s.mail.inflight.filter fun i => match i.wait with | .portPower j a => j == n && (if a = 0 then off else on) | _ => false).foldl
      (fun (s : State) i => s.finishWait i.wait .ok) s
  let s := if off && p.drainBy.isNone && (s.inflight? fun i => i.wait == .unitDrain 3 n).isSome then (s.logUnitState 3 n).finishWait (.unitDrain 3 n) .ok else s
  let readmit := (s.inflight? fun i => i.wait == .unitReadmit 3 n).isSome && p.state == .off && p.training.isNone
  if on && p.cycleEnd.isNone && (p.trainDue || p.recovering == 1 || readmit) then
    (s.modPort n fun p => { p with trainDue := false, recovering := if p.recovering = 1 then 2 else p.recovering }).train n
  else s

/-- POWER_CHAIN_FRAME: bit k of `samples` is sample k. The frame carries the pattern commanded when it began. (log 179 DEDUCED) -/
def execPowerChainFrame (samples : BitVec 98) (s : State) : Host.Outcome State Fault Refusal :=
  .next (if !s.aon || s.scanOpen then s
    else
      let ports := List.range s.variant.ports
      let suspects := ports.filter fun k => s.chainSuspect samples k
      let faults := suspects.filter fun k => (s.supply k).suspect
      let s := s.chainCheck (chainGood samples)
      let s := ports.foldl (fun (s : State) k => s.modSupply k fun x => x.latch s.now (suspects.contains k)) s
      let s := s.modBoard fun b => { b with pattern := BitVec.ofNat 96 (maskOf (ports.filter fun k => (s.supply k).latched)) }
      let s := faults.foldl (fun (s : State) k => s.supplyFault k) s
      if s.phokelStops then s else s.heads.foldl (fun (s : State) n => s.chainDone n) s)

end Sys2Proof.Machine
end

