-- ==== Sys2Proof/Machine/Canvas.lean ====
section
/-! DEFINITION. Canvas frames of the Accords (07_outputs_and_accord.md R223 to R229, R231, R232; 01_architecture.md R39). -/
namespace Sys2Proof.Machine

/-! The canvas record in force as its fields (Table 7-5). -/

structure CanvasRec where
  enable : Bool
  format : Nat
  csc : Nat
  timing : Nat
  lockSrc : Nat
  overlayEn : Bool
  host : Bool
  backbone : Bool
  showBackground : Bool
  staleFrames : Nat
  width : Nat
  height : Nat
  period : Nat
  phase : Nat
  background : Nat × Nat × Nat
  deriving DecidableEq, Repr

def canvasRec (w : List Word) : CanvasRec :=
  { enable := bit (pw w 0) 39, format := fld (pw w 0) 38 35, csc := fld (pw w 0) 34 31, timing := fld (pw w 0) 30 29
    lockSrc := fld (pw w 0) 28 25, overlayEn := bit (pw w 0) 24, host := bit (pw w 0) 23, backbone := bit (pw w 0) 22
    showBackground := bit (pw w 0) 21, staleFrames := fld (pw w 0) 20 13, width := fld (pw w 1) 39 27, height := fld (pw w 1) 26 15
    period := fld (pw w 2) 39 4, phase := fld (pw w 3) 39 8, background := (fld (pw w 4) 39 30, fld (pw w 4) 29 20, fld (pw w 4) 19 10) }

/-! Sampling and coverage (R225, R226). -/

/-- A source as composition reads it. -/
structure Layer where
  dstX : Nat
  dstY : Nat
  dstW : Nat
  dstH : Nat
  alpha : Nat
  feather : Nat
  mesh : List Word
  frame : SourceFrame
  /-- Lines read poisoned, and the frame before (01 R39). -/
  poisoned : List Nat
  prev : Option SourceFrame
  /-- Stale and shown as background. -/
  blank : Bool
  deriving DecidableEq, Repr

/-- A mesh node: uncovered, or U and V in 1/16 source pixel. -/
def meshNode (mesh : List Word) (i j : Nat) : Option (Int × Int) :=
  let w := pw mesh (33 * j + i)
  if fld w 39 20 = 0x80000 then none else some (sfld w 39 20, sfld w 19 0)

/-- (U, V) at a canvas pixel, in source pixels, where its cell is covered. -/
def Layer.uv (l : Layer) (x y : Int) : Option (Rat × Rat) :=
  let px : Rat := (2 * (x - l.dstX) + 1 : Int) * 16 / (max 1 l.dstW : Nat)
  let py : Rat := (2 * (y - l.dstY) + 1 : Int) * 16 / (max 1 l.dstH : Nat)
  if px < 0 || py < 0 || (32 : Rat) ≤ px || (32 : Rat) ≤ py then none
  else
    let i := (ratFloor px).toNat
    let j := (ratFloor py).toNat
    let fx := px - (i : Rat)
    let fy := py - (j : Rat)
    match meshNode l.mesh i j, meshNode l.mesh (i + 1) j, meshNode l.mesh i (j + 1), meshNode l.mesh (i + 1) (j + 1) with
    | some a, some b, some c, some d =>
      let mix := fun (a b c d : Int) => ((a : Rat) * (1 - fx) + (b : Rat) * fx) * (1 - fy) + ((c : Rat) * (1 - fx) + (d : Rat) * fx) * fy
      some (mix a.1 b.1 c.1 d.1 / 16, mix a.2 b.2 c.2 d.2 / 16)
    | _, _, _, _ => none

/-- The pixel is covered: (U, V) lies within the source frame. -/
def Layer.covers (l : Layer) (x y : Int) : Option (Rat × Rat) :=
  match l.uv x y with
  | some p => if 0 ≤ p.1 && 0 ≤ p.2 && p.1 ≤ (((l.frame.width : Int) - 1 : Int) : Rat) && p.2 ≤ (((l.frame.height : Int) - 1 : Int) : Rat) then some p else none
  | none => none

/-- A source pixel in 10-bit R, G, B. A poisoned line is that of the frame before; where it has none, the value is open
(notes/assumptions/16). -/
def Layer.pixel (l : Layer) (x y : Nat) : Nat × Nat × Nat :=
  let from_ := if l.poisoned.contains y then l.prev else some l.frame
  match from_.bind fun f => (f.rows[y]?).bind fun r => (r[x]?).map fun p => (p, f.csc) with
  | none => (Config.openSample 4 x y % 1024, Config.openSample 5 x y % 1024, Config.openSample 6 x y % 1024)
  | some (p, csc) =>
    if csc = 0 then p
    else
      let v := unconvert csc (p.1 * 1024 : Nat) (p.2.1 * 1024 : Nat) (p.2.2 * 1024 : Nat)
      let code := fun (q : Rat) => toCode 10 (sat20 (ratRound q))
      (code v.1, code v.2.1, code v.2.2)

/-- Bilinear sample at (U, V), exact. -/
def Layer.sample (l : Layer) (p : Rat × Rat) : Rat × Rat × Rat :=
  let x := (ratFloor p.1).toNat
  let y := (ratFloor p.2).toNat
  let fx := p.1 - (x : Rat)
  let fy := p.2 - (y : Rat)
  let x1 := min (x + 1) (l.frame.width - 1)
  let y1 := min (y + 1) (l.frame.height - 1)
  let a := l.pixel x y
  let b := l.pixel x1 y
  let c := l.pixel x y1
  let d := l.pixel x1 y1
  let mix := fun (a b c d : Nat) => ((a : Rat) * (1 - fx) + (b : Rat) * fx) * (1 - fy) + ((c : Rat) * (1 - fx) + (d : Rat) * fx) * fy
  (mix a.1 b.1 c.1 d.1, mix a.2.1 b.2.1 c.2.1 d.2.1, mix a.2.2 b.2.2 c.2.2 d.2.2)

/-- Whole pixels to the nearest uncovered pixel of the same source along the row or the column, up to `n`; none beyond. -/
def Layer.edge (l : Layer) (x y : Int) (n : Nat) : Option Nat :=
  ((List.range n).map fun k => k + 1).find? fun d =>
    (l.covers (x - d) y).isNone || (l.covers (x + d) y).isNone || (l.covers x (y - d)).isNone || (l.covers x (y + d)).isNone

/-- a of R226. -/
def Layer.opacity (l : Layer) (x y : Int) : Rat :=
  let ramp : Rat := match l.edge x y l.feather with | some d => (d : Rat) / (l.feather : Nat) | none => 1
  (l.alpha : Rat) / 255 * ramp

/-- out = a × src + (1 − a) × below, rounded. -/
def blend (a : Rat) (src : Rat × Rat × Rat) (below : Nat × Nat × Nat) : Nat × Nat × Nat :=
  let f := fun (s : Rat) (b : Nat) => (ratRound (a * s + (1 - a) * (b : Rat))).toNat
  (f src.1 below.1, f src.2.1 below.2.1, f src.2.2 below.2.2)

def ratPixel (p : Nat × Nat × Nat) : Rat × Rat × Rat := ((p.1 : Rat), (p.2.1 : Rat), (p.2.2 : Rat))

/-- One layer over what lies below. -/
def Layer.over (l : Layer) (background : Nat × Nat × Nat) (x y : Nat) (below : Nat × Nat × Nat) : Nat × Nat × Nat :=
  match l.covers x y with
  | none => below
  | some p => blend (l.opacity x y) (if l.blank then ratPixel background else l.sample p) below

/-- The overlay's pixel, last (R227). -/
def overlayPixel (line : Option (List (BitVec 32))) (x : Nat) (below : Nat × Nat × Nat) : Nat × Nat × Nat :=
  match line with
  | none => below
  | some l =>
    let v := (l.getD x 0).toNat
    let up := fun (v : Nat) => 4 * v + v / 64
    blend (((v / 2 ^ 24 : Nat) : Rat) / 255) (ratPixel (up (v / 2 ^ 16 % 256), up (v / 256 % 256), up (v % 256))) below

/-- The composed canvas, rows of 10-bit R, G, B. -/
def composeCanvas (r : CanvasRec) (layers : List Layer) (overlay : List (Option (List (BitVec 32)))) : List (List (Nat × Nat × Nat)) :=
  (List.range r.height).map fun y => (List.range r.width).map fun x =>
    let p := layers.foldl (fun p (l : Layer) => l.over r.background x y p) r.background
    if r.overlayEn then overlayPixel (overlay.getD y none) x p else p

/-- The canvas in its format: converted by CSC and reduced (R226, R210). -/
def formCanvas (r : CanvasRec) (rows : List (List (Nat × Nat × Nat))) : OutFrame :=
  let px := rows.map fun l => l.map fun p => convert r.csc { r := p.1 * 1024, g := p.2.1 * 1024, b := p.2.2 * 1024 }
  let codes := (subsample r.format px).map fun l => l.map (reducePx 0 [] r.format)
  { width := r.width, height := r.height, full := (r.width, r.height), base := (0, 0), planes := packPlanes r.format codes, stamps := [], codes := [], flags := 0, skipped := 0, omitted := 0
    last := none, lineErrors := 0 }

/-! Starts (R228). -/

/-- Nominal period of the lock source's frames in 1/16 ns; none where its rate is 0. -/
def State.lockPeriod (s : State) (a : Nat) (r : CanvasRec) : Option Int :=
  let c := fld (pw ((s.accord a).lockSource r.lockSrc) 0) 38 31
  let rate := (s.ctx c).bind.outRate (s.planRec c 0)
  if rate ≤ 0 then none else some (ratFloor (16000000000 / rate))

/-- A start that is due: its instant, and whether it is one of a silent lock source. -/
def State.canvasDue (s : State) (a : Nat) : Option (Int × Bool) :=
  let x := s.accord a
  let on := x.state == .run || x.state == .draining || x.state == .off || (x.state == .readmitPending && x.launched)
  let r := canvasRec x.running
  let fresh := x.state == .off && (match x.pending with | some d => d.cycle == s.now | none => false)
  if !on || fresh || !r.enable || s.ledger.pstate != .run || s.ledger.enteringLow then none
  else match r.timing with
    | 0 => let t := x.lastStart + r.period
      if t ≤ s.local16 then some (t, false) else none
    | 1 =>
      let slot := fun (t : Int) => (t - 16 * r.phase).fdiv (max 1 r.period)
      if slot x.lastStart < slot s.dt16 then some (slot s.dt16 * r.period + 16 * r.phase, false) else none
    | _ =>
      match x.dueAt with
      | t :: _ => if t ≤ s.local16 then some (t, false) else none
      | [] =>
        match s.lockPeriod a r with
        | none => none
        | some p => if x.lockAt + r.staleFrames * p ≤ s.local16 && x.lastStart + p ≤ s.local16 then some (s.local16, true) else none

/-- The pending records of an Accord come into force, but for those accepted in this very cycle (R224, R227, R238). -/
def Accord.applyPending (now : Nat) (x : Accord) : Accord :=
  let x := match x.pending with | some d => { x with canvas := (d.ready now).getD x.canvas, pending := d.rest now } | none => x
  let x := match x.overlayPending with
    | some d =>
      let x := match d.ready now with | some (b0, b1, u) => { x with overlay0 := b0, overlay1 := b1, overlayUse := u } | none => x
      { x with overlayPending := d.rest now }
    | none => x
  (List.range 16).foldl (fun (x : Accord) k =>
    let y := x.source k
    match y.pending with
    | some d =>
      x.setSource k (match d.ready now with
        | some w => { y with cfg := w, pending := d.rest now, usedSeq := 0, age := 0, stale := false }
        | none => { y with pending := d.rest now })
    | none => x) x

/-- Enabled slots in stacking order (R226). -/
def Accord.stack (x : Accord) : List Nat :=
  sortByKey (fun k => fld (pw (x.source k).cfg 0) 30 27 * 16 + k) ((List.range 16).filter fun k => bit (pw (x.source k).cfg 0) 39)

/-- The complete source frames that a canvas starting in this cycle can take, newest first: one completed in the very cycle waits (R223). -/
def Context.shownSources (x : Context) (now : Nat) : List SourceFrame := x.sources.filter fun f => decide (f.doneAt < now)

/-- The staleness count of a slot (R229). -/
def State.ageSource (s : State) (a : Nat) (frames : Nat) (k : Nat) : State :=
  let x := (s.accord a).source k
  let seq := match (s.ctx (fld (pw x.cfg 0) 38 31)).shownSources s.now with | f :: _ => f.seq | [] => 0
  if seq != x.usedSeq then s.modAccord a fun y => y.setSource k { x with usedSeq := seq, age := 0, stale := false }
  else
    let age := x.age + 1
    let now := decide (frames ≤ age)
    let s' := s.modAccord a fun y => y.setSource k { x with age := age, stale := now }
    if now && !x.stale then s'.raise (evAccord a) 1 k else s'

/-- The layer of a slot; none where its context has no frame yet or the mesh was never loaded. -/
def State.layer (s : State) (a : Nat) (r : CanvasRec) (poisoned : List (Nat × Nat)) (k : Nat) : Option Layer :=
  let x := (s.accord a).source k
  let c := s.ctx (fld (pw x.cfg 0) 38 31)
  let mesh := if bit (pw x.cfg 0) 10 then x.meshB else x.meshA
  match c.shownSources s.now, mesh with
  | f :: older, some m =>
    some { dstX := fld (pw x.cfg 1) 39 27, dstY := fld (pw x.cfg 1) 26 15, dstW := fld (pw x.cfg 2) 39 27, dstH := fld (pw x.cfg 2) 26 15
           alpha := fld (pw x.cfg 0) 26 19, feather := fld (pw x.cfg 0) 18 11, mesh := m, frame := f, prev := older.head?
           poisoned := (poisoned.filter fun p => p.1 == k).map (fun p => p.2), blank := x.stale && r.showBackground }
  | _, _ => none

/-- Compose and deliver one canvas frame. Each source line read with a poisoned word is replaced, and counted (01 R39). -/
def State.canvasFrame (s : State) (a : Nat) (overlay : List (Option (List (BitVec 32)))) (errors : ReadErrors) : State :=
  let r := canvasRec (s.accord a).canvas
  let slots := (s.accord a).stack
  let s := slots.foldl (fun (s : State) k => s.ageSource a r.staleFrames k) s
  let layers := slots.filterMap fun k => s.layer a r errors.poisoned k
  let bad := sumNat (layers.map fun l => (l.poisoned.eraseDups.filter fun y => decide (y < l.frame.rows.length)).length)
  let s := (List.replicate errors.mended Delivery.mended).foldl (fun (s : State) d => s.delivered 2 d) s
  let s := (List.range bad).foldl (fun (s : State) _ =>
    let s := s.delivered 2 .poisoned
    { s with errors := bankPut (evAccord a) (satAdd 40 ((s.errors.lookup (evAccord a)).getD 0) 1) s.errors }) s
  let late := if r.overlayEn then ((List.range r.height).filter fun y => (overlay.getD y none).isNone).length else 0
  let stale := decide (0 < late) || slots.any fun k => ((s.accord a).source k).stale
  let of := formCanvas r (composeCanvas r layers overlay)
  let used := (layers.filter fun l => !l.blank).map fun l => l.frame
  let oldest := used.foldl (fun (b : Option SourceFrame) f => match b with | some g => if f.capture < g.capture then some f else b | none => some f) none
  let flags := used.foldl (fun (v : BitVec 16) f => v ||| f.flags) ((if stale then flagStale else 0) ||| (if bad = 0 then 0 else flagPoisoned))
  let d0 := s.draw
  let d1 := d0.2.draw
  let d2 := d1.2.draw
  let d3 := d2.2.draw
  let s := d3.2
  let x := s.accord a
  let t : TagFacts :=
    { kind := 3, format := r.format, context := a, port := 0, vc := 0, frameNo := x.frameNo
      capture := match oldest with | some f => f.capture | none => d0.1
      first := match oldest with | some f => f.firstTravel | none => BitVec.ofNat 40 d0.1
      last := BitVec.ofNat 40 d1.1, exposure := d2.1 % 2 ^ 28, gain := 0, flags := flags, linesIn := d3.1 % 65536, crc := of.crc, ring := none
      width := r.width, height := r.height, payload := of.payload r.format 0, outStamp := s.stamp }
  let s := s.modAccord a fun x =>
    { x with frameNo := x.frameNo + 1, late := false, counts := bump (bump x.counts 39 24) 15 0 late }
  let s := if !r.host then s
    else match x.ring with
      | none => s.hostDrop a 3
      | some (e, ch) =>
        let g := s.takeDesc e ch (of.payload r.format 0)
        if g.1 then
          (g.2.giveFrame e ch (fromMemory (of.transfers r.format 0 false)) (t.block 0 x.dropsHost) false).modAccord a fun x => { x with dropsHost := 0 }
        else g.2.hostDrop a 3
  if !r.backbone then s
  else
    let s := s.stageFrames true a r.format r.width r.height t.capture
    let lines := of.planes.flatten
    lines.zipIdx.foldl (fun (s : State) l =>
      s.streamLine true a r.format r.width l.2 l.1 (if l.2 + 1 = lines.length then some (t.block 1 0) else none)) s

/-- CANVAS_FRAME_START. -/
def execCanvasFrameStart (a : Nat) (overlay : List (Option (List (BitVec 32)))) (errors : ReadErrors) (s : State) : Host.Outcome State Fault Refusal :=
  onUnit s.variant.accords a s
    (match s.canvasDue a with
     | none => s
     | some (t, silent) =>
       if (s.accord a).state = .draining then
         ((s.modAccord a fun x => { x with state := .drained }).logUnitState 2 a).finishWait (.unitDrain 2 a) .ok
       else
       let back := (s.accord a).state == .readmitPending
       let was := canvasRec (s.accord a).canvas
       let first := (s.accord a).state != .run
       let s := s.modAccord a fun x => { x with dueAt := if silent then x.dueAt else x.dueAt.drop 1 }
       let s := if silent && !(s.accord a).lockStale then
           (s.modAccord a fun x => { x with lockStale := true }).raise (evAccord a) 1 was.lockSrc
         else s
       let s := s.modAccord a (Accord.applyPending s.now)
       let r := canvasRec (s.accord a).canvas
       if !r.enable then s.modAccord a fun x => { x with state := .off, dueAt := [], frameNo := 0 }
       else
         let same := r.timing = was.timing || first
         let s := s.modAccord a fun x =>
           { x with state := .run, launched := false, frameNo := if first then 0 else x.frameNo
                    lastStart := if same then t else if r.timing = 1 then s.dt16 else s.local16
                    lockAt := if same then x.lockAt else s.local16, dueAt := if same then x.dueAt else [] }
         let s := if back then (s.logUnitState 2 a).finishWait (.unitReadmit 2 a) .ok else s
         (s.streamStart true a).canvasFrame a overlay errors)

/-- ACCORD_LATE: the composition in progress has run past half a period (R228). -/
def execAccordLate (a : Nat) (s : State) : Host.Outcome State Fault Refusal :=
  onUnit s.variant.accords a s
    (let x := s.accord a
     let r := canvasRec x.canvas
     let period := if r.timing = 2 then s.lockPeriod a r else some (r.period : Int)
     let now := if r.timing = 1 then s.dt16 else s.local16
     match period with
     | some p => if x.state == .run && !x.late && x.frameNo != 0 && x.lastStart + p / 2 ≤ now then
         s.modAccord a fun x => { x with late := true, counts := bump x.counts 23 16 }
       else s
     | none => s)

end Sys2Proof.Machine
end

