-- ==== Sys2Proof/Machine/Pattern.lean ====
section
/-! DEFINITION. The test pattern generator of a port (05_ingest_and_contexts.md R169 to R171, Tables 5-5, 5-6, 5-10). -/
namespace Sys2Proof.Machine

/-- Values that PatGen0 may hold. -/
def patGen0Ok (v : Word) : Bool :=
  let dt := fld v 33 28
  (dt == 0x27 || within 0x2A 0x2F dt) && within 64 16384 (fld v 27 13) && zeroFld v 12 0

/-- PATGEN_WRITE: a change of any field waits until no frame of the port is open. -/
def State.patWrite (s : State) (n : Nat) (v : Word) : State :=
  if v = (s.port n).patGen0 then s else s.modPort n fun p => { p with patGen0 := v, patPending := some (v, s.now) }

/-- The byte offset of Port[n].PatGen0 in BAR0 (11 Table 11-2). -/
def patGen0Off (n : Nat) : Nat := 0x100000 + 0x100 * n + 0x40

def execPatgenWrite (n : Nat) (v : Word) (s : State) : Host.Outcome State Fault Refusal :=
  onUnit s.variant.ports n s (if !s.hostRegs then s else if patGen0Ok v then s.patWrite n v else s.regRefused (patGen0Off n) false)

/-- A change of PatGen0 to v applies: blocks that await replay are marked as the generator starts, what the lane has left in the buffer and the partial packet go,
and k restarts at 0; back to OFF in DATA or IDLE, the port takes up its lane again (R170). -/
def State.patApply (s : State) (n : Nat) (v : Word) : State :=
  let p := s.port n
  let l := s.members? n
  let starts := fld v 39 38 != 0 && !p.patterned
  let s := if starts then l.foldl (fun (s : State) k => (s.markAwaiting k).modPort k fun p => { p with packet := none, blocks := [], unplaced := 0 }) s else s
  let resumes := fld v 39 38 == 0 && p.patterned && (p.state == .data || p.state == .idle)
  let s := if resumes then s.modPorts l fun p => { p with resync := true, seekFhp := true, blocks := [], packet := none, unplaced := 0, lockFaults := 0 } else s
  s.modPort n fun p => { p with patPending := none, patGen0Used := v, patK := 0, patY := 0, patNext := (s.time.mono : Rat) }

def execPatgenChangeApply (n : Nat) (s : State) : Host.Outcome State Fault Refusal :=
  onUnit s.variant.ports n s
    (match (s.port n).patPending with
     | some (v, _) => if s.openFrames n then s else s.patApply n v
     | none => s)

/-- PATGEN_CHANGE_TIMEOUT: after 100 ms, open frames close as for a loss. -/
def execPatgenChangeTimeout (n : Nat) (s : State) : Host.Outcome State Fault Refusal :=
  onUnit s.variant.ports n s
    (match (s.port n).patPending with
     | some (v, t) => if t + 100 * cyclesPerMs ≤ s.now then (s.loseFrames n).patApply n v else s
     | none => s)

/-- Bytes of the self-test line of frame k (Table 5-6). -/
def sigLine (k : Nat) : List Byte :=
  (List.range 32).map fun i => match k % 4 with | 0 => 0x00 | 1 => 0xFF | 2 => BitVec.ofNat 8 i | _ => BitVec.ofNat 8 (31 - i)

/-- Sample x of line y of frame k (Table 5-5). -/
def patSample (mode bits value k y x : Nat) : Nat := (if mode = 1 then value else x + y + k) % 2 ^ bits

/-- Bytes of a line: whole pixel groups, completed with samples of value 0 (03 R495). -/
def patLine (w0 : Word) (value k y : Nat) : List Byte :=
  let dt := fld w0 33 28
  let width := fld w0 27 13
  packSamples dt (fun x => if x < width then patSample (fld w0 39 38) (rawBits dt) value k y x else 0) 0 (ceilDiv width (pixelGroup dt).1)

/-- Start of the line after one, at the LINE_RATE in force when that one begins; a generator held up goes on from `now` (R170). -/
def Port.patAfter (p : Port) (now : Nat) : Rat :=
  let step := (unitsPerS : Rat) / ((max 1 (fld p.patGen1 23 4) : Nat) : Rat)
  let next := p.patNext + step
  if next < (now : Rat) then (now : Rat) + step else next

/-- The generator emits its next line, once its time has come, with the frame start before a frame's first and the frame end after its
last. (log 48 DEDUCED) -/
def State.patEmit (s : State) (n : Nat) : State :=
  let p := s.port n
  if !p.patterned || p.bondPos != 0 || s.ledger.pstate != .run || (s.ledger.enteringLow && p.patY == 0) || decide ((((s.time.mono : Int) + s.increment : Int) : Rat) ≤ p.patNext) then s
  else
    let w0 := p.patGen0Used
    let sig := fld w0 39 38 == 3
    let p := if p.patY = 0 then { p with patHeight := if sig then 1 else fld p.patGen1 39 24, patValue := fld p.patGen2 39 16 } else p
    let k := p.patK
    let y := p.patY
    let last := decide (p.patHeight ≤ y + 1)
    let vc := fld w0 37 34
    let dt := if sig then 0x2A else fld w0 33 28
    let bytes := if sig then sigLine k else patLine w0 p.patValue k y
    let s := s.setPort n { p with patNext := p.patAfter s.time.mono, patY := if last then 0 else y + 1, patK := if last then k + 1 else k }
    let s := if y = 0 then s.ingestShort n vc 0 else s
    let s := s.ingestLong n vc dt bytes false (if s.headerRoom n vc dt then .free else .soFar) s.dt (if sig then some k else none)
    if last then s.ingestShort n vc 1 else s

def execPatgenLine (n : Nat) (s : State) : Host.Outcome State Fault Refusal := onUnit s.variant.ports n s (s.patEmit n)

end Sys2Proof.Machine
end

