-- ==== Sys2Proof/Machine/Loops.lean ====
section
/-! DEFINITION. Phokel's exposure and white-balance loops (12_mailbox_and_commands.md R374, R384). The manual gives neither the
control law nor the units of the sensor's registers: what the loops write is open within its bounds (notes/assumptions/35, 37). -/
namespace Sys2Proof.Machine

/-- Halvings of the loops of a class; the list runs bulk, surveillance, operational, safety (R374). -/
def State.halvings (s : State) (cls : Nat) : Nat := s.mail.loopHalvings.getD (3 - cls) 0

/-- Records from one run of a context's loops to the next. -/
def State.loopPeriod (s : State) (c : Nat) : Nat := let x := s.ctx c; (x.loop.div + 1) * 2 ^ s.halvings x.bind.cls

/-- A sensor write of a loop, one register of n bytes, where its port can carry it. (log 37 DESIGN CHOICE) -/
def State.loopWrite (s : State) (c address n v : Nat) : State :=
  let x := s.ctx c
  let p := s.head x.bind.port
  if !(s.port p).running then s
  else match s.bcCommand p 2 (sensorHead (2 * x.loop.target) 2 address ++ bytesBE n v) with
    | some (_, s) => s
    | none => s

/-- Word i of the newest statistics record (06 Table 6-6). -/
def State.recordWord (s : State) (c i : Nat) : Nat :=
  (memRead s.extMem ((Config.statsAddress c (((s.ctx c).statsSeq.toNat + 1) % 2) + i) % s.variant.extWords)).toNat

/-- FRAME_NO of the newest statistics record. -/
def State.newestRecord (s : State) (c : Nat) : Nat := s.recordWord c 1

/-- A validity bit of the record: A_VALID 29, B_VALID 28. -/
def State.recordValid (s : State) (c k : Nat) : Bool := (s.recordWord c 0).testBit k

/-- A sum over the record's zones that meet p: words 1032 + 5z + k. -/
def State.zoneSum (s : State) (c k : Nat) (p : Nat → Bool) : Nat :=
  let w := BitVec.ofNat 40 (s.recordWord c 0)
  sumNat (((List.range (fld w 27 22 * fld w 21 16)).filter p).map fun z => s.recordWord c (1032 + 5 * z + k))

/-- Zone z has no saturated sample. -/
def State.zoneClear (s : State) (c z : Nat) : Bool := s.recordWord c (1032 + 5 * z + 3) == 0

/-- Pixels of the zone window (06 R191). -/
def Context.windowPixels (x : Context) : Nat :=
  let w := paramGet x.inForce 9
  if fld w 39 25 = 0 || fld w 24 9 = 0 then x.bind.width * x.bind.height else fld w 39 25 * fld w 24 9

/-- Mean Y of tap B. (log 37 DESIGN CHOICE) -/
def State.meanY (s : State) (c : Nat) : Nat := s.zoneSum c 4 (fun _ => true) / max 1 (s.ctx c).windowPixels

/-- A value moved toward its target: no lower where the picture is too dark, no higher where it is too bright, and never above its bound. (log 37 DESIGN CHOICE) -/
def aeMove (mean target now aim bound : Nat) : Nat :=
  min bound (if mean < target then max now aim else if target < mean then min now aim else now)

/-- Exposure and gain, from tap B's mean Y toward TARGET_Y, never above EXP_MAX and GAIN_MAX (R384). (log 35 DESIGN CHOICE, 37 DESIGN CHOICE) -/
def State.runAe (s : State) (c : Nat) : State :=
  let k := (s.ctx c).loop
  let t := (s.ctx c).stampCfg
  let now := (s.ctx c).loopSet.getD (t.exposure, 256)
  let y := s.meanY c
  let e := aeMove y k.targetY now.1 (Config.aeAim 0 y k.targetY now.1) (1000 * k.expMax)
  let g := aeMove y k.targetY now.2 (Config.aeAim 1 y k.targetY now.2) k.gainMax
  let s := s.modCtx c fun x => { x with loopSet := some (e, g) }
  (s.loopWrite c k.expAddr k.expBytes (Config.sensorValue 0 t.expScale e)).loopWrite c k.gainAddr k.gainBytes (Config.sensorValue 1 t.gainScale g)

/-- White balance: WB0 to WB3 from tap A's sums over the zones without saturated samples into the shadow, committed AHEAD frames after the
last record (R384). (log 37 DESIGN CHOICE) -/
def State.runAwb (s : State) (c : Nat) : State :=
  let x := s.ctx c
  if x.commitPending || x.unbindPending then s
  else
    let sum := fun (k : Nat) => s.zoneSum c k (s.zoneClear c)
    let gain := fun (i : Nat) => Config.awbGain i (sum 0) (sum 1) (sum 2)
    let sh := writeParams x.shadow 4 [mkWord [(39, 20, gain 0), (19, 0, gain 1)], mkWord [(39, 20, gain 2), (19, 0, gain 3)]]
    let s := s.modCtx c fun x => { x with shadow := sh }
    if (s.ctx c).shadowOk then s.acceptCommit c (some ((s.newestRecord c + x.loop.ahead) % 2 ^ 40))
    else s.modCtx c fun x => { x with result := 4 }

/-- AE_AWB_LOOP: a run is due. At shed level 3 it takes the newest record alone, and those it skips count in STATS_OVER. A
record read with a poisoned word serves no loop (01 R39). (log 122 DESIGN CHOICE) -/
def execAeAwbLoop (run : LoopRun) (s : State) : Host.Outcome State Fault Refusal :=
  onUnit s.variant.contexts run.context s
    (let c := run.context
     let x := s.ctx c
     let n := s.loopPeriod c
     if x.state = .unbound || !(x.loop.aeEn || x.loop.awbEn) || decide (x.loopCount < n) || s.ledger.pstate != .run || s.phokelStops then s
     else
       let newest := s.mail.shed == 3
       let skipped := if newest then x.loopCount / n - 1 else 0
       let s := s.setCtx c { x with loopCount := if newest then x.loopCount % n else x.loopCount - n, pipeCounts := bump x.pipeCounts 3 0 skipped }
       let s := s.delivered 2 run.read
       if run.read = .poisoned then s
       else
         let s := if x.loop.aeEn && s.recordValid c 28 then s.runAe c else s
         if x.loop.awbEn && s.recordValid c 29 then s.runAwb c else s)

/-- The class whose loops slow next: none goes below one eighth, safety below one half. -/
def loopsSlow (l : List Nat) : List Nat :=
  let cap := fun i => if i = 3 then 1 else 3
  let open_ := (List.range 4).filter fun i => decide (l.getD i 0 < cap i)
  match open_ with
  | [] => l
  | a :: r =>
    let i := r.foldl (fun best i => if l.getD i 0 < l.getD best 0 then i else best) a
    setAt l i (l.getD i 0 + 1)

/-- The class whose loops return next: the reverse order. -/
def loopsReturn (l : List Nat) : List Nat :=
  let i := (List.range 4).foldl (fun best i => if l.getD best 0 ≤ l.getD i 0 then i else best) 0
  setAt l i (l.getD i 0 - 1)

/-- Every 20 ms, the loops of one more class slow at level 2 and above, or return below it (R374). -/
def State.stepLoops (s : State) : State :=
  if s.mail.loopSince + 20 * cyclesPerMs ≤ s.now then
    s.modMail fun m => { m with loopHalvings := if 2 ≤ m.shed then loopsSlow m.loopHalvings else loopsReturn m.loopHalvings, loopSince := s.now }
  else s

end Sys2Proof.Machine
end

