-- ==== Sys2Proof/Machine/Cycle.lean ====
section
/-! DEFINITION. The timebase cycle (04_travel_and_time.md R106, R111, R128, R141). -/
namespace Sys2Proof.Machine

/-- A sample of the travel history, where the cycle's interval holds a whole microsecond of Device Time (R141). -/
def State.sampleTravel (s : State) (c : Cyc) : State :=
  let ns := -((-c.t0).fdiv (1000 * fracPerNs)) * 1000
  if ns * fracPerNs < c.t1 then
    s.modTravel fun t =>
      { t with history := ({ t := ns * fracPerNs, v := c.travelAt ns, degraded := t.state == .degraded } :: t.history).take 65536 }
  else s

/-- PPS_OUT and SYNC_OUT (R111, R145): a whole second in the interval raises PPS_OUT; what has lasted its width falls. -/
def State.stepOutputs (s : State) (c : Cyc) (l1 : Nat) : State :=
  let sec := -((-c.t0).fdiv (1000000000 * fracPerNs)) * 1000000000
  let s := s.modTime fun t =>
    let t := match t.ppsOutUntil with | some u => if u ≤ l1 then { t with ppsOutUntil := none } else t | none => t
    if t.ppsOutEn && decide (sec * fracPerNs < c.t1) then
      { t with ppsOutUntil := some (((sec * fracPerNs : Int) - t.stepSum).toNat + 1000 * t.ppsOutWidth * fracPerNs) }
    else t
  match s.tu.syncHigh with
  | some u => if (u : Int) ≤ c.endNs then { s with tu := { s.tu with syncHigh := none } } else s
  | none => s

/-- Step 2 of Table 4-1: Device Time, travel and phase advance, their jumps applied. -/
def State.stepQuantities (s : State) (inc : Int) : Cyc × State :=
  let l0 := s.time.mono
  let l1 := ((l0 : Int) + inc).toNat
  let tOld := s.dt
  let s := s.timeJumps
  let t0 := s.dt
  let f := s.fuse l1
  let xOld := s.tu.travel.tr
  let rising := match s.tu.travel.recent with | x :: _ => decide (x.2 < xOld) | [] => false
  let s := s.travelJumps (s.engineMoves f l1)
  let x0 := s.tu.travel.tr
  let s := (s.advanceTravel f l0 l1).modTravel fun t => { t with recent := ((l0, x0) :: t.recent).take recentDepth }
  let x1 := s.tu.travel.tr
  let ph := s.tu.phase
  let p0 := ph.jump.phase
  let pOld := if nextPeriod ph.phase - 1 ≤ ph.phase then p0 else ph.phase
  let ph := ph.jump.advance l0 l1
  ({ tOld := tOld, t0 := t0, t1 := t0 + inc, rising := rising, xOld := xOld, x0 := x0, x1 := x1, speed := s.tu.travel.speed, pOld := pOld, p0 := p0, p1 := ph.phase },
   s.modPhase fun _ => ph)

/-- TIMEBASE_CYCLE: the cycle in progress is judged in the order of Table 4-1, and the next one begins. (log 47 DESIGN CHOICE, 78 DEDUCED) -/
def State.cycle (s : State) : State :=
  let s := s.stepLines.stepSkips
  let inc := s.increment
  let r := s.stepQuantities inc
  let c := r.1
  let l1 := ((s.time.mono : Int) + inc).toNat
  let s := (r.2.sampleTravel c).stepOutputs c l1
  let s := ((s.stepGates c).stepCues c).stepStrobes c.endNs.toNat
  let s := s.stepStreamRecords.stepLoops.planTriggers.stepBackChannels.stepService.stepHalts.stepShed.stepPower.stepClocks.stepWatch.stepFuses
  let s := { s.rcFold with log := s.log.drain, router := { s.router with oldRoutes := [] } }
  (s.modTime fun t => { t with mono := l1, cycle := t.cycle + 1 }).stepBindings

def execTimebaseCycle (s : State) : Host.Outcome State Fault Refusal := .next s.cycle

end Sys2Proof.Machine
end

