-- ==== Sys2Proof/Machine/Registers.lean ====
section
/-! DEFINITION. BAR0: which register lies where (11_host_link_and_dma.md R319 to R322, Table 11-2), what each reads as, what a read
clears (00_scope.md R10), and what a write may store (R9). -/
namespace Sys2Proof.Machine

/-- Instance and slot of an offset in a block of `count` instances, `slots` slots each. -/
def blockAt (base stride count slots off : Nat) : Option (Nat × Nat) :=
  if base ≤ off && decide ((off - base) / stride < count) && decide ((off - base) % stride / 8 < slots) then
    some ((off - base) / stride, (off - base) % stride / 8)
  else none

/-- A register of the System block. -/
def systemReg (off : Nat) : Option Reg :=
  match off / 8 with
  | 0 => some .chipId | 1 => some .resetCause | 2 => some .timeNowLo | 3 => some .timeNowHi | 4 => some .timeStatus
  | 5 => some .travelNow | 6 => some .travelStatus | 7 => some .linkStatus | 16 => some .eventRaise | 17 => some .regFault | 36 => some .syncCounts
  | k =>
    if within 8 15 k then some (.recRing ((k - 8) / 4) ((k - 8) % 4))
    else if within 32 35 k then some (.axisCounts (k - 32))
    else if within 256 287 k then some (.strobe (k - 256)) else none

/-- The registers of a context and its outputs. -/
def contextReg (c rest : Nat) : Option Reg :=
  if rest < 0x70 then some (.ctx c (rest / 8)) else (blockAt 0x100 0x80 3 10 rest).map fun x => .out c x.1 x.2

def checkReg (c rest : Nat) : Option Reg :=
  if rest < 0x18 then some (.check c (rest / 8)) else (blockAt 0x80 8 16 1 rest).map fun x => .expected c x.1

def accordReg (a rest : Nat) : Option Reg :=
  if rest < 0x38 then some (.accord a (rest / 8)) else (blockAt 0x100 0x20 16 3 rest).map fun x => .source a x.1 x.2

def ringReg (v : Variant) (rest : Nat) : Option Reg :=
  if rest < 0x28 then some (.ring (rest / 8))
  else match blockAt 0x100 8 8 1 rest with
    | some x => some (.trig x.1)
    | none => (blockAt 0x800 8 v.contexts 1 rest).map fun x => .plan x.1

def engineReg (e rest : Nat) : Option Reg :=
  if rest < 0x18 then some (.engine e (rest / 8)) else (blockAt 0x1000 0x40 32 8 rest).map fun x => .chan e x.1 x.2

/-- First of the options that holds. -/
def orElse (a b : Option Reg) : Option Reg := match a with | some r => some r | none => b

/-- The register of an offset; none where Table 11-2 assigns nothing, or the instance is fused off (R4, R320). -/
def regAt (v : Variant) (off : Nat) : Option Reg :=
  let off := off / 8 * 8
  let inst := fun (base stride count : Nat) => if base ≤ off && decide ((off - base) / stride < count) then some ((off - base) / stride, (off - base) % stride) else none
  if off < 0x100000 then systemReg off
  else if off < 0x200000 then (blockAt 0x100000 0x100 v.ports 12 off).map fun x => .port x.1 x.2
  else if off < 0x300000 then (inst 0x200000 0x400 v.contexts).bind fun x => contextReg x.1 x.2
  else if off < 0x310000 then (blockAt 0x300000 0x40 v.facets 3 off).map fun x => .facet x.1 x.2
  else if off < 0x320000 then (inst 0x310000 0x100 32).bind fun x => checkReg x.1 x.2
  else if off < 0x330000 then (inst 0x320000 0x1000 v.accords).bind fun x => accordReg x.1 x.2
  else if off < 0x340000 then (blockAt 0x330000 0x40 5 3 off).bind fun x => if v.hasBb x.1 then some (.bb x.1 x.2) else none
  else if off < 0x350000 then (blockAt 0x340000 0x80 64 12 off).map fun x => .stream x.1 x.2
  else if off < 0x351000 then ringReg v (off - 0x350000)
  else if off < 0x360000 then (blockAt 0x351000 0x40 v.drives 2 off).map fun x => .drive x.1 x.2
  else if off < 0x400000 then (blockAt 0x360000 0x40 1 6 off).map fun x => .ledger x.2
  else if off < 0x500000 then (inst 0x400000 0x2000 32).bind fun x => engineReg x.1 x.2
  else orElse ((blockAt 0x500000 8 4096 1 off).map fun x => .route x.1) ((blockAt 0x508000 8 256 1 off).map fun x => .vector x.1)

/-! Values of status registers. -/

/-- Port[n].RxStatus (03 Table 3-12). -/
def Port.rxStatus (p : Port) : Word :=
  mkWord [(39, 38, p.bond), (37, 36, p.bondPos), (35, 35, b2n p.wordLock), (34, 34, b2n (p.blocks.any fun b => b.deadline.isSome)),
    (31, 20, p.nextBsn), (19, 0, p.frameCount)]

/-- Port[n].IngestFill (05 Table 5-9). (log 75 DEDUCED) -/
def State.ingestFill (s : State) (n : Nat) : Word :=
  let fill := s.ringFill n
  mkWord [(39, 22, fill), (21, 4, (s.port n).peak)]

def State.portWord (s : State) (n k : Nat) : Word :=
  let p := s.port n
  match k with
  | 0 => p.lineStatus | 1 => p.lineEvents | 2 => p.rxStatus | 3 => p.rxCounts | 4 => p.trigCfg | 5 => p.ingestCounts
  | 6 => s.ingestFill n | 7 => mkWord [(39, 32, p.lineSigSeq), (31, 0, p.lineSigCrc.toNat)]
  | 8 => p.patGen0 | 9 => p.patGen1 | 10 => p.patGen2 | _ => p.hdrCounts

/-- STATE of Context[c].State (05 Table 5-7). -/
def Context.stateCode (x : Context) : Nat :=
  match x.state with
  | .unbound => 0 | .waitStart => 1
  | .inFrame => if x.movePending.isSome then 4 else 2
  | .between => if x.movePending.isSome then 4 else 3

/-- Context[c].State. -/
def Context.stateWord (x : Context) : Word :=
  mkWord [(39, 37, x.stateCode), (36, 36, b2n x.shedNow), (35, 35, b2n x.victim), (34, 34, b2n x.rateHigh), (33, 18, min 65535 x.lines), (17, 0, x.pend)]

/-- Context[c].Commit1 (06 Table 6-12). -/
def Context.commit1 (x : Context) : Word :=
  mkWord [(39, 39, b2n x.commitPending), (38, 38, b2n x.atFrame), (37, 35, x.result), (34, 34, fld (paramGet x.inForce 1) 39 39),
    (33, 33, fld (paramGet x.inForce 1) 38 38)]

def Context.word (x : Context) (k : Nat) : Word :=
  match k with
  | 0 => x.bind0 | 1 => x.bind1 | 2 => x.bind2 | 3 => x.bind3 | 4 => x.stateWord | 5 => BitVec.ofNat 40 x.frameNo | 6 => x.counts0
  | 7 => x.counts1 | 8 => x.target | 9 => x.commit1 | 10 => x.paramFrame | 11 => x.pipeCounts | 12 => x.statsSeq | _ => x.statsAck

/-- Per cent of the clocks of the last 1 ms that a Facet was busy (06 Table 6-11). -/
def State.busyPct (s : State) (f : Nat) : Nat :=
  let x := s.facet f
  let clocks := sumNat ((x.busy.filter fun t => decide (s.now < t.1 + cyclesPerMs)).map fun t => t.2)
  min 100 (clocks * 100 / (if x.reserve then 625000 else 600000))

/-- Facet[f].Status (06 Table 6-11). -/
def State.facetStatus (s : State) (f : Nat) : Word :=
  let x := s.facet f
  mkWord [(39, 37, x.state.code), (36, 36, b2n x.reserve), (35, 30, s.slotMask f), (29, 22, min 255 (s.facetRate f * 100 / facetCap).floor.toNat),
    (21, 14, s.busyPct f), (13, 10, min 15 (s.conceal1s f))]

def State.facetWord (s : State) (f k : Nat) : Word :=
  let x := s.facet f
  match k with
  | 0 => setFld x.arb 23 23 (b2n x.shedding) | 1 => s.facetStatus f | _ => x.counts

def Check.word (x : Check) (k : Nat) : Word :=
  match k with
  | 0 => x.cfg | 1 => mkWord [(39, 32, x.seq), (31, 0, x.lastCrc.toNat)] | _ => x.counts

/-- Accord[a].Status (07 Table 7-12). -/
def Accord.status (x : Accord) : Word :=
  let mask := fun (p : Source → Bool) => maskOf ((List.range 16).filter fun k => p (x.source k))
  mkWord [(39, 37, x.state.code), (36, 36, x.overlayUse), (35, 20, mask fun y => bit (pw y.cfg 0) 39), (19, 4, mask fun y => y.stale)]

def Accord.word (x : Accord) (k : Nat) : Word :=
  match k with
  | 5 => x.status | 6 => x.counts | k => pw x.canvas k

/-- Bb[p].Status (08 Table 8-6). -/
def State.bbStatus (s : State) (p : Nat) : Word :=
  let b := s.bbp p
  mkWord [(39, 39, b2n b.link), (38, 38, b2n b.speed25), (37, 36, fld (pw b.cfg 0) 35 34), (35, 35, b2n b.oper.enable), (34, 34, b.oper.slot),
    (33, 33, b2n b.change.isSome), (32, 32, b2n (s.lockClosed p != 0)), (31, 22, b.index)]

/-- Bb[p].DoorCounts (08 Table 8-8). -/
def State.bbDoorCounts (s : State) (p : Nat) : Word :=
  setFld (s.bbp p).doorCounts 7 0 (min 255 (s.bb.sessions.filter fun x => x.isOpen && x.bb == p).length)

def State.bbWord (s : State) (p k : Nat) : Word :=
  match k with
  | 0 => s.bbStatus p | 1 => (s.bbp p).counts | _ => s.bbDoorCounts p

def Stream.word (x : Stream) (k : Nat) : Word :=
  match k with
  | 10 => x.counts | 11 => x.counts2 | k => pw x.cfg k

def State.ringWord (s : State) (k : Nat) : Word :=
  match k with
  | 0 => s.ringStatus | 1 => BitVec.ofNat 40 s.ring.fillingSsn | 2 => BitVec.ofNat 40 s.ring.u | 3 => BitVec.ofNat 40 (min s.ledger.allow s.ring.unsealedMax)
  | _ => s.ring.counts

/-- STATE of Drive[d].Status (09 Table 9-12). -/
def DriveState.code : DriveState → Nat
  | .absent => 0 | .init => 1 | .member => 2 | .lost => 3 | .spare => 4

def Drive.word (x : Drive) (k : Nat) : Word :=
  match k with
  | 0 => mkWord [(39, 37, x.state.code), (36, 35, if 4 ≤ x.width then 2 else if 2 ≤ x.width then 1 else 0), (34, 32, x.gen), (31, 31, b2n x.vwc), (30, 14, x.slots)]
  | _ => mkWord [(39, 23, x.writeSlot), (22, 8, x.cmdErrors)]

/-- The channels that Table 11-5 and R328 give a use of their own: DIR, in use, and at work. (log 171 DESIGN CHOICE) -/
def State.ownChannel (s : State) (e ch : Nat) : Option (Nat × Bool × Bool) :=
  let reading := !(s.engine e).readbacks.isEmpty
  match e, ch with
  | 29, 0 => some (0, s.host.rec0.enabled, false)
  | 29, 1 => some (0, s.host.rec1.enabled, false)
  | 30, 1 => some (0, s.ring.retrieval.isSome, false)
  | 28, ch => if ch < 8 then some (1, s.rst.phokel, false) else none
  | 31, ch => if ch < 6 then some (2, s.rst.phokel, false) else if ch = 31 then some (2, s.rst.phokel, reading) else none
  | 29, 31 => some (2, s.rst.phokel, reading)
  | e, 31 => if e = 30 then some (0, s.ring.retrieval.isSome, reading) else some (0, (List.range 31).any fun k => (s.chan e k).enable, reading)
  | _, _ => none

/-- A channel as its registers show it: those with a use of their own are not set up by a command (R328, R357). (log 171 DESIGN CHOICE) -/
def State.chanShown (s : State) (e ch : Nat) : Channel :=
  let c := s.chan e ch
  match s.ownChannel e ch with
  | none => c
  | some (dir, used, busy) =>
    if !used then c
    else
      { c with enable := true, dir := dir, ringMem := decide (28 ≤ e)
               state := if (s.engine e).halted then .halted else if busy then .active else .empty }

/-- Engine[e].Status, Halt and Outstanding (Table 11-15). -/
def State.engineWord (s : State) (e k : Nat) : Word :=
  let x := s.engine e
  match k with
  | 0 => mkWord [(39, 39, b2n x.halted), (38, 36, x.cause), (35, 31, x.activeCh), (30, 23, min 255 (s.engineLoad e / 100000000).floor.toNat)]
  | 1 => 0
  | _ => BitVec.ofNat 40 x.outstanding.toNat

/-- STATE of Chan[ch].Status (Table 11-16). -/
def ChanState.code : ChanState → Nat
  | .disabled => 0 | .empty => 1 | .active => 2 | .waitStart => 3 | .waitFence => 4 | .stopped => 5 | .halted => 6

/-- A channel's registers (Table 11-16). -/
def Channel.word (c : Channel) (k : Nat) : Word :=
  match k with
  | 0 => mkWord [(39, 39, b2n c.enable), (38, 37, c.dir), (36, 36, b2n c.ringMem), (35, 32, c.size), (31, 31, b2n c.readback), (30, 30, b2n c.paced),
      (29, 28, c.prio), (27, 27, b2n c.output), (26, 19, c.context), (18, 17, c.out)]
  | 1 => c.ringLo | 2 => c.ringHi | 3 => c.tagLo | 4 => c.tagHi | 5 => 0
  | 6 => mkWord [(39, 37, c.state.code), (36, 21, c.head)]
  | _ => c.counts

/-- HostLink.Status (Table 11-3); BUDGET is truncated to 0.1 GB/s. (log 96 DEDUCED) -/
def State.linkStatus (s : State) : Word :=
  let h := s.host
  mkWord [(39, 35, h.width), (34, 32, h.rate), (31, 30, h.mps), (29, 20, s.budget / 100000000), (19, 4, h.retrains)]

def State.recRing (s : State) (r : Nat) : RecRing := if r = 0 then s.host.rec0 else s.host.rec1
def State.setRec (s : State) (r : Nat) (x : RecRing) : State := s.modHost fun h => if r = 0 then { h with rec0 := x } else { h with rec1 := x }

def RecRing.word (x : RecRing) (k : Nat) : Word :=
  match k with
  | 0 => x.baseLo | 1 => x.baseHi | 2 => mkWord [(39, 20, x.writeIdx), (19, 0, x.readIdx)] | _ => x.drops

/-! Reading. -/

/-- The value of a register. (log 75 DEDUCED) -/
def State.regWord (s : State) : Reg → Word
  | .chipId => s.chipId | .resetCause => s.resetCause | .timeNowLo => s.timeNowLo
  | .timeNowHi => s.time.latchHi.getD s.timeNowHi | .timeStatus => s.timeStatus
  | .travelNow => s.time.latchTravel.getD s.travelNow | .travelStatus => s.time.latchStatus.getD s.travelStatus
  | .linkStatus => s.linkStatus | .recRing r k => (s.recRing r).word k | .eventRaise => 0 | .regFault => s.regFaultRead
  | .axisCounts a => (s.axis a).counts | .syncCounts => s.time.syncCounts | .strobe k => (s.strobe k).cfg
  | .port n k => s.portWord n k | .ctx c k => (s.ctx c).word k
  | .out c o k => let y := (s.ctx c).out o; if k = 8 then y.counts else if k = 9 then y.rsCounts else pw y.cfg k
  | .facet f k => s.facetWord f k | .check c k => (s.check c).word k | .expected c i => BitVec.ofNat 40 ((s.check c).expected.getD i 0).toNat
  | .accord a k => (s.accord a).word k | .source a k j => pw ((s.accord a).source k).cfg j
  | .bb p k => s.bbWord p k | .stream k j => (s.stream k).word j
  | .ring k => s.ringWord k | .trig i => s.ring.trigOf i | .plan c => s.ring.plan c | .drive d k => (s.ring.drive d).word k
  | .ledger k => s.ledger.word k | .engine e k => s.engineWord e k | .chan e ch k => (s.chanShown e ch).word k
  | .route id => s.router.route id | .vector v => (s.vector v).cfg

/-- What the read of a register does besides returning its value: rc fields clear but for what this cycle has set, latches are made or used up
(R10, 04 R112). PEAK_WORDS starts again from the words stored now. (log 148 DEDUCED) -/
def State.readEffect (s : State) : Reg → State
  | .timeNowLo => s.latchTime
  | .timeNowHi => s.modTime fun t => { t with latchHi := none }
  | .travelNow => s.modTime fun t => { t with latchTravel := none }
  | .travelStatus => s.modTime fun t => { t with latchStatus := none }
  | .port n 5 => (s.rcForget (· == .port n 5)).modPort n fun p => { p with unboundRaised := false }
  | .port n 6 => (s.rcForget (· == .port n 6)).modPort n fun p => { p with peak := max p.peak (s.ringFill n) }
  | r => s.rcForget (· == r)

/-- The register that a BAR0 offset reads, as things stand. -/
def State.regFor (s : State) (off : Nat) : Option Reg :=
  match regAt s.variant off with
  | some .chipId => some .chipId
  | some .resetCause => some .resetCause
  | r => if s.bar0Up then r else none

/-- The bytes that a read returns: the slot, or the half of it that the offset names (R319). -/
def readPart (off size : Nat) (w : Word) : BitVec 64 :=
  if size = 8 then BitVec.ofNat 64 w.toNat else BitVec.ofNat 64 (w.toNat / 2 ^ (8 * (off % 8)) % 2 ^ 32)

/-- A BAR0 read that R319 allows: the whole slot, or an aligned half. (log 45 DESIGN CHOICE) -/
def readOk (off size : Nat) : Bool := (size == 8 && off % 8 == 0) || (size == 4 && off % 4 == 0)

/-- RC_READ. A read that R319 does not allow returns a value that the manual leaves open, and whether it performs the read side effects is
open as well (notes/assumptions/45). (log 45 DESIGN CHOICE) -/
def execRcRead (off size : Nat) (s : State) : Host.Outcome State Fault Refusal :=
  if 0x4000000 ≤ off then .refused (.illFormed "offset beyond BAR0")
  else if !s.host.up then .next s
  else if readOk off size then
    .next (match s.regFor off with
      | none => s.modHost fun h => { h with lastRead := 0 }
      | some r => (s.readEffect r).modHost fun h => { h with lastRead := readPart off size (s.rcShow r (s.regWord r)) })
  else
    let d := s.draw
    let s := match d.2.regFor off with
      | some r => if d.1 % 2 = 1 then d.2.readEffect r else d.2
      | none => d.2
    .next (s.modHost fun h => { h with lastRead := BitVec.ofNat 64 (d.1 / 2) })

/-! Writing. -/

/-- Reserved fields of a register (R9), as fields hi to lo. -/
def reservedFields : Reg → List (Nat × Nat)
  | .chipId => [(7, 0)] | .timeStatus => [(33, 32)] | .linkStatus => [(3, 0)]
  | .recRing 0 1 => [(33, 32)] | .recRing _ 1 => [(38, 38), (33, 32)] | .recRing _ 3 => [(23, 0)]
  | .regFault => [(4, 0)] | .syncCounts => [(7, 0)] | .strobe _ => [(5, 0)]
  | .port _ 0 => [(8, 8)] | .port _ 2 => [(33, 32)] | .port _ 4 => [(7, 0)] | .port _ 6 => [(3, 0)] | .port _ 8 => [(12, 0)]
  | .port _ 9 => [(3, 0)] | .port _ 11 => [(15, 0)]
  | .ctx _ 0 => [(7, 0)] | .ctx _ 1 => [(8, 0)] | .ctx _ 3 => [(1, 0)] | .ctx _ 9 => [(32, 0)]
  | .out _ _ 0 => [(12, 0)] | .out _ _ 1 => [(8, 0)] | .out _ _ 2 => [(8, 0)] | .out _ _ 3 => [(8, 0)] | .out _ _ 4 => [(19, 0)]
  | .out _ _ 5 => [(5, 0)] | .out _ _ 6 => [(23, 0)]
  | .facet _ 0 => [(22, 0)] | .facet _ 1 => [(9, 0)] | .check _ 0 => [(14, 0)] | .expected _ _ => [(39, 32)]
  | .accord _ 0 => [(12, 0)] | .accord _ 1 => [(14, 0)] | .accord _ 2 => [(3, 0)] | .accord _ 3 => [(7, 0)] | .accord _ 4 => [(9, 0)]
  | .accord _ 5 => [(3, 0)] | .source _ _ 0 => [(9, 0)] | .source _ _ 1 => [(14, 0)] | .source _ _ 2 => [(14, 0)]
  | .stream _ 0 => [(4, 0)] | .stream _ 1 => [(1, 0)] | .stream _ 4 => [(7, 0)] | .stream _ 8 => [(19, 8)] | .stream _ 9 => [(22, 0)]
  | .bb _ 0 => [(21, 0)] | .stream _ 11 => [(27, 0)]
  | .ring 0 => [(17, 0)] | .trig _ => [(0, 0)] | .plan _ => [(24, 0)] | .drive _ 0 => [(13, 0)] | .drive _ 1 => [(7, 0)]
  | .ledger 0 => [(13, 0)] | .ledger 1 => [(7, 0)]
  | .engine _ 0 => [(22, 0)] | .engine _ 1 => [(37, 0)] | .engine _ 2 => [(39, 32)]
  | .chan _ _ 0 => [(16, 0)] | .chan _ _ 2 => [(39, 24)] | .chan _ _ 4 => [(39, 24)] | .chan _ _ 5 => [(37, 0)] | .chan _ _ 6 => [(20, 0)]
  | .chan _ _ 7 => [(3, 0)]
  | .route _ => [(0, 0)] | .vector _ => [(7, 0)]
  | _ => []

/-- A software event (R355). -/
def State.eventRaise (s : State) (v : Word) : Option State :=
  if within 0xBF0 0xBFF (fld v 39 28) then some (s.raise (fld v 39 28) (fld v 27 20) (fld v 19 0)) else none

/-- A write of Rec[r].BaseHi: setting ENABLE sets both counts to 0 (R344). -/
def RecRing.writeHi (x : RecRing) (r : Nat) (v : Word) : Option RecRing :=
  if within 4 (if r = 0 then 12 else 15) (fld v 37 34) then
    some (if bit v 39 && !x.enabled then { x with baseHi := v, writeIdx := 0, slotDrops := 0 } else { x with baseHi := v })
  else none

/-- A Route[id] write acts on occurrences from the next cycle on (R352). -/
def Router.writeRoute (r : Router) (id : Nat) (v : Word) : Router :=
  { r with routes := bankSet (fun _ => (0 : Word)) r.routes id v
           oldRoutes := if (r.oldRoutes.lookup id).isSome then r.oldRoutes else (id, r.route id) :: r.oldRoutes }

/-- What an outcome leaves. -/
def outcomeOr (s : State) : Host.Outcome State Fault Refusal → State
  | .next s' => s'
  | _ => s

/-- Facet weights, 1 to 15 each (05 Table 5-10). -/
def arbOk (v : Word) : Bool := fld v 39 36 != 0 && fld v 35 32 != 0 && fld v 31 28 != 0 && fld v 27 24 != 0

/-- Engine[e].Halt (Table 11-15): RESUME, then FORCE. (log 76 DEDUCED) -/
def State.writeHalt (s : State) (e : Nat) (v : Word) : State :=
  let s := if bit v 39 then outcomeOr s (execEngineResume e s) else s
  if bit v 38 then outcomeOr s (execEngineForceHalt e s) else s

/-- Doorbell: with both bits set, STOP. (log 76 DEDUCED) -/
def State.writeDoorbell (s : State) (e ch : Nat) (v : Word) : State :=
  if bit v 38 then outcomeOr s (execDoorbellStop e ch s) else if bit v 39 then outcomeOr s (execDoorbellRing e ch s) else s

/-- A write of READ_IDX: a record turned away in the same cycle sees the room that it makes (R356). -/
def State.writeReadIdx (s : State) (r : Nat) (v : Nat) : State :=
  let s := s.setRec r { s.recRing r with readIdx := v }
  match (if r = 1 then s.host.turned else none) with
  | none => s
  | some (at_, d, n, l) =>
    if at_ = s.now then
      l.foldl (fun (s : State) o => s.eventRecord o) (s.modHost fun h => { h with rec1 := { h.rec1 with drops := d, slotDrops := n }, turned := none })
    else s

/-- The writable fields take the values written; none where a value is reserved (R9). -/
def State.storeReg (s : State) (v : Word) : Reg → Option State
  | .recRing r 0 => if zeroFld v 5 0 then some (s.setRec r { s.recRing r with baseLo := v }) else none
  | .recRing r 1 => ((s.recRing r).writeHi r v).map fun x => s.setRec r x
  | .recRing r 2 => some (s.writeReadIdx r (fld v 19 0))
  | .eventRaise => s.eventRaise v
  | .strobe k => if strobeCfgOk v then some (s.strobeWrite k v) else none
  | .port n 4 => if 8800 + fld v 23 8 ≤ 8 * fld v 39 24 then some (s.modPort n fun p => { p with trigCfg := v }) else none
  | .port n 8 => if patGen0Ok v then some (s.patWrite n v) else none
  | .port n 9 => if fld v 39 24 != 0 && fld v 23 4 != 0 then some (s.modPort n fun p => { p with patGen1 := v }) else none
  | .port n 10 => some (s.modPort n fun p => { p with patGen2 := setFld v 15 0 (fld p.patGen2 15 0) })
  | .ctx c 13 => some (s.modCtx c fun x => { x with statsAck := v })
  | .facet f 0 => if arbOk v then some (s.modFacet f fun x => { x with arb := clearFlds v [(23, 23)] }) else none
  | .expected c i => some (s.modCheck c (Check.expect s.now i (v.truncate 32)))
  | .trig i => some (s.modRing fun r => { r with trig := bankSet (fun _ => (0 : Word)) r.trig i v })
  | .engine e 1 => some (s.writeHalt e v)
  | .chan e ch 5 => some (s.writeDoorbell e ch v)
  | .route id => some { s with router := s.router.writeRoute id v }
  | .vector k => some (s.modVector k fun x => { x with cfg := setFld v 23 8 (fld x.cfg 23 8) })
  | _ => some s

/-- A whole write of a register. (log 116 DEDUCED) -/
def State.writeReg (s : State) (r : Reg) (v : Word) : Option State :=
  if (reservedFields r).all fun x => zeroFld v x.1 x.2 then s.storeReg v r else none

/-- REG_WRITE (R9, R319, R321): bits 63:40 of the slot are ignored (R7). (log 77 DEDUCED) -/
def execRegWrite (off size : Nat) (v : BitVec 64) (s : State) : Host.Outcome State Fault Refusal :=
  if 0x4000000 ≤ off then .refused (.illFormed "offset beyond BAR0")
  else if !s.hostRegs then .next s
  else match regAt s.variant off with
    | none => .next s
    | some r =>
      if size != 8 || off % 8 != 0 then .next (s.regRefused off true)
      else match s.writeReg r (v.truncate 40) with
        | some s' => .next s'
        | none => .next (s.regRefused off false)

/-- EVENT_RAISE. -/
def execEventRaise (v : Word) (s : State) : Host.Outcome State Fault Refusal :=
  .next (if !s.hostRegs then s else match s.eventRaise v with | some s' => s' | none => s.regRefused 0x80 false)

end Sys2Proof.Machine
end

