-- ==== Sys2Proof/Machine/HostLink.lean ====
section
/-! DEFINITION. The host link's own resets, training and configuration (11_host_link_and_dma.md R316 to R318, R325 to R327), and the event
router (R349 to R354). -/
namespace Sys2Proof.Machine

/-! Resets of the host link (R326). -/

/-- A channel in host memory is disabled; what it was doing is abandoned. -/
def State.dropChannel (s : State) (k : Nat) (c : Channel) : State :=
  if c.ringMem then s
  else
    let s := if c.enable && c.inFlight && c.output && c.frame.isSome then s.hostDrop c.context c.out else s
    s.setChan (k / 32) (k % 32) (c.closed k)

/-- Units lose their rings; frames in progress have no descriptor any more. (log 73 DEDUCED) -/
def State.dropRings (s : State) : State :=
  let s := s.bound.foldl (fun (s : State) c =>
    s.modCtx c fun x =>
      let x := (List.range 3).foldl (fun (x : Context) o => x.modOut o fun y => { y with ring := none }) x
      { x with statsRing := none, frames := x.frames.map fun f => { f with hostOk := f.hostOk.map fun _ => false } }) s
  let s := (List.range s.variant.accords).foldl (fun (s : State) a => s.modAccord a fun x => { x with ring := none }) s
  if s.ring.retrieval.isSome then s.endRetrieval else s

/-- Read-backs toward host memory are given up; span records and LOG pieces stay. -/
def Engine.dropReadbacks (x : Engine) : Engine :=
  { x with readbacks := x.readbacks.filter fun r => match r.kind with | .spanRecord _ | .logPiece _ => true | _ => false }

/-- MSI-X table and pending bits; Vector[v].Cfg belongs to the router, and stays. -/
def Vector.tableReset (v : Nat) (x : Vector) : Vector := { Vector.reset v with cfg := x.cfg, holdEnd := x.holdEnd }

/-- The host-link block is reset (R326); `code` is the event of Table 11-10. (log 72 DEDUCED, 73 DEDUCED, 172 PRESUMED) -/
def State.hostReset (s : State) (code : Nat) : State :=
  let s := s.chans.foldl (fun (s : State) (x : Nat × Channel) => s.dropChannel x.1 x.2) s
  let s := s.dropRings.emptyDoor0
  let s := (List.range 32).foldl (fun (s : State) e => (s.modEngine e Engine.dropReadbacks).tryForce e) s
  let s := s.router.vectors.foldl (fun (s : State) (x : Nat × Vector) => s.modVector x.1 (Vector.tableReset x.1)) s
  let s := s.modHost fun h =>
    { h with busMaster := false, d3hot := false, mps := 0, ctoValue := 0, mrrs := 512, aspmL1 := false, aer := 0, rec0 := .reset, rec1 := .reset, turned := none, held := [] }
  (s.rcForget fun r => match r with | .recRing _ _ => true | _ => false).raiseLog evHost code 0 0 true

def execHostFlr (s : State) : Host.Outcome State Fault Refusal := .next (if s.host.up then s.hostReset 1 else s)

def execHostHotReset (s : State) : Host.Outcome State Fault Refusal := .next (if s.host.up then s.hostReset 2 else s)

/-- HOST_LINK_DOWN: no link is negotiated any more. -/
def execHostLinkDown (s : State) : Host.Outcome State Fault Refusal :=
  .next (if s.host.up then (s.hostReset 3).modHost fun h => { h with up := false, width := 0, rate := 0 } else s)

/-! Training (R316, R326, R327). -/

/-- Lanes that a partner offers, and RATE as Table 11-3 codes it. -/
def linkOk (width rate : Nat) : Bool := [1, 2, 4, 8, 16, 32].contains width && within 1 5 rate

/-- Lanes that a strap code offers (14 Table 14-5). (log 72 DEDUCED) -/
def strapWidth (code : Nat) : Nat :=
  if [0, 1, 8, 9, 13, 15].contains code then 16 else if [2, 3, 10].contains code then 8 else if [4, 5, 11].contains code then 4 else 1

/-- The width that training settles on: no wider than the strap offers, and x1 where x2 would be left (Table 11-1). (log 72 DEDUCED) -/
def linkWidth (strapCode offered : Nat) : Nat :=
  let w := min (strapWidth strapCode) offered
  if w = 2 then 1 else w

/-- HOST_LINK_UP, once the link's domain is released (14 Table 14-4). (log 72 DEDUCED) -/
def execHostLinkUp (width rate : Nat) (s : State) : Host.Outcome State Fault Refusal :=
  if !linkOk width rate then .refused (.illFormed "width or rate of the host link")
  else .next (if s.host.up || !s.rst.released.getLsbD 11 then s else s.modHost fun h => { h with up := true, width := linkWidth s.rst.strapCode width, rate := rate })

def execHostLinkRetrained (width rate : Nat) (s : State) : Host.Outcome State Fault Refusal :=
  if !linkOk width rate then .refused (.illFormed "width or rate of the host link")
  else
    .next (if !s.host.up then s
      else
        let w := linkWidth s.rst.strapCode width
        let t := s.modHost fun h => { h with width := w, rate := rate, retrains := satAdd 16 h.retrains 1 }
        if w = s.host.width && rate = s.host.rate then t else t.raise evHost 4)

/-! Configuration (R318, R325). -/

/-- A vector whose pending bit is set, unmasked: its message goes out, but not within its holdoff (R325, R353). (log 74 DEDUCED) -/
def State.sendPending (s : State) (v : Nat) : State :=
  let x := s.vector v
  if !x.pendingBit || x.control.getLsbD 0 || !s.hostOpen || (fld x.cfg 39 24 != 0 && decide (s.now < x.holdEnd)) then s else s.msixEmit v

/-- Every pending message that may be sent is sent (R318). (log 74 DEDUCED) -/
def State.sendAllPending (s : State) : State := (s.router.vectors.map fun x => x.1).foldl (fun (s : State) v => s.sendPending v) s

/-- MPS of Table 11-3. -/
def mpsCode (bytes : Nat) : Option Nat := match bytes with | 128 => some 0 | 256 => some 1 | 512 => some 2 | _ => none

/-- CONFIGURATION_REQUEST: the function takes it once its link is up. Max_Payload_Size and Max_Read_Request_Size values of Table 11-1. -/
def execConfigurationRequest (w : ConfigWrite) (s : State) : Host.Outcome State Fault Refusal :=
  .next (if !s.host.up then s
    else match w with
      | .busMaster on => (s.modHost fun h => { h with busMaster := on }).payOwed.sendAllPending
      | .powerState d3 => (s.modHost fun h => { h with d3hot := d3 }).payOwed.sendAllPending
      | .maxPayload n => match mpsCode n with | some k => s.modHost fun h => { h with mps := k } | none => s
      | .completionTimeout v => s.modHost fun h => { h with ctoValue := v }
      | .maxReadRequest n => if [128, 256, 512, 1024, 2048, 4096].contains n then s.modHost fun h => { h with mrrs := n } else s
      | .aspmL1 on => s.modHost fun h => { h with aspmL1 := on }
      | .clearErrors bits => s.modHost fun h => { h with aer := h.aer &&& ~~~bits })

/-- One dword of an MSI-X table entry. -/
def Vector.writeDword (x : Vector) (dword : Nat) (v : BitVec 32) : Vector :=
  match dword with
  | 0 => { x with addrLo := v &&& 0xFFFFFFFC } | 1 => { x with addrHi := v } | 2 => { x with msgData := v } | _ => { x with control := v &&& 1 }

/-- MSIX_TABLE_WRITE. -/
def execMsixTableWrite (entry dword : Nat) (v : BitVec 32) (s : State) : Host.Outcome State Fault Refusal :=
  if 256 ≤ entry || 4 ≤ dword then .next s
  else .next (if !s.hostRegs then s else (s.modVector entry fun x => x.writeDword dword v).sendPending entry)

/-! The router (R352, R353). -/

/-- Destinations of one occurrence, by its route; the ring triggers see it whatever its route (09 R284). The record precedes the message
(R26). -/
def State.routeOcc (s : State) (o : Occ) : State :=
  let w := o.route
  let s := if bit w 30 then s.eventRecord o else s
  let s := if bit w 29 && !o.logged then s.logPush (logBits o.stamp o.id o.code false o.data) else s
  let s := if bit w 28 then s.start (fld w 27 23) (fld w 22 18) else s
  let s := if bit w 17 then s.modCue (fld w 16 7) fun q => { q with arm := true } else s
  let s := if bit w 6 then s.routerPulse (fld w 5 1) (s.unstamp o.stamp) else s
  let s := if bit w 39 then s.msix (fld w 38 31) o.stamp else s
  s.ringTriggers o.id o.stamp

/-- EVENT_ROUTE: the oldest occurrence on its way to the router. -/
def State.routeFirst (s : State) : State :=
  match s.router.queue with
  | [] => s
  | o :: r => ({ s with router := { s.router with queue := r } }).routeOcc o

def execEventRoute (s : State) : Host.Outcome State Fault Refusal := .next s.routeFirst

/-- VECTOR_HOLDOFF_END: one message covers what was merged. (log 74 DEDUCED) -/
def State.holdoffEnd (s : State) (v : Nat) : State :=
  let x := s.vector v
  if x.merged.isEmpty then s.sendPending v else s.msixEmit v

def execVectorHoldoffEnd (v : Nat) (s : State) : Host.Outcome State Fault Refusal :=
  onUnit 256 v s (if s.now < (s.vector v).holdEnd then s else s.holdoffEnd v)

end Sys2Proof.Machine
end

