-- ==== Sys2Proof/Machine/Boot.lean ====
section
/-! DEFINITION. Firmware images, the boot sequence and the firmware update in service (13_security.md R401 to R407, R410 to R413;
14_reset_and_boot.md R433; 12_mailbox_and_commands.md R370). -/
namespace Sys2Proof.Machine

/-! Image headers (Table 13-7). -/

def hdrComponents (h : List Byte) : Nat := leAt h 16 2

/-- OFFSET, LENGTH and DIGEST of component k. -/
def hdrComponent (h : List Byte) (k : Nat) : Nat × Nat × List Byte :=
  (leAt h (64 + 80 * k) 4, leAt h (68 + 80 * k) 4, bytesAt h (80 + 80 * k) 64)

def hdrSvn (h : List Byte) : Nat := leAt h 5 1

/-- The header is one: MAGIC, FORMAT and the number of components. (log 89 DEDUCED) -/
def hdrFormat (h : List Byte) : Bool :=
  decide (4096 ≤ h.length) && bytesAt h 0 4 == ascii "GVFW" && leAt h 4 1 == 1 && within 1 16 (hdrComponents h)

/-- The vendor's part of R404. -/
def hdrVendor (h : List Byte) : Bool :=
  let pub := bytesAt h 1344 57
  vendorHashOf pub == vendorRootBytes && ed448Verify pub "gv-boot" (bytesAt h 0 1344) (bytesAt h 1408 114)

/-- The endorsement names an unrevoked owner slot, and verifies. -/
def Security.endorsed (x : Security) (h : List Byte) : Bool :=
  let pub := bytesAt h 1544 57
  decide (leAt h 1536 1 < 4) && x.ownerOk (leAt h 1536 1) pub && ed448Verify pub "gv-boot" (bytesAt h 0 1344) (bytesAt h 1608 114)

/-- Everything of R404 but the digests. -/
def Security.headerOk (x : Security) (h : List Byte) : Bool :=
  hdrFormat h && hdrVendor h && decide (x.rollback ≤ hdrSvn h) &&
    (match x.lifecycle with
     | .ownedSealed => x.endorsed h
     | .ownedOpen => leAt h 1536 1 == 0xFF || x.endorsed h
     | _ => true)

/-- Every component lies in the image and has its digest (R403, R404). -/
def digestsOk (image : List Byte) : Bool :=
  (List.range (hdrComponents image)).all fun k =>
    let c := hdrComponent image k
    c.1 % 4096 == 0 && decide (c.1 + c.2.1 ≤ image.length) && (k != 0 || decide (c.2.1 ≤ 1048576)) &&
      shake256 (bytesAt image c.1 c.2.1) 64 == c.2.2

/-- A staged image is acceptable. -/
def Security.imageOk (x : Security) (image : List Byte) : Bool :=
  x.headerOk image && leAt image 8 4 == image.length && digestsOk image

/-! Boot (R405, R406). -/

/-- The last reset was a core reset (Table 14-2). (log 181 DEDUCED) -/
def ResetCtl.coreCause (r : ResetCtl) : Bool := decide (0x20 ≤ r.cause.toNat)

/-- Step 1: the slot chosen; TRY 0x80 and 0x81 count after a system or power-on reset only. -/
def State.chosenSlot (s : State) : Nat :=
  let t := s.sec.tryByte
  if t < 2 then t else if (t = 0x80 || t = 0x81) && !s.rst.coreCause then t - 0x80 else s.sec.active

/-- What the flash held of a slot. -/
def flashSlot (f : FlashRead) (k : Nat) : Option (List Byte × Bool) := if k = 0 then f.slotA else f.slotB

/-- Step 3 for one slot. -/
def State.slotBoots (s : State) (f : FlashRead) (k : Nat) : Bool :=
  match flashSlot f k with
  | some (h, loaderOk) => s.sec.headerOk h && loaderOk
  | none => false

/-- M1: the lifecycle, the owner fuses, ROLLBACK and the scopes open (R407). (log 51 DEDUCED) -/
def Security.m1 (x : Security) : List Byte :=
  let hashes := (List.range 4).flatMap fun k => (x.ownerHash.getD k none).getD (zeroBytes 32)
  let revoked := maskOf ((List.range 4).filter fun k => x.ownerRevoked.getD k false)
  shake256 ([BitVec.ofNat 8 x.lifecycle.code] ++ hashes ++ [BitVec.ofNat 8 revoked, BitVec.ofNat 8 x.rollback, BitVec.ofNat 8 (maskOf x.debugOpen)]) 64

/-- Step 4: M0 to M3 are taken, and the loader starts. -/
def State.startLoader (s : State) (k : Nat) (h : List Byte) : State :=
  s.modSec fun x =>
    { x with booted := k, slotFallback := k != x.chosen, svn := hdrSvn h, major := leAt h 12 1, minor := leAt h 13 1, patch := leAt h 14 2
             measLog := [(List.range 64).map Config.bootRom, x.m1, (hdrComponent h 0).2.2, shake256 (bytesAt h 0 1344) 64] }

/-- The device stays in the state of R24. -/
def State.bootFails (s : State) (b : BootState) : State :=
  ((s.modRst fun r => { r with bootState := b }).modSec fun x => { x with measLog := [], bootFlash := none }).attn attnBootFail

/-- Steps 2 to 4 with slot k. -/
def State.loadSlot (s : State) (f : FlashRead) (k : Nat) : Option State :=
  if s.slotBoots f k then (flashSlot f k).map fun x => s.startLoader k x.1 else none

/-- Neither slot boots: FAIL_FLASH where the flash could not be read, FAIL_SLOTS otherwise (14 Table 14-3). (log 89 DEDUCED) -/
def State.noSlot (s : State) (f : FlashRead) : State :=
  s.bootFails (if f.slotA.isNone || f.slotB.isNone then .failFlash else .failSlots)

/-- Steps 1 to 4. -/
def State.bootRom (s : State) (f : FlashRead) : State :=
  match s.sec.bootCopy f.recordA f.recordB with
  | none => s.bootFails .failFlash
  | some r =>
    let s := s.modSec fun x => x.takeBoot r
    let k := s.chosenSlot
    let s := s.modSec fun x => { x with chosen := k, bootTry := x.tryByte, bootFlash := some f }
    match s.loadSlot f k with
    | some s' => s'
    | none => match s.loadSlot f (1 - k) with
      | some s' => s'
      | none => s.noSlot f

/-- The boot ROM may run: step 4 has completed and nothing of Table 13-8 has been done in this boot. -/
def State.bootDue (s : State) : Bool := !s.sec.halted && s.rst.bootState == .booting && s.rst.released.getLsbD 3 && s.sec.measLog.isEmpty

def execBootLoaderStart (flash : FlashRead) (s : State) : Host.Outcome State Fault Refusal :=
  .next (if s.bootDue then s.bootRom flash else s)

/-- Step 5 failed: step 1 with the other slot, once. -/
def State.otherSlot (s : State) : State :=
  match s.sec.bootFlash with
  | none => s.bootFails .failSlots
  | some f =>
    if s.sec.slotFallback then s.noSlot f
    else match s.loadSlot f (1 - s.sec.booted) with
      | some s' => s'
      | none => s.noSlot f

/-- M4: the digests of components 1 onward. -/
def hdrM4 (h : List Byte) : List Byte := shake256 ((List.range (hdrComponents h - 1)).flatMap fun k => (hdrComponent h (k + 1)).2.2) 64

/-- The chain of R407. -/
def measChain (l : List (List Byte)) : List Byte := l.foldl (fun c m => shake256 (ascii "gv-meas" ++ c ++ m) 64) (zeroBytes 64)

/-- Step 6: the chain is frozen and Phokel starts; both watchdogs run (14 R425), that of an activation to its end (R411); the
system watchdog counts on through a core reset. -/
def State.startPhokel (s : State) : State :=
  match s.sec.bootFlash.bind fun f => flashSlot f s.sec.booted with
  | none => s
  | some (h, _) =>
    let log := s.sec.measLog ++ [hdrM4 h, s.measM5]
    (s.modSec fun x => { x with measLog := log, chain := measChain log, bootFlash := none }).modRst fun r =>
      { r with phokel := true, mcWatch := if s.sec.activation.isSome then r.mcWatch else some (s.now + 500 * cyclesPerMs)
               sysWatch := some (r.sysWatch.getD (s.now + 10 * cyclesPerS)) }

/-- The loader runs: M0 to M3 stand. -/
def State.loaderRuns (s : State) : Bool := s.rst.bootState == .booting && s.sec.measLog.length == 4

def execPhokelStart (componentsOk : Bool) (s : State) : Host.Outcome State Fault Refusal :=
  .next (if !s.loaderRuns || s.sec.halted then s else if componentsOk then s.startPhokel else s.otherSlot)

/-! The boot record after a start (R411, R413, Table 13-16). -/

/-- ROLLBACK rises to the SVN of the running image in OWNED-OPEN and OWNED-SEALED, where that is greater. -/
def Security.raises (x : Security) : Bool := (x.lifecycle == .ownedOpen || x.lifecycle == .ownedSealed) && decide (x.rollback < x.svn)

/-- The slot booted becomes ACTIVE, and the fuses of ROLLBACK begin to be written, one after the other (R411 to R413). (log 167 DESIGN CHOICE) -/
def State.adoptSlot (s : State) : State :=
  s.modSec fun x =>
    { x.writeBoot x.booted 0xFF with
      slots := x.slots.map fun y => { y with staged := false }
      fuses := if x.raises && x.fuses.isNone then some { target := x.svn, doneAt := s.now + fuseCycles } else x.fuses }

/-- TRY is given up. -/
def State.clearTry (s : State) : State := s.modSec fun x => x.writeBoot x.active 0xFF

/-- The slot that TRY named at this boot. -/
def Security.trySlot (x : Security) : Option Nat := if x.bootTry < 2 then some x.bootTry else if x.bootTry = 0x80 || x.bootTry = 0x81 then some (x.bootTry - 0x80) else none

/-- A boot that no activation is waiting for: TRY named a slot, and it booted or did not. In HOLD nothing is written. (log 89 DEDUCED) -/
def State.settleTry (s : State) : State :=
  match s.sec.trySlot with
  | none => s
  | some k =>
    if s.ledger.pstate == .hold || (s.rst.coreCause && decide (0x80 ≤ s.sec.bootTry)) then s
    else if s.sec.booted = k then s.adoptSlot else s.clearTry

/-- Step 4 of an activation (R411): in HOLD neither ROLLBACK nor TRY changes (Table 13-16). The response waits for the fuses. -/
def State.settleActivation (s : State) (a : Activation) : State :=
  let good := s.sec.booted == a.slot
  let s := s.modRst fun r => { r with mcWatch := some (s.now + 500 * cyclesPerMs) }
  let s := if s.ledger.pstate = .hold then s else if good then s.adoptSlot else s.clearTry
  if !good then (s.modSec fun x => { x with activation := none }).finishWait .fwActivate .fault
  else if s.sec.fuses.isSome then s
  else s.activated

/-! The doors open (14 R433, 12 R370). -/

/-- A message that a core reset leaves to be completed with FAULT: not a CORE_RESET, and not an FW_ACTIVATE. -/
def Inflight.lostAtReset (i : Inflight) : Bool :=
  match i.wait with
  | .commit _ | .coreReset | .fwActivate => false
  | _ => true

/-- The restart of the cluster is counted and raised. -/
def State.noteRestart (s : State) : State :=
  (s.modMail fun m => { m with mcRestarts := satAdd 16 m.mcRestarts 1 }).raiseLog evMc 2 0 (s.rst.cause.toNat * 2 ^ 56) true

/-- After a core reset: the messages in the log, and the restart itself. -/
def State.settleCore (s : State) : State :=
  let s := (s.noteRestart.dropTaking .fault).finishAll Inflight.lostAtReset .fault
  let s := match s.sec.activation with | some a => s.settleActivation a | none => s.settleTry
  s.finishAll (fun i => i.wait == .coreReset) .ok

/-- Commissioning values as the configuration area holds them (10 R306). (log 90 DEDUCED) -/
def Ledger.restore (l : Ledger) (c : Option (Nat × Nat × Nat)) : Ledger :=
  match c with
  | some (dev, rate, cap) => { l with devSealMw := dev, sealRate := some rate, capMeasUf := cap, commissioned := true }
  | none => l

/-- The door secret is unwrapped and checked (13 R400); one that does not read back fails the check. (log 168 DEDUCED) -/
def State.unwrapSecret (s : State) (readable : Bool) : State :=
  let s := s.modSec fun x => { x with doorSecret := none }
  match s.sec.doorSecretStored with
  | none => s
  | some (w, check) =>
    let secret := xorBytes w doorWrap
    if !s.sec.keysUp then s
    else if readable && doorCheck secret == check then s.modSec fun x => { x with doorSecret := some secret }
    else s.raiseSec 0x0B 0

/-- The last request SEQ values as Phokel reads them: an item that does not read back counts as not there. (log 168 DEDUCED) -/
def State.restoreSeq (s : State) (readable : Bool) : State := if readable then s else s.modSec fun x => { x with lastSeq := [0, 0, 0, 0] }

/-- Phokel opens the doors. (log 168 DEDUCED, 181 DEDUCED) -/
def State.openDoors (s : State) (r : Restored) : State :=
  let core := s.rst.coreReset
  let s := ((s.unwrapSecret r.doorSecret).restoreSeq r.lastSeq).modRst fun x => { x with bootState := .running }
  let s := s.attn attnRunning
  let s := if core || !r.commission then s else s.modLedger fun l => l.restore s.sec.commissionStored
  let s := if s.sec.slotFallback then s.raiseSec 1 s.sec.booted else s
  let s := s.sec.violations.foldl (fun (s : State) c => s.raiseSec 9 c) (s.modSec fun x => { x with violations := [] })
  let s := if core then s.settleCore else if s.rst.coreCause then s.noteRestart.settleTry else s.settleTry
  s.modRst fun x => { x with coreReset := false }

/-- Phokel has started and the doors are shut. -/
def State.doorsDue (s : State) : Bool := !s.sec.halted && s.rst.bootState == .booting && s.sec.measLog.length == 6

def execDoorsOpen (restored : Restored) (s : State) : Host.Outcome State Fault Refusal :=
  .next (if s.doorsDue then s.openDoors restored else s)

/-! Firmware update (R410 to R413). -/

/-- The slot that FW_STAGE writes. (log 88 DEDUCED) -/
def Security.spare (x : Security) : Nat := 1 - x.booted

def Security.setSlot (x : Security) (k : Nat) (y : FwSlot) : Security := { x with slots := setAt x.slots k y }
def Security.slot (x : Security) (k : Nat) : FwSlot := x.slots.getD k { image := [], staged := false }

/-- A FW_STAGE chunk, or another flash operation, is running. -/
def State.flashBusy (s : State) : Bool := (s.inflight? fun i => i.wait == .flash).isSome

/-- A staged slot starts anew; TRY that named it is given up first (R410, R413). -/
def Security.unstage (x : Security) : Security :=
  let x := x.setSlot x.spare { image := [], staged := false }
  if x.tryByte = 0x80 + x.spare then x.writeBoot x.active 0xFF else x

/-- Longest image, 28 MiB. -/
def imageMax : Nat := 28 * 1048576

/-- FW_STAGE. (log 88 DEDUCED) -/
def execFwStage (m : Msg) (host : List Byte) (s : State) : Host.Outcome State Fault Refusal :=
  let len := fld (m.w 0) 31 0
  let off := fld (m.w 3) 31 0
  .next (mailRun 0x701 permitR0 m s false (lenIs m 4 && zeroFld (m.w 0) 38 32 && hostAddrOk (m.w 2) && zeroFld (m.w 3) 39 32) fun s =>
    let x := if off = 0 || (s.sec.slot s.sec.spare).staged then s.sec.unstage else s.sec
    let old := (x.slot x.spare).image
    if off != old.length || decide (imageMax < off + len) then .done .badArg [] s
    else if s.flashBusy || s.sec.activation.isSome then .done .busy [] s
    else if !s.loadsOpen || decide (host.length < len) then .done .fault [] (s.modSec fun _ => x)
    else .wait .flash (s.modSec fun _ => x.setSlot x.spare { image := old ++ host.take len, staged := false }))

/-- The running release is older than ADOPT_MIN of the staged image. -/
def Security.tooOld (x : Security) : Bool :=
  let h := (x.slot x.spare).image
  decide (x.major * 256 + x.minor < leAt h 6 1 * 256 + leAt h 7 1)

/-- FW_ACTIVATE, at once. -/
def execFwActivate (m : Msg) (s : State) : Host.Outcome State Fault Refusal :=
  if m.w 0 == 0x4143545652 then .refused (.illFormed "FW_ACTIVATE with the confirmation word of R413")
  else
    .next (mailRun 0x702 permitR0 m s false (lenIs m 1 && m.w 0 == 0x4143545600) fun s =>
      if !(s.sec.slot s.sec.spare).staged || s.sec.tooOld || s.sec.debugOpen.contains 0 then .done .state [] s
      else
        let k := s.sec.spare
        let s := s.modSec fun x => { x.writeBoot x.active k with activation := some { slot := k, start := s.now } }
        .wait .fwActivate (s.startCoreReset 0x20))

/-- FW_ACTIVATE, at the next system reset. -/
def execFwActivateAtReset (m : Msg) (s : State) : Host.Outcome State Fault Refusal :=
  if m.w 0 != 0x4143545652 then .refused (.illFormed "FW_ACTIVATE without the confirmation word of R413")
  else
    .next (mailRun 0x702 permitR0 m s false (lenIs m 1) fun s =>
      if !(s.sec.slot s.sec.spare).staged then .done .state [] s
      else if s.flashBusy then .done .busy [] s
      else .wait .flash s)

/-- What a flash operation that ended well was for. (log 88 DEDUCED) -/
def State.flashDone (s : State) (i : Inflight) : State :=
  let x := s.sec
  if i.opcode = 0x702 then
    (s.modSec fun x => x.writeBoot x.active (0x80 + x.spare)).finishWait .flash .ok
  else if !bit (pw i.payload 0) 39 then s.finishWait .flash .ok
  else if x.imageOk (x.slot x.spare).image then
    (s.modSec fun x => x.setSlot x.spare { x.slot x.spare with staged := true }).finishWait .flash .ok
  else s.finishWait .flash .denied

/-- FLASH_OPERATION_DONE. -/
def execFlashOperationDone (ok : Bool) (s : State) : Host.Outcome State Fault Refusal :=
  .next (match s.inflight? fun i => i.wait == .flash with
    | none => s
    | some i => if s.phokelStops then s else if ok then s.flashDone i else s.finishWait .flash .fault)

end Sys2Proof.Machine
end

