-- ==== Sys2Proof/Machine/System.lean ====
section
/-! DEFINITION. The system, log and factory commands (12_mailbox_and_commands.md R371, R372, R377, R389, R390) and the event barrier
(11_host_link_and_dma.md R354). -/
namespace Sys2Proof.Machine

/-- NOP. -/
def execNop (m : Msg) (s : State) : Host.Outcome State Fault Refusal :=
  .next (mailRun 0x000 permitRLB m s false (lenIs m 0) okNext)

/-- VERSION. -/
def execVersion (m : Msg) (s : State) : Host.Outcome State Fault Refusal :=
  .next (mailRun 0x001 permitRLB m s false (lenIs m 0) fun s =>
    .done .ok [s.sec.version0, mkWord [(39, 34, s.sec.rollback)], s.chipId] s)

/-- SYS_STATUS (Table 12-5). -/
def State.sysStatus (s : State) : List Word :=
  let n := fun (d : Nat) => min 127 (s.mail.count d)
  [mkWord [(39, 37, s.ledger.pstate.code), (36, 35, s.sec.lifecycle.code), (34, 34, b2n (!s.sec.debugOpen.isEmpty)), (33, 32, s.mail.shed), (31, 16, s.mail.mcRestarts)],
    mkWord [(39, 33, n 0), (32, 26, n 1), (25, 19, n 2), (18, 12, n 3)], mkWord [(39, 20, min 1048575 (s.heartWait.getD 0 / cyclesPerUs))]]

def execSysStatus (m : Msg) (s : State) : Host.Outcome State Fault Refusal :=
  .next (mailRun 0x002 permitRLB m s false (lenIs m 0) fun s => .done .ok s.sysStatus s)

/-- FENCE (R371). -/
def execFence (m : Msg) (s : State) : Host.Outcome State Fault Refusal :=
  .next (mailRun 0x003 permitRLB m s false (lenIs m 0) fun s => .wait .fence s)

/-- DOOR_CFG: THRESH of one note queue (R363). -/
def execDoorCfg (m : Msg) (s : State) : Host.Outcome State Fault Refusal :=
  let d := fld (m.w 0) 39 38
  let k := fld (m.w 0) 37 36
  .next (mailRun 0x005 permitRL0 m s false (lenIs m 1 && k != 3 && fld (m.w 0) 35 30 != 0 && zeroFld (m.w 0) 29 0) fun s =>
    okNext (s.setNote d k { s.note d k with thresh := fld (m.w 0) 35 30 }))

/-! The event barrier. -/

/-- T of a barrier in ns: both words 0 for the time of acceptance. -/
def State.barrierTime (s : State) (m : Msg) : Option Nat := if m.w 0 = 0 && m.w 1 = 0 then some s.acceptNs else ptpNs (m.w 0) (m.w 1)

/-- At most 1 s ahead and 500 s behind (R372). -/
def State.barrierOk (s : State) (m : Msg) : Bool :=
  match s.barrierTime m with
  | some t => decide (t ≤ s.acceptNs + 1000000000) && decide (s.acceptNs ≤ t + 500000000000)
  | none => false

def execEventBarrier (m : Msg) (s : State) : Host.Outcome State Fault Refusal :=
  .next (mailRun 0x004 permitRL m s false (lenIs m 2 && s.barrierOk m) fun s => .wait (.barrier ((s.barrierTime m).getD 0)) s)

/-- A stamp lies at or before T (00 R15). -/
def stampBy (w : Word) (t : Nat) : Bool := decide (stampDiff w (shortStamp t) ≤ 0)

/-- Occurrences stamped at or before T reach their destinations, in their order, and before each one those of the same event that came
earlier, whatever their stamps (01 R26). (log 92 DEDUCED) -/
def State.routeUntil : Nat → State → Nat → State
  | 0, s, _ => s
  | n + 1, s, t =>
    let due := fun (o : Occ) => s.router.queue.any fun p => p.id == o.id && stampBy p.stamp t
    match s.router.queue.find? due with
    | none => s
    | some o => State.routeUntil n (({ s with router := { s.router with queue := eraseFirst due s.router.queue } }).routeOcc o) t

/-- Holdoffs of vectors that hold an occurrence stamped at or before T end (R354). (log 92 DEDUCED) -/
def State.endHoldoffs (s : State) (t : Nat) : State :=
  (s.router.vectors.filter fun (x : Nat × Vector) => x.2.merged.any fun w => stampBy w t).foldl (fun (s : State) x => s.msixEmit x.1) s

/-- A trouble-log entry stamped at or before T waits for the log, or a cue waits to be armed. -/
def State.undelivered (s : State) (t : Nat) : Bool :=
  (s.log.queue.any fun e => stampBy (BitVec.ofNat 40 (e.bits.toNat / 2 ^ 88)) t) || s.tu.cues.any fun (x : Nat × Cue) => x.2.arm && x.2.armEdge.isNone

/-- The oldest barrier whose T lies 2 µs back (R354). -/
def State.barrierDue (s : State) : Option Nat :=
  (s.mail.inflight.filterMap fun i => match i.wait with | .barrier t => if t + 2000 ≤ s.dtNs then some t else none | _ => none).head?

/-- EVENT_BARRIER_DONE: what is stamped at or before T is delivered; the response follows once nothing of it waits any more. (log 92 DEDUCED) -/
def State.barrierDone (s : State) : State :=
  match s.barrierDue with
  | none => s
  | some t =>
    let s := (s.routeUntil s.router.queue.length t).endHoldoffs t
    if s.undelivered t then s else s.finishWait (.barrier t) .ok [shortStamp t]

def execEventBarrierDone (s : State) : Host.Outcome State Fault Refusal :=
  .next (if s.phokelStops then s else s.barrierDone)

/-! The trouble log (R389; 15 R438, R439; 01 R38). -/

def TroubleLog.entry (l : TroubleLog) (i : Nat) : BitVec 128 := (l.entries.lookup i).getD 0

/-- An entry as LOG_READ returns it: BAD_ENTRY set where its parity check fails. -/
def TroubleLog.returned (l : TroubleLog) (bad : List Nat) (i : Nat) : BitVec 128 :=
  if bad.contains i then l.entry i ||| BitVec.ofNat 128 (2 ^ 65) else l.entry i

/-- LOG_READ. (log 53 DEDUCED) -/
def execLogRead (m : Msg) (bad : List Nat) (s : State) : Host.Outcome State Fault Refusal :=
  let first := fld (m.w 0) 39 28
  let count := fld (m.w 0) 27 15
  let host := bit (m.w 0) 14
  let argsOk := zeroFld (m.w 0) 13 0 && decide (count ≤ 4096) &&
    (if host then lenIs m 3 && hostAddrOk (m.w 2) else lenIs m 1 && decide (count ≤ 15))
  .next (mailRun 0x803 permitRLB m s (host && m.door != 0) argsOk fun s =>
    let idx := (List.range count).map fun i => (first + i) % 4096
    let s := (idx.filter fun i => bad.contains i).foldl (fun (s : State) _ => s.parityError evFabric evFabric 3 0) s
    let es := idx.map (s.log.returned bad)
    if host then okNext (s.hostWrite (hostAddr (m.w 1) (m.w 2)) (es.flatMap fun e => bytesLE 16 e.toNat))
    else .done .ok (es.flatMap fun e => wordsOfNat 4 e.toNat) s)

/-- LOG_INFO. -/
def execLogInfo (m : Msg) (s : State) : Host.Outcome State Fault Refusal :=
  .next (mailRun 0x804 permitRLB m s false (lenIs m 0) fun s =>
    .done .ok [mkWord [(39, 28, s.log.next), (27, 15, s.log.fill), (14, 0, s.log.wraps)]] s)

/-- Factory test commands (R390): DENIED outside FACTORY; in FACTORY the manual does not define them. (log 95 DEDUCED) -/
def execFactoryCommand (opcode : BitVec 12) (m : Msg) (s : State) : Host.Outcome State Fault Refusal :=
  if opcode.toNat < 0xF00 then .refused (.illFormed "factory opcode below 0xF00")
  else if !s.takes m.door then .next s
  else if s.sec.lifecycle = .factory then .refused (.factoryTest opcode.toNat)
  else .next (mailDone opcode.toNat m .denied [] s)

end Sys2Proof.Machine
end

