-- ==== Sys2Proof/Machine/Accept.lean ====
section
/-! DEFINITION. Phokel takes messages from the note queues (12_mailbox_and_commands.md R360 to R363, R366, R374): which one, torn ones,
cut-through, and the command that a message carries. -/
namespace Sys2Proof.Machine

/-- A message as its header and its payload words spell it (R366). (log 93 DEDUCED) -/
def msgOf (door : Nat) (header : Word) (payload : List Word) : Msg :=
  { door := door, tag := BitVec.ofNat 12 (fld header 19 8), flags := BitVec.ofNat 8 (fld header 7 0), payload := payload }

/-- OPCODE of a header. -/
def headerOp (w : Word) : Nat := fld w 39 28

/-- The word that confirms an FW_ACTIVATE at the next reset (13 R413). -/
def atResetWord : Word := 0x4143545652

/-- The command that a message carries. `host`, `found` and `bad` are what it reads from host memory, the drives, and memory that fails
its parity check. -/
def runOpcode (op : Nat) (m : Msg) (host : List Byte) (found : RingFound) (bad : List Nat) (s : State) : Host.Outcome State Fault Refusal :=
  match op with
  | 0x000 => execNop m s | 0x001 => execVersion m s | 0x002 => execSysStatus m s | 0x003 => execFence m s | 0x004 => execEventBarrier m s
  | 0x005 => execDoorCfg m s | 0x006 => execSysReset m s | 0x007 => execCoreReset m s
  | 0x100 => execPortCfg m s | 0x101 => execPortBond m s | 0x102 => execPortPower m s | 0x103 => execPortTrain m s | 0x104 => execPortStop m s
  | 0x105 => execPortWake m s | 0x106 => execSensorWrite m s | 0x107 => execSensorRead m s | 0x108 => execTrigMapSet m s
  | 0x109 => execEpochMapSet m s | 0x10A => execCamStatus m s
  | 0x200 => execTimeCfg m s | 0x201 => execTimeSet m s | 0x202 => execTravelSet m s | 0x203 => execAxisCfg m s | 0x204 => execFusionCfg m s
  | 0x205 => execMarkCfg m s | 0x207 => execGateWrite m s | 0x208 => execCueWrite m s | 0x209 => execCueRead m s | 0x20A => execEpochDefine m s
  | 0x20B => if bit (m.w 0) 35 then execEpochLaunchFromSync m s else execEpochLaunch m s
  | 0x300 => execCtxBind m s | 0x301 => execCtxUnbind m s | 0x302 => execCtxMove m s | 0x303 => execCtxStampCfg m s
  | 0x304 => if bit (m.w 0) 19 then execCtxParamWriteHost m host s else execCtxParamWrite m s
  | 0x305 => execCtxCommit m (!bad.isEmpty) s | 0x306 => execCtxTableLoad m host s | 0x307 => execCtxStatsInfo m s
  | 0x308 => execCtxStatsHost m s | 0x309 => execCtxLoopCfg m s
  | 0x400 => execOutCfg m s | 0x401 => execOutCoefLoad m host s | 0x402 => execOutHostRing m s | 0x403 => execAccordCfg m s
  | 0x404 => execAccordSource m s | 0x405 => execAccordMeshLoad m host s | 0x406 => execAccordOverlay m s | 0x407 => execCheckAssign m s
  | 0x408 => execStreamCfg m s | 0x409 => execBbPortCfg m s | 0x40A => execBbGclLoad m s | 0x40B => execBbGclSet m s | 0x40C => execBbShaper m s
  | 0x500 => execRingFormat m s | 0x501 => execRingStart m found s | 0x502 => execRingStop m s | 0x503 => execRingCfg m s
  | 0x504 => execRingPlan m s | 0x505 => execRingFreeze m s | 0x506 => execRingRelease m s
  | 0x507 => if fld (m.w 0) 38 23 = 0 then execRingReadEnd m s else execRingRead m s
  | 0x508 => execRingWindow m s
  | 0x600 => execLedgerCfg m s | 0x601 => execLedgerCommission m s | 0x602 => execLedgerStatus m s
  | 0x603 => if powerTarget m = 0 then execPowerStateRun m s else execPowerStateLow m s
  | 0x604 => execPowerCap m s
  | 0x700 => execAttestQuote m s | 0x701 => execFwStage m host s
  | 0x702 => if m.w 0 = atResetWord then execFwActivateAtReset m s else execFwActivate m s
  | 0x703 => execDebugChallenge m s | 0x704 => execDebugOpen m host s | 0x705 => execDebugClose m s
  | 0x706 => if bit (m.w 0) 37 then execOwnerKeyRevoke m host s else execOwnerKeyInstall m host s
  | 0x707 => execLifecycleSet m host s | 0x708 => execDoorSecretSet m host s
  | 0x800 => execUnitDrain m s | 0x801 => execUnitReset m s | 0x802 => execUnitReadmit m s | 0x803 => execLogRead m bad s
  | 0x804 => execLogInfo m s
  | _ => if 0xF00 ≤ op then execFactoryCommand (BitVec.ofNat 12 op) m s else .next (mailDone op m .badOpcode [] s)

/-- A bulk load under R374: always, or with HOST set. -/
def bulkLoad (op : Nat) (w0 : Word) : Bool := [0x306, 0x401, 0x405, 0x40A, 0x701, 0x803].contains op || (op == 0x304 && bit w0 19)

/-- Base-note bulk loads wait: the shed level is 1 or above, or rises to it in this cycle (R374, Table 12-14). (log 117 DEDUCED) -/
def State.loadsWait (s : State) : Bool := decide (1 ≤ s.mail.shed) || decide (2 * cyclesPerMs < s.heartWait.getD 0)

/-- Whether the message at the head of a queue may be taken now, and when its header arrived. (log 71 DEDUCED, 85 DEDUCED) -/
def State.offers (s : State) (door note : Nat) : Option Nat :=
  match (s.note door note).words with
  | [] => none
  | h :: r =>
    let whole := h.torn.isSome || decide (headerLen h.w ≤ r.length) || decide ((s.note door note).thresh ≤ r.length + 1)
    let held := note == 2 && s.loadsWait && h.torn.isNone && bulkLoad (headerOp h.w) ((r.map fun x => x.w).headD 0)
    if s.takes door && whole && !held then some h.at_ else none

/-- The queue that is read next: by note, then by the arrival of the header, then by door. (log 71 DEDUCED) -/
def State.nextQueue (s : State) : Option (Nat × Nat) :=
  let l := (List.range 3).flatMap fun k => (List.range 4).filterMap fun d => (s.offers d k).map fun t => (t, d, k)
  let first := (List.range 3).findSome? fun k => (sortByKey (fun (x : Nat × Nat × Nat) => x.1) (l.filter fun x => x.2.2 == k)).head?
  first.map fun x => (x.2.1, x.2.2)

/-- A message in full is executed. (log 71 DEDUCED) -/
def State.runMessage (s : State) (door session : Nat) (header : Word) (payload : List Word) (host : List Byte) (found : RingFound) (bad : List Nat) :
    Host.Outcome State Fault Refusal :=
  runOpcode (headerOp header) (msgOf door header payload) host found bad (s.modMail fun m => { m with curSession := session })

/-- The message at the head of a queue is taken: a torn one completes with FAULT, a whole one runs, and one that is still arriving is
read on (R360, R363). (log 85 DEDUCED) -/
def State.takeHead (s : State) (door note : Nat) (host : List Byte) (found : RingFound) (bad : List Nat) : Host.Outcome State Fault Refusal :=
  let n := (s.note door note).mended s.now
  let s := if door = 2 && n != s.note door note then s.modBoard fun b => { b with twAck := true } else s
  match n.words with
  | [] => .next s
  | h :: r =>
    let len := headerLen h.w
    match h.torn with
    | some k =>
      .next ((s.setNote door note { n with words := r.drop k }).respond door (headerOp h.w) (fld h.w 19 8) (fld h.w 7 0) h.session .fault [])
    | none =>
      let ws := (r.take len).map fun x => x.w
      let s := s.setNote door note { n with words := r.drop len }
      if len ≤ r.length then s.runMessage door h.session h.w ws host found bad
      else .next (s.modMail fun m => { m with taking := some { door := door, note := note, header := h.w, words := ws, session := h.session, since := s.now, accepted := s.dtNs, mute := false } })

/-- A message whose last word came after its acceptance is executed: what its rules judge at acceptance they judge at that time (R362). -/
def State.runTaken (s : State) (t : Taking) (host : List Byte) (found : RingFound) (bad : List Nat) : Host.Outcome State Fault Refusal :=
  match (s.modMail fun m => { m with taking := none, accepted := some t.accepted, mute := t.mute }).runMessage t.door t.session t.header t.words host found bad with
  | .next s' => .next (s'.modMail fun m => { m with accepted := none, mute := false })
  | o => o

/-- A queue whose door is taken from, with a header that was refused: Phokel completes its message with FAULT (R360). (log 174 DEDUCED) -/
def State.lostHead (s : State) : Option (Nat × Nat × NoteWord) :=
  (List.range 12).findSome? fun k => match (s.note (k / 3) (k % 3)).lost with
    | x :: _ => if s.takes (k / 3) then some (k / 3, k % 3, x) else none
    | [] => none

/-- MESSAGE_ACCEPT: a message begun is taken to its end before another (R362). -/
def execMessageAccept (host : List Byte) (found : RingFound) (bad : List Nat) (s : State) : Host.Outcome State Fault Refusal :=
  match s.mail.taking with
  | some t =>
    if t.words.length < headerLen t.header || !s.takes t.door then .next s
    else s.runTaken t host found bad
  | none =>
    match s.nextQueue with
    | some (d, k) => s.takeHead d k host found bad
    | none => match s.lostHead with
      | some (d, k, h) =>
        .next ((s.setNote d k { s.note d k with lost := (s.note d k).lost.tail }).respond d (headerOp h.w) (fld h.w 19 8) (fld h.w 7 0) h.session .fault [])
      | none => .next s

end Sys2Proof.Machine
end

