-- ==== Sys2Proof/Machine/Dispatch.lean ====
section
/-! DEFINITION. One arm per command of spec/opcode_table.json, in the table's order: what the command does. -/
namespace Sys2Proof.Machine

/-- The effect of a command on everything but the queue of waiting commands. -/
def exec (i : Instr) (s : State) : Host.Outcome State Fault Refusal :=
  match i with
  | .nop x0 => Sys2Proof.Machine.execNop x0 s
  | .version x0 => Sys2Proof.Machine.execVersion x0 s
  | .sysStatus x0 => Sys2Proof.Machine.execSysStatus x0 s
  | .fence x0 => Sys2Proof.Machine.execFence x0 s
  | .eventBarrier x0 => Sys2Proof.Machine.execEventBarrier x0 s
  | .eventBarrierDone => Sys2Proof.Machine.execEventBarrierDone s
  | .doorCfg x0 => Sys2Proof.Machine.execDoorCfg x0 s
  | .sysReset x0 => Sys2Proof.Machine.execSysReset x0 s
  | .coreReset x0 => Sys2Proof.Machine.execCoreReset x0 s
  | .portCfg x0 => Sys2Proof.Machine.execPortCfg x0 s
  | .portBond x0 => Sys2Proof.Machine.execPortBond x0 s
  | .portPower x0 => Sys2Proof.Machine.execPortPower x0 s
  | .portTrain x0 => Sys2Proof.Machine.execPortTrain x0 s
  | .portStop x0 => Sys2Proof.Machine.execPortStop x0 s
  | .portWake x0 => Sys2Proof.Machine.execPortWake x0 s
  | .sensorWrite x0 => Sys2Proof.Machine.execSensorWrite x0 s
  | .sensorRead x0 => Sys2Proof.Machine.execSensorRead x0 s
  | .trigMapSet x0 => Sys2Proof.Machine.execTrigMapSet x0 s
  | .epochMapSet x0 => Sys2Proof.Machine.execEpochMapSet x0 s
  | .camStatus x0 => Sys2Proof.Machine.execCamStatus x0 s
  | .timeCfg x0 => Sys2Proof.Machine.execTimeCfg x0 s
  | .timeSet x0 => Sys2Proof.Machine.execTimeSet x0 s
  | .travelSet x0 => Sys2Proof.Machine.execTravelSet x0 s
  | .axisCfg x0 => Sys2Proof.Machine.execAxisCfg x0 s
  | .fusionCfg x0 => Sys2Proof.Machine.execFusionCfg x0 s
  | .markCfg x0 => Sys2Proof.Machine.execMarkCfg x0 s
  | .gateWrite x0 => Sys2Proof.Machine.execGateWrite x0 s
  | .cueWrite x0 => Sys2Proof.Machine.execCueWrite x0 s
  | .cueRead x0 => Sys2Proof.Machine.execCueRead x0 s
  | .epochDefine x0 => Sys2Proof.Machine.execEpochDefine x0 s
  | .epochLaunch x0 => Sys2Proof.Machine.execEpochLaunch x0 s
  | .epochLaunchFromSync x0 => Sys2Proof.Machine.execEpochLaunchFromSync x0 s
  | .ctxBind x0 => Sys2Proof.Machine.execCtxBind x0 s
  | .ctxUnbind x0 => Sys2Proof.Machine.execCtxUnbind x0 s
  | .ctxMove x0 => Sys2Proof.Machine.execCtxMove x0 s
  | .ctxStampCfg x0 => Sys2Proof.Machine.execCtxStampCfg x0 s
  | .ctxParamWrite x0 => Sys2Proof.Machine.execCtxParamWrite x0 s
  | .ctxParamWriteHost x0 x1 => Sys2Proof.Machine.execCtxParamWriteHost x0 x1 s
  | .ctxCommit x0 x1 => Sys2Proof.Machine.execCtxCommit x0 x1 s
  | .ctxTableLoad x0 x1 => Sys2Proof.Machine.execCtxTableLoad x0 x1 s
  | .ctxStatsInfo x0 => Sys2Proof.Machine.execCtxStatsInfo x0 s
  | .ctxStatsHost x0 => Sys2Proof.Machine.execCtxStatsHost x0 s
  | .ctxLoopCfg x0 => Sys2Proof.Machine.execCtxLoopCfg x0 s
  | .outCfg x0 => Sys2Proof.Machine.execOutCfg x0 s
  | .outCoefLoad x0 x1 => Sys2Proof.Machine.execOutCoefLoad x0 x1 s
  | .outHostRing x0 => Sys2Proof.Machine.execOutHostRing x0 s
  | .accordCfg x0 => Sys2Proof.Machine.execAccordCfg x0 s
  | .accordSource x0 => Sys2Proof.Machine.execAccordSource x0 s
  | .accordMeshLoad x0 x1 => Sys2Proof.Machine.execAccordMeshLoad x0 x1 s
  | .accordOverlay x0 => Sys2Proof.Machine.execAccordOverlay x0 s
  | .checkAssign x0 => Sys2Proof.Machine.execCheckAssign x0 s
  | .streamCfg x0 => Sys2Proof.Machine.execStreamCfg x0 s
  | .bbPortCfg x0 => Sys2Proof.Machine.execBbPortCfg x0 s
  | .bbGclLoad x0 => Sys2Proof.Machine.execBbGclLoad x0 s
  | .bbGclSet x0 => Sys2Proof.Machine.execBbGclSet x0 s
  | .bbShaper x0 => Sys2Proof.Machine.execBbShaper x0 s
  | .ringFormat x0 => Sys2Proof.Machine.execRingFormat x0 s
  | .ringStart x0 x1 => Sys2Proof.Machine.execRingStart x0 x1 s
  | .ringStop x0 => Sys2Proof.Machine.execRingStop x0 s
  | .ringCfg x0 => Sys2Proof.Machine.execRingCfg x0 s
  | .ringPlan x0 => Sys2Proof.Machine.execRingPlan x0 s
  | .ringFreeze x0 => Sys2Proof.Machine.execRingFreeze x0 s
  | .ringRelease x0 => Sys2Proof.Machine.execRingRelease x0 s
  | .ringRead x0 => Sys2Proof.Machine.execRingRead x0 s
  | .ringReadEnd x0 => Sys2Proof.Machine.execRingReadEnd x0 s
  | .ringWindow x0 => Sys2Proof.Machine.execRingWindow x0 s
  | .ledgerCfg x0 => Sys2Proof.Machine.execLedgerCfg x0 s
  | .ledgerCommission x0 => Sys2Proof.Machine.execLedgerCommission x0 s
  | .ledgerStatus x0 => Sys2Proof.Machine.execLedgerStatus x0 s
  | .powerStateLow x0 => Sys2Proof.Machine.execPowerStateLow x0 s
  | .powerStateRun x0 => Sys2Proof.Machine.execPowerStateRun x0 s
  | .powerCap x0 => Sys2Proof.Machine.execPowerCap x0 s
  | .attestQuote x0 => Sys2Proof.Machine.execAttestQuote x0 s
  | .fwStage x0 x1 => Sys2Proof.Machine.execFwStage x0 x1 s
  | .fwActivate x0 => Sys2Proof.Machine.execFwActivate x0 s
  | .fwActivateAtReset x0 => Sys2Proof.Machine.execFwActivateAtReset x0 s
  | .debugChallenge x0 => Sys2Proof.Machine.execDebugChallenge x0 s
  | .debugOpen x0 x1 => Sys2Proof.Machine.execDebugOpen x0 x1 s
  | .debugClose x0 => Sys2Proof.Machine.execDebugClose x0 s
  | .ownerKeyInstall x0 x1 => Sys2Proof.Machine.execOwnerKeyInstall x0 x1 s
  | .ownerKeyRevoke x0 x1 => Sys2Proof.Machine.execOwnerKeyRevoke x0 x1 s
  | .lifecycleSet x0 x1 => Sys2Proof.Machine.execLifecycleSet x0 x1 s
  | .doorSecretSet x0 x1 => Sys2Proof.Machine.execDoorSecretSet x0 x1 s
  | .unitDrain x0 => Sys2Proof.Machine.execUnitDrain x0 s
  | .unitReset x0 => Sys2Proof.Machine.execUnitReset x0 s
  | .unitReadmit x0 => Sys2Proof.Machine.execUnitReadmit x0 s
  | .logRead x0 x1 => Sys2Proof.Machine.execLogRead x0 x1 s
  | .logInfo x0 => Sys2Proof.Machine.execLogInfo x0 s
  | .factoryCommand x0 x1 => Sys2Proof.Machine.execFactoryCommand x0 x1 s
  | .doorPush x0 x1 x2 => Sys2Proof.Machine.execDoorPush x0 x1 x2 s
  | .messageAccept x0 x1 x2 => Sys2Proof.Machine.execMessageAccept x0 x1 x2 s
  | .doorWordTimeout => Sys2Proof.Machine.execDoorWordTimeout s
  | .responseRingRelease => Sys2Proof.Machine.execResponseRingRelease s
  | .shedLevelRise => Sys2Proof.Machine.execShedLevelRise s
  | .shedLevelFall => Sys2Proof.Machine.execShedLevelFall s
  | .doorHello x0 x1 x2 => Sys2Proof.Machine.execDoorHello x0 x1 x2 s
  | .doorOpen x0 x1 x2 => Sys2Proof.Machine.execDoorOpen x0 x1 x2 s
  | .doorMsg x0 x1 x2 => Sys2Proof.Machine.execDoorMsg x0 x1 x2 s
  | .doorClose x0 x1 x2 => Sys2Proof.Machine.execDoorClose x0 x1 x2 s
  | .doorSessionIdle x0 => Sys2Proof.Machine.execDoorSessionIdle x0 s
  | .twAddressMatch x0 x1 => Sys2Proof.Machine.execTwAddressMatch x0 x1 s
  | .twRegisterWrite x0 => Sys2Proof.Machine.execTwRegisterWrite x0 s
  | .boardRespDataRead => Sys2Proof.Machine.execBoardRespDataRead s
  | .boardRespPlace => Sys2Proof.Machine.execBoardRespPlace s
  | .twStuckBus => Sys2Proof.Machine.execTwStuckBus s
  | .attnRequest x0 => Sys2Proof.Machine.execAttnRequest x0 s
  | .regWrite x0 x1 x2 => Sys2Proof.Machine.execRegWrite x0 x1 x2 s
  | .rcRead x0 x1 => Sys2Proof.Machine.execRcRead x0 x1 s
  | .timeNowRead => Sys2Proof.Machine.execTimeNowRead s
  | .eventRaise x0 => Sys2Proof.Machine.execEventRaise x0 s
  | .doorbellRing x0 x1 => Sys2Proof.Machine.execDoorbellRing x0 x1 s
  | .doorbellStop x0 x1 => Sys2Proof.Machine.execDoorbellStop x0 x1 s
  | .engineResume x0 => Sys2Proof.Machine.execEngineResume x0 s
  | .engineForceHalt x0 => Sys2Proof.Machine.execEngineForceHalt x0 s
  | .patgenWrite x0 x1 => Sys2Proof.Machine.execPatgenWrite x0 x1 s
  | .patgenChangeApply x0 => Sys2Proof.Machine.execPatgenChangeApply x0 s
  | .patgenChangeTimeout x0 => Sys2Proof.Machine.execPatgenChangeTimeout x0 s
  | .patgenLine x0 => Sys2Proof.Machine.execPatgenLine x0 s
  | .strobeCfgWrite x0 x1 => Sys2Proof.Machine.execStrobeCfgWrite x0 x1 s
  | .trainingFrameRx x0 x1 x2 x3 => Sys2Proof.Machine.execTrainingFrameRx x0 x1 x2 x3 s
  | .trainStepTimeout x0 => Sys2Proof.Machine.execTrainStepTimeout x0 s
  | .trainRetry x0 => Sys2Proof.Machine.execTrainRetry x0 s
  | .lineSetRepeat x0 => Sys2Proof.Machine.execLineSetRepeat x0 s
  | .portTrained x0 => Sys2Proof.Machine.execPortTrained x0 s
  | .portLoss x0 => Sys2Proof.Machine.execPortLoss x0 s
  | .idleEntry x0 x1 => Sys2Proof.Machine.execIdleEntry x0 x1 s
  | .wakeComplete x0 => Sys2Proof.Machine.execWakeComplete x0 s
  | .wakeTimeout x0 => Sys2Proof.Machine.execWakeTimeout x0 s
  | .bondIdleSkew x0 => Sys2Proof.Machine.execBondIdleSkew x0 s
  | .blockRx x0 x1 => Sys2Proof.Machine.execBlockRx x0 x1 s
  | .replayDeadline x0 => Sys2Proof.Machine.execReplayDeadline x0 s
  | .blockRelease x0 => Sys2Proof.Machine.execBlockRelease x0 s
  | .replyTimeout x0 x1 => Sys2Proof.Machine.execReplyTimeout x0 x1 s
  | .portBondSkew x0 => Sys2Proof.Machine.execPortBondSkew x0 s
  | .triggerRunSend x0 => Sys2Proof.Machine.execTriggerRunSend x0 s
  | .epochMarkSend x0 => Sys2Proof.Machine.execEpochMarkSend x0 s
  | .timebaseCycle => Sys2Proof.Machine.execTimebaseCycle s
  | .travelDegraded => Sys2Proof.Machine.execTravelDegraded s
  | .axisExclude x0 => Sys2Proof.Machine.execAxisExclude x0 s
  | .axisRestored x0 => Sys2Proof.Machine.execAxisRestored x0 s
  | .travelRecovered => Sys2Proof.Machine.execTravelRecovered s
  | .axisStandstill x0 => Sys2Proof.Machine.execAxisStandstill x0 s
  | .encoderEdge x0 x1 x2 x3 x4 => Sys2Proof.Machine.execEncoderEdge x0 x1 x2 x3 x4 s
  | .encoderIndex x0 x1 x2 => Sys2Proof.Machine.execEncoderIndex x0 x1 x2 s
  | .markEdge x0 x1 x2 x3 => Sys2Proof.Machine.execMarkEdge x0 x1 x2 x3 s
  | .phaseEdge x0 x1 => Sys2Proof.Machine.execPhaseEdge x0 x1 s
  | .phaseLost => Sys2Proof.Machine.execPhaseLost s
  | .ppsEdge x0 x1 => Sys2Proof.Machine.execPpsEdge x0 x1 s
  | .asSyncRx x0 x1 => Sys2Proof.Machine.execAsSyncRx x0 x1 s
  | .timeHoldover => Sys2Proof.Machine.execTimeHoldover s
  | .servoUpdate => Sys2Proof.Machine.execServoUpdate s
  | .syncInEdge x0 x1 => Sys2Proof.Machine.execSyncInEdge x0 x1 s
  | .gpioEdge x0 x1 x2 x3 => Sys2Proof.Machine.execGpioEdge x0 x1 x2 x3 s
  | .strobePulseStart x0 => Sys2Proof.Machine.execStrobePulseStart x0 s
  | .syncOutPulse => Sys2Proof.Machine.execSyncOutPulse s
  | .epochEdge => Sys2Proof.Machine.execEpochEdge s
  | .frameTimeout x0 => Sys2Proof.Machine.execFrameTimeout x0 s
  | .facetLineTake x0 x1 => Sys2Proof.Machine.execFacetLineTake x0 x1 s
  | .reductionUndo => Sys2Proof.Machine.execReductionUndo s
  | .facetFrameEnd x0 => Sys2Proof.Machine.execFacetFrameEnd x0 s
  | .rawTapCopy x0 x1 => Sys2Proof.Machine.execRawTapCopy x0 x1 s
  | .rateWindowCheck x0 x1 => Sys2Proof.Machine.execRateWindowCheck x0 x1 s
  | .aeAwbLoop x0 => Sys2Proof.Machine.execAeAwbLoop x0 s
  | .dmaService x0 x1 => Sys2Proof.Machine.execDmaService x0 x1 s
  | .descriptorFetchDone x0 x1 x2 => Sys2Proof.Machine.execDescriptorFetchDone x0 x1 x2 s
  | .dmaDescriptorComplete x0 x1 => Sys2Proof.Machine.execDmaDescriptorComplete x0 x1 s
  | .readbackComplete x0 => Sys2Proof.Machine.execReadbackComplete x0 s
  | .dmaBusError x0 x1 => Sys2Proof.Machine.execDmaBusError x0 x1 s
  | .dmaAutoResume x0 => Sys2Proof.Machine.execDmaAutoResume x0 s
  | .eventRoute => Sys2Proof.Machine.execEventRoute s
  | .vectorHoldoffEnd x0 => Sys2Proof.Machine.execVectorHoldoffEnd x0 s
  | .canvasFrameStart x0 x1 x2 => Sys2Proof.Machine.execCanvasFrameStart x0 x1 x2 s
  | .accordLate x0 => Sys2Proof.Machine.execAccordLate x0 s
  | .gclEntryAdvance x0 => Sys2Proof.Machine.execGclEntryAdvance x0 s
  | .gclConfigChange x0 => Sys2Proof.Machine.execGclConfigChange x0 s
  | .streamPacketSend x0 x1 => Sys2Proof.Machine.execStreamPacketSend x0 x1 s
  | .streamAgeOut x0 => Sys2Proof.Machine.execStreamAgeOut x0 s
  | .bbLinkDown x0 => Sys2Proof.Machine.execBbLinkDown x0 s
  | .bbLinkUp x0 => Sys2Proof.Machine.execBbLinkUp x0 s
  | .bbFrameRx x0 x1 x2 => Sys2Proof.Machine.execBbFrameRx x0 x1 x2 s
  | .pdelayReqSend => Sys2Proof.Machine.execPdelayReqSend s
  | .driveDetect x0 x1 => Sys2Proof.Machine.execDriveDetect x0 x1 s
  | .nvmeCompletion x0 x1 x2 => Sys2Proof.Machine.execNvmeCompletion x0 x1 x2 s
  | .nvmeTimeout x0 => Sys2Proof.Machine.execNvmeTimeout x0 s
  | .driveLinkDown x0 => Sys2Proof.Machine.execDriveLinkDown x0 s
  | .segmentClose => Sys2Proof.Machine.execSegmentClose s
  | .segmentDigestDone => Sys2Proof.Machine.execSegmentDigestDone s
  | .spanSignDone => Sys2Proof.Machine.execSpanSignDone s
  | .windowHeld x0 => Sys2Proof.Machine.execWindowHeld x0 s
  | .labelWrite => Sys2Proof.Machine.execLabelWrite s
  | .retrievalItem x0 => Sys2Proof.Machine.execRetrievalItem x0 s
  | .ledgerCompute x0 x1 => Sys2Proof.Machine.execLedgerCompute x0 x1 s
  | .ledgerShortClear => Sys2Proof.Machine.execLedgerShortClear s
  | .holdEnter x0 => Sys2Proof.Machine.execHoldEnter x0 s
  | .sealDone => Sys2Proof.Machine.execSealDone s
  | .holdExit x0 => Sys2Proof.Machine.execHoldExit x0 s
  | .lowWake x0 => Sys2Proof.Machine.execLowWake x0 s
  | .rehearsalLevelReached => Sys2Proof.Machine.execRehearsalLevelReached s
  | .rehearsalSealDone x0 x1 => Sys2Proof.Machine.execRehearsalSealDone x0 x1 s
  | .rehearsalTimeout => Sys2Proof.Machine.execRehearsalTimeout s
  | .capTestEnd x0 x1 x2 x3 => Sys2Proof.Machine.execCapTestEnd x0 x1 x2 x3 s
  | .powerCapCheck x0 => Sys2Proof.Machine.execPowerCapCheck x0 s
  | .powerCapUndo => Sys2Proof.Machine.execPowerCapUndo s
  | .thermalSample x0 => Sys2Proof.Machine.execThermalSample x0 s
  | .thermalStep => Sys2Proof.Machine.execThermalStep s
  | .hostFlr => Sys2Proof.Machine.execHostFlr s
  | .hostHotReset => Sys2Proof.Machine.execHostHotReset s
  | .hostLinkDown => Sys2Proof.Machine.execHostLinkDown s
  | .hostLinkRetrained x0 x1 => Sys2Proof.Machine.execHostLinkRetrained x0 x1 s
  | .powerOnReset x0 => Sys2Proof.Machine.execPowerOnReset x0 s
  | .sysrstPin x0 => Sys2Proof.Machine.execSysrstPin x0 s
  | .mcWatchdog => Sys2Proof.Machine.execMcWatchdog s
  | .sysWatchdog => Sys2Proof.Machine.execSysWatchdog s
  | .mcParity => Sys2Proof.Machine.execMcParity s
  | .securityViolation x0 => Sys2Proof.Machine.execSecurityViolation x0 s
  | .supplyOff x0 x1 x2 => Sys2Proof.Machine.execSupplyOff x0 x1 x2 s
  | .domainRelease x0 x1 x2 => Sys2Proof.Machine.execDomainRelease x0 x1 x2 s
  | .clockGood x0 => Sys2Proof.Machine.execClockGood x0 s
  | .bootLoaderStart x0 => Sys2Proof.Machine.execBootLoaderStart x0 s
  | .phokelStart x0 => Sys2Proof.Machine.execPhokelStart x0 s
  | .doorsOpen x0 => Sys2Proof.Machine.execDoorsOpen x0 s
  | .powerChainFrame x0 => Sys2Proof.Machine.execPowerChainFrame x0 s
  | .portRecovery x0 => Sys2Proof.Machine.execPortRecovery x0 s
  | .alwaysOnUp x0 => Sys2Proof.Machine.execAlwaysOnUp x0 s
  | .hostLinkUp x0 x1 => Sys2Proof.Machine.execHostLinkUp x0 x1 s
  | .configurationRequest x0 => Sys2Proof.Machine.execConfigurationRequest x0 s
  | .msixTableWrite x0 x1 x2 => Sys2Proof.Machine.execMsixTableWrite x0 x1 x2 s
  | .debugPortAccess x0 => Sys2Proof.Machine.execDebugPortAccess x0 s
  | .debugDomainsAcknowledge => Sys2Proof.Machine.execDebugDomainsAcknowledge s
  | .debugAckTimeout => Sys2Proof.Machine.execDebugAckTimeout s
  | .controllerFatalStatus x0 => Sys2Proof.Machine.execControllerFatalStatus x0 s
  | .cycleOffMsEnd x0 => Sys2Proof.Machine.execCycleOffMsEnd x0 s
  | .backChannelSilenceEnd x0 => Sys2Proof.Machine.execBackChannelSilenceEnd x0 s
  | .flashOperationDone x0 => Sys2Proof.Machine.execFlashOperationDone x0 s
  | .lineMemoryTestEnd x0 x1 => Sys2Proof.Machine.execLineMemoryTestEnd x0 x1 s

end Sys2Proof.Machine
end

