-- ==== Sys2Proof/Machine/Step.lean ====
section
/-! DEFINITION. One step: the command at the front of the queue; on an empty queue the block idles
(notes/assumptions/2). -/
namespace Sys2Proof.Machine

/-- Take the command at the front of the queue and perform it on the state with the queue's rest. (log 2 DESIGN CHOICE, 47 DESIGN CHOICE) -/
def step (s : State) : Host.Outcome State Fault Refusal :=
  match s.pending with
  | [] => .next s
  | i :: r => exec i { s with pending := r }

/-- The command that a word of the opcode table spells, put at the front of the queue; the table gives no row any
bits, so no word spells a command. (log 2 DESIGN CHOICE) -/
def State.withFetchWord (s : State) (nbits w : Nat) : State :=
  match Sys2Proof.decodeTableWord nbits w with
  | some i => { s with pending := i :: s.pending }
  | none => s

end Sys2Proof.Machine
end

