-- ==== Sys2Proof/WellFormed.lean ====
section
/-! DEFINITION. Well-formed commands of a die: what a sender can send and what an event can bring. A message comes from one of the four
doors with at most 255 payload words (12_mailbox_and_commands.md R358, R366); a constructor that stands for one form of an opcode carries
that form's selector; every unit named is on the die (00_scope.md R4, Table 0-1). -/
namespace Sys2Proof

/-- A message that a door can carry (12 R358, R366). -/
def Msg.wf (m : Msg) : Bool := decide (m.door < 4) && decide (m.payload.length ≤ 255)

end Sys2Proof

namespace Sys2Proof.Machine

/-- A command is well formed on a die of variant v. (log 93 DEDUCED) -/
def instrWf (v : Variant) (i : Instr) : Bool :=
  match i with
  | .nop m => m.wf
  | .version m => m.wf
  | .sysStatus m => m.wf
  | .fence m => m.wf
  | .eventBarrier m => m.wf
  | .eventBarrierDone => true
  | .doorCfg m => m.wf
  | .sysReset m => m.wf
  | .coreReset m => m.wf
  | .portCfg m => m.wf
  | .portBond m => m.wf
  | .portPower m => m.wf
  | .portTrain m => m.wf
  | .portStop m => m.wf
  | .portWake m => m.wf
  | .sensorWrite m => m.wf
  | .sensorRead m => m.wf
  | .trigMapSet m => m.wf
  | .epochMapSet m => m.wf
  | .camStatus m => m.wf
  | .timeCfg m => m.wf
  | .timeSet m => m.wf
  | .travelSet m => m.wf
  | .axisCfg m => m.wf
  | .fusionCfg m => m.wf
  | .markCfg m => m.wf
  | .gateWrite m => m.wf
  | .cueWrite m => m.wf
  | .cueRead m => m.wf
  | .epochDefine m => m.wf
  | .epochLaunch m => m.wf && !bit (m.w 0) 35
  | .epochLaunchFromSync m => m.wf && bit (m.w 0) 35
  | .ctxBind m => m.wf
  | .ctxUnbind m => m.wf
  | .ctxMove m => m.wf
  | .ctxStampCfg m => m.wf
  | .ctxParamWrite m => m.wf && !bit (m.w 0) 19
  | .ctxParamWriteHost m _ => m.wf && bit (m.w 0) 19
  | .ctxCommit m _ => m.wf
  | .ctxTableLoad m _ => m.wf
  | .ctxStatsInfo m => m.wf
  | .ctxStatsHost m => m.wf
  | .ctxLoopCfg m => m.wf
  | .outCfg m => m.wf
  | .outCoefLoad m _ => m.wf
  | .outHostRing m => m.wf
  | .accordCfg m => m.wf
  | .accordSource m => m.wf
  | .accordMeshLoad m _ => m.wf
  | .accordOverlay m => m.wf
  | .checkAssign m => m.wf
  | .streamCfg m => m.wf
  | .bbPortCfg m => m.wf
  | .bbGclLoad m => m.wf
  | .bbGclSet m => m.wf
  | .bbShaper m => m.wf
  | .ringFormat m => m.wf
  | .ringStart m _ => m.wf
  | .ringStop m => m.wf
  | .ringCfg m => m.wf
  | .ringPlan m => m.wf
  | .ringFreeze m => m.wf
  | .ringRelease m => m.wf
  | .ringRead m => m.wf && fld (m.w 0) 38 23 != 0
  | .ringReadEnd m => m.wf && fld (m.w 0) 38 23 == 0
  | .ringWindow m => m.wf
  | .ledgerCfg m => m.wf
  | .ledgerCommission m => m.wf
  | .ledgerStatus m => m.wf
  | .powerStateLow m => m.wf && fld (m.w 0) 39 38 != 0
  | .powerStateRun m => m.wf && fld (m.w 0) 39 38 == 0
  | .powerCap m => m.wf
  | .attestQuote m => m.wf
  | .fwStage m _ => m.wf
  | .fwActivate m => m.wf && m.w 0 != 0x4143545652
  | .fwActivateAtReset m => m.wf && m.w 0 == 0x4143545652
  | .debugChallenge m => m.wf
  | .debugOpen m _ => m.wf
  | .debugClose m => m.wf
  | .ownerKeyInstall m _ => m.wf && !bit (m.w 0) 37
  | .ownerKeyRevoke m _ => m.wf && bit (m.w 0) 37
  | .lifecycleSet m _ => m.wf
  | .doorSecretSet m _ => m.wf
  | .unitDrain m => m.wf
  | .unitReset m => m.wf
  | .unitReadmit m => m.wf
  | .logRead m _ => m.wf
  | .logInfo m => m.wf
  | .factoryCommand opcode m => m.wf && decide (0xF00 ≤ opcode.toNat)
  | .doorPush door note _ => decide (door < 4) && decide (note < 3)
  | .messageAccept _ _ _ => true
  | .doorWordTimeout => true
  | .responseRingRelease => true
  | .shedLevelRise => true
  | .shedLevelFall => true
  | .doorHello bb _ _ => v.hasBb bb
  | .doorOpen bb _ _ => v.hasBb bb
  | .doorMsg bb _ _ => v.hasBb bb
  | .doorClose bb _ _ => v.hasBb bb
  | .doorSessionIdle _ => true
  | .twAddressMatch _ _ => true
  | .twRegisterWrite _ => true
  | .boardRespDataRead => true
  | .boardRespPlace => true
  | .twStuckBus => true
  | .attnRequest _ => true
  | .regWrite off size _ => decide (off < 0x4000000) && (size == 1 || size == 2 || size == 4 || size == 8)
  | .rcRead off size => decide (off < 0x4000000) && (size == 1 || size == 2 || size == 4 || size == 8)
  | .timeNowRead => true
  | .eventRaise _ => true
  | .doorbellRing e ch => decide (e < 32) && decide (ch < 32)
  | .doorbellStop e ch => decide (e < 32) && decide (ch < 32)
  | .engineResume e => decide (e < 32)
  | .engineForceHalt e => decide (e < 32)
  | .patgenWrite n _ => decide (n < 96)
  | .patgenChangeApply n => decide (n < v.ports)
  | .patgenChangeTimeout n => decide (n < v.ports)
  | .patgenLine n => decide (n < v.ports)
  | .strobeCfgWrite s _ => decide (s < 32)
  | .trainingFrameRx n symbols _ _ => decide (n < v.ports) && symbols.length == 256
  | .trainStepTimeout n => decide (n < v.ports)
  | .trainRetry n => decide (n < v.ports)
  | .lineSetRepeat n => decide (n < v.ports)
  | .portTrained n => decide (n < v.ports)
  | .portLoss n => decide (n < v.ports)
  | .idleEntry n symbols => decide (n < v.ports) && symbols.length == 64
  | .wakeComplete n => decide (n < v.ports)
  | .wakeTimeout n => decide (n < v.ports)
  | .bondIdleSkew n => decide (n < v.ports)
  | .blockRx n levels => decide (n < v.ports) && levels.length == 693
  | .replayDeadline n => decide (n < v.ports)
  | .blockRelease n => decide (n < v.ports)
  | .replyTimeout n _ => decide (n < v.ports)
  | .portBondSkew n => decide (n < v.ports)
  | .triggerRunSend n => decide (n < v.ports)
  | .epochMarkSend n => decide (n < v.ports)
  | .timebaseCycle => true
  | .travelDegraded => true
  | .axisExclude a => decide (a < 4)
  | .axisRestored a => decide (a < 4)
  | .travelRecovered => true
  | .axisStandstill a => decide (a < 4)
  | .encoderEdge a _ _ _ _ => decide (a < 4)
  | .encoderIndex a _ _ => decide (a < 4)
  | .markEdge k _ _ _ => decide (k < 8)
  | .phaseEdge _ _ => true
  | .phaseLost => true
  | .ppsEdge _ _ => true
  | .asSyncRx bb _ => decide (bb < v.backbone)
  | .timeHoldover => true
  | .servoUpdate => true
  | .syncInEdge _ _ => true
  | .gpioEdge i _ _ _ => decide (i < 16)
  | .strobePulseStart s => decide (s < 32)
  | .syncOutPulse => true
  | .epochEdge => true
  | .frameTimeout x => decide (x < v.contexts)
  | .facetLineTake f _ => decide (f < v.facets)
  | .reductionUndo => true
  | .facetFrameEnd x => decide (x.context < v.contexts)
  | .rawTapCopy x _ => decide (x < v.contexts)
  | .rateWindowCheck x _ => decide (x < v.contexts)
  | .aeAwbLoop x => decide (x.context < v.contexts)
  | .dmaService e _ => decide (e < 32)
  | .descriptorFetchDone e ch _ => decide (e < 32) && decide (ch < 32)
  | .dmaDescriptorComplete e ch => decide (e < 32) && decide (ch < 32)
  | .readbackComplete e => decide (e < 32)
  | .dmaBusError e cause => decide (e < 32) && within 1 5 cause.toNat
  | .dmaAutoResume e => decide (e < 32)
  | .eventRoute => true
  | .vectorHoldoffEnd v_ => decide (v_ < 256)
  | .canvasFrameStart a _ _ => decide (a < v.accords)
  | .accordLate a => decide (a < v.accords)
  | .gclEntryAdvance p => decide (p < v.backbone)
  | .gclConfigChange p => decide (p < v.backbone)
  | .streamPacketSend p _ => v.hasBb p
  | .streamAgeOut s => decide (s < 64)
  | .bbLinkDown p => v.hasBb p
  | .bbLinkUp p => v.hasBb p
  | .bbFrameRx p _ _ => v.hasBb p
  | .pdelayReqSend => true
  | .driveDetect d _ => decide (d < v.drives)
  | .nvmeCompletion d _ _ => decide (d < v.drives)
  | .nvmeTimeout d => decide (d < v.drives)
  | .driveLinkDown d => decide (d < v.drives)
  | .segmentClose => true
  | .segmentDigestDone => true
  | .spanSignDone => true
  | .windowHeld w => decide (w < 16)
  | .labelWrite => true
  | .retrievalItem _ => true
  | .ledgerCompute codes _ => codes.length == 10
  | .ledgerShortClear => true
  | .holdEnter _ => true
  | .sealDone => true
  | .holdExit _ => true
  | .lowWake _ => true
  | .rehearsalLevelReached => true
  | .rehearsalSealDone _ _ => true
  | .rehearsalTimeout => true
  | .capTestEnd _ _ _ _ => true
  | .powerCapCheck _ => true
  | .powerCapUndo => true
  | .thermalSample _ => true
  | .thermalStep => true
  | .hostFlr => true
  | .hostHotReset => true
  | .hostLinkDown => true
  | .hostLinkRetrained width rate => linkOk width rate
  | .powerOnReset _ => true
  | .sysrstPin _ => true
  | .mcWatchdog => true
  | .sysWatchdog => true
  | .mcParity => true
  | .securityViolation _ => true
  | .supplyOff _ _ _ => true
  | .domainRelease _ _ _ => true
  | .clockGood _ => true
  | .bootLoaderStart _ => true
  | .phokelStart _ => true
  | .doorsOpen _ => true
  | .powerChainFrame _ => true
  | .portRecovery n => decide (n < v.ports)
  | .alwaysOnUp _ => true
  | .hostLinkUp width rate => linkOk width rate
  | .configurationRequest _ => true
  | .msixTableWrite entry dword _ => decide (entry < 256) && decide (dword < 4)
  | .debugPortAccess _ => true
  | .debugDomainsAcknowledge => true
  | .debugAckTimeout => true
  | .controllerFatalStatus d => decide (d < v.drives)
  | .cycleOffMsEnd n => decide (n < v.ports)
  | .backChannelSilenceEnd n => decide (n < v.ports)
  | .flashOperationDone _ => true
  | .lineMemoryTestEnd f _ => decide (f < v.facets)

end Sys2Proof.Machine
end

