-- ==== Sys2Proof/Safety.lean ====
section
/-! DEFINITION. What the claims speak of: a command that completes, a message that Phokel takes and answers, a run without a stop. -/
namespace Sys2Proof.Machine

/-- The command ends in a next state in which `post` holds. -/
def Completes (i : Instr) (s : State) (post : State → Prop) : Prop := ∃ t, exec i s = .next t ∧ post t

/-- Phokel takes the message now, and it passes the checks of door, FLAGS and power state that R366, R368 and R376 put before a
command's own: `pm` is the catalogue's Permit column. -/
def State.admits (s : State) (opcode : Nat) (pm : Permit) (m : Msg) : Bool :=
  s.takes m.door && pm.door m.door && zeroFld (BitVec.ofNat 40 m.flags.toNat) 7 2 && (!m.flags.getLsbD 1 || opcode == 0x305) && pm.power s.ledger.pstate

/-- The message has been completed: the state is that of `post` with the response handed to the message's door. -/
def Answered (opcode : Nat) (m : Msg) (st : Status) (payload : List Word) (post : State → Prop) (t : State) : Prop :=
  ∃ u, t = mailDone opcode m st payload u ∧ post u

/-- The state after a message has been accepted whose work continues (R369). -/
def State.withInflight (s : State) (i : Inflight) : State := { s with mail := { s.mail with inflight := s.mail.inflight ++ [i] } }

/-- The message has been accepted and waits for `w`: the state is that of `post` with the record of the message (R370). -/
def Awaits (s : State) (opcode : Nat) (m : Msg) (w : Wait) (post : State → Prop) (t : State) : Prop :=
  ∃ u, t = (u.withInflight (inflightOf s opcode m w)).settleFences ∧ post u

/-- The door has room for one more incomplete message (R369). -/
def State.hasRoom (s : State) (m : Msg) : Bool := decide (s.mail.count m.door < 64)

/-- Between two states exactly one event has been raised, at the end of the queue to the event router (R349). -/
def Raised (s t : State) (id code data : Nat) : Prop :=
  ∃ o : Occ, t.router.queue = s.router.queue ++ [o] ∧ o.id = id ∧ o.code = code ∧ o.data = data

/-- An event has been raised last, behind what else the command raised (R349). -/
def RaisedLast (s t : State) (id code data : Nat) : Prop :=
  ∃ (l : List Occ) (o : Occ), t.router.queue = s.router.queue ++ l ++ [o] ∧ o.id = id ∧ o.code = code ∧ o.data = data

/-- No stop: the command does not end in a fault or a refusal. -/
def goesOn (i : Instr) (s : State) : Prop := ∃ t, exec i s = .next t

/-- A safe run: no command that waits, taken in its turn, ends in a fault. -/
def safeFrom : Nat → State → Prop
  | 0, _ => True
  | n + 1, s => match step s with | .next t => safeFrom n t | .fault _ => False | .refused _ => True

end Sys2Proof.Machine
end

