-- ==== Sys2Proof/Certificates/Slice0/Obligations.lean ====
section
/-! DEFINITION. The statements for the provers: the queue and reset, the mailbox, and then the families of commands in the order of the
spec's chapters. -/

open Sys2Proof Sys2Proof.Machine

/-- For every state, command c and list r, if the queue of waiting commands is c followed by r, then a step is exec of c on the state with r as its queue. With no command waiting a step answers the same state. That commands wait in a queue, and that an empty one idles, is the model's own choice (notes/assumptions/2): time passes only by the command TIMEBASE_CYCLE. (04_travel_and_time.md R106; 95_what_each_step_holds.md) -/
def Obligations.StepPerformsFrontCommand : Prop :=
  (∀ (s : State) (c : Instr) (r : List Instr), s.pending = c :: r → step s = exec c { s with pending := r }) ∧ ∀ s : State, s.pending = [] → step s = .next s

/-- State.reset holds, of the values that the spec gives: cause POWER_ON, no domain released; every note queue empty with THRESH 0x20 and Count otherwise 0; every camera port OFF with RATE_MAX 7.5 GBd, 3 training retries and an announce wait of 200 ms; every context unbound; every Facet in RUN with arbiter weights 8, 4, 2, 1; every Accord OFF; every gate forced closed; every mark OFF; Axis 0 alone enabled; every DMA channel disabled with SIZE 2, READBACK on Channel 31 only; record rings disabled with SIZE 4; the ledger with ETA_PM 900, margin 25 per cent and tolerance 10 per cent; attention enabled for every Attn bit; power state RUN; no trouble-log entry; nothing waiting. (00_scope.md Table 0-2 R5; 12_mailbox_and_commands.md Table 12-2 R361; 14_reset_and_boot.md Tables 14-2, 14-3 R424; 16_board_interfaces.md Table 16-2 R458; 05_ingest_and_contexts.md Table 5-10 R172; 11_host_link_and_dma.md Tables 11-8, 11-16 R344; 06_facet_pipeline.md R193; 02_ray_line.md Table 2-4 R55; 04_travel_and_time.md Tables 4-6 to 4-10 R114; 07_outputs_and_accord.md Tables 7-6, 7-12 R224; 10_energy_ledger.md Table 10-3 R302) -/
def Obligations.ResetLeavesSpecValues : Prop :=
  State.reset.rst.cause = 0x01 ∧ State.reset.rst.released = 0 ∧ State.reset.rst.deferred = 0 ∧
    (∀ d k, (State.reset.note d k).words = [] ∧ (State.reset.note d k).count = 0x0100000000) ∧
    (∀ n, (State.reset.port n).state = .off ∧ (State.reset.port n).rateMax = 2 ∧ (State.reset.port n).trainRetries = 3 ∧ (State.reset.port n).announceWait = 200) ∧
    (∀ c, (State.reset.ctx c).state = .unbound) ∧
    (∀ f, (State.reset.facet f).state = .run ∧ (State.reset.facet f).arb = 0x8421000000) ∧
    (∀ a, (State.reset.accord a).state = .off) ∧
    (∀ g, fld (State.reset.gate g).w2 39 37 = 1) ∧ (∀ k, (State.reset.mark k).use = .off) ∧
    (∀ a, (State.reset.axis a).enable = (a == 0)) ∧
    (∀ e ch, (State.reset.chan e ch).enable = false ∧ (State.reset.chan e ch).size = 2 ∧ (State.reset.chan e ch).readback = ((32 * e + ch) % 32 == 31)) ∧
    State.reset.host.rec0.enabled = false ∧ State.reset.host.rec0.sizeLog = 4 ∧ State.reset.host.rec1.enabled = false ∧ State.reset.host.rec1.sizeLog = 4 ∧
    State.reset.ledger.etaPm = 900 ∧ State.reset.ledger.marginPct = 25 ∧ State.reset.ledger.capTolPct = 10 ∧ State.reset.ledger.pstate = .run ∧
    fld State.reset.board.twCfg 33 24 = 0x3FF ∧ State.reset.log.fill = 0 ∧ State.reset.pending = []

/-- The list of words by which the model holds external memory is in canonical form after reset: addresses strictly rising and no entry equal to what an unlisted address reads as. That an unwritten word reads as 0 is a choice of the model (notes/assumptions/46). (01_architecture.md R36; 14_reset_and_boot.md R421) -/
def Obligations.ResetMemoryIsCanonical : Prop :=
  Memory.wf State.reset.extMem = true

/-- From every state whose external memory is in canonical form, if a step answers a next state, the external memory of that state is in canonical form: equal memories are equal data after any command whatever. The choices of the model that it rests on are those of the assumption log, entry 46. (01_architecture.md R36; 06_facet_pipeline.md R192) -/
def Obligations.StepsKeepMemoryCanonical : Prop :=
  ∀ s t : State, Memory.wf s.extMem = true → step s = .next t → Memory.wf t.extMem = true

/-- From every state, if a step answers a next state, the VARIANT of the die, and with it every limit of Table 0-1 and ChipId, is as before, resets included. (00_scope.md R3, R4, R5; 01_architecture.md Table 0-1) -/
def Obligations.StepsKeepTheDie : Prop :=
  ∀ s t : State, step s = .next t → t.variant = s.variant ∧ t.chipId = s.chipId

/-- From every state a step ends in a next state or in a refusal by name: no command can form an address of external memory that does not exist, so the model's one fault is never raised. (15_service_and_faults.md R437; 01_architecture.md R36) -/
def Obligations.NoStepFaults : Prop :=
  ∀ (s : State) (f : Fault), step s ≠ .fault f

/-- From every state, if a step answers a next state, its lifecycle state is the same or a later one of FACTORY, OWNED-OPEN, OWNED-SEALED, RETIRED: no command, reset or activation leads back, and RETIRED is final. (13_security.md R392, R393) -/
def Obligations.LifecycleNeverGoesBack : Prop :=
  ∀ s t : State, step s = .next t → s.sec.lifecycle.code ≤ t.sec.lifecycle.code

/-- For the taking of any message of the catalogue: while Phokel takes nothing from its door the state is as before; else a door outside the Permit column, or a rule that denies the command, answers DENIED whatever the arguments; else a reserved flag, ATFRAME on any command but CTX_COMMIT, or an argument outside its map answers BAD_ARG whatever the power state; else a power state outside the Permit column answers STATE; and none of these answers has another effect. The choices of the model that it rests on are those of the assumption log, entries 5, 52, 121. (12_mailbox_and_commands.md R366, R368, R376, R371) -/
def Obligations.MessageChecksComeInOrder : Prop :=
  ∀ (opcode : Nat) (pm : Permit) (m : Msg) (s : State) (denied argsOk : Bool) (body : State → Verdict),
    let flagsOk := zeroFld (BitVec.ofNat 40 m.flags.toNat) 7 2 && (!m.flags.getLsbD 1 || opcode == 0x305)
    (s.takes m.door = false → mailRun opcode pm m s denied argsOk body = s) ∧
    (s.takes m.door = true → (pm.door m.door = false ∨ denied = true) → mailRun opcode pm m s denied argsOk body = mailDone opcode m .denied [] s) ∧
    (s.takes m.door = true → pm.door m.door = true → denied = false → (flagsOk = false ∨ argsOk = false) →
      mailRun opcode pm m s denied argsOk body = mailDone opcode m .badArg [] s) ∧
    (s.takes m.door = true → pm.door m.door = true → denied = false → flagsOk = true → argsOk = true → pm.power s.ledger.pstate = false →
      mailRun opcode pm m s denied argsOk body = mailDone opcode m .state [] s)

/-- Completing a message of Door 0, while its link has not been reset since the message was taken: with NORESP and status OK or LATE nothing is posted. Otherwise, where no response is held and Rec[0] is enabled, not full and may be written, the entry at WRITE_IDX is written with the response in host form, then the index slot, and WRITE_IDX advances modulo 2^20. Otherwise the response joins the end of those held back. The header has OPCODE in bits 39:28, the payload length in 27:20, TAG in 19:8 and STATUS in 7:0. The choices of the model that it rests on are those of the assumption log, entry 7. (12_mailbox_and_commands.md R366, R367; 11_host_link_and_dma.md R344, R345) -/
def Obligations.ResponseGoesToRecordRing : Prop :=
  ∀ (opcode : Nat) (m : Msg) (st : Status) (p : List Word) (s : State), m.door = 0 → s.mail.mute = false →
    let words := responseWords opcode m.tag.toNat st p
    let t := mailDone opcode m st p s
    (opcode < 4096 → p.length < 256 →
      fld (pw words 0) 39 28 = opcode ∧ fld (pw words 0) 27 20 = p.length ∧ fld (pw words 0) 19 8 = m.tag.toNat ∧ fld (pw words 0) 7 0 = st.code) ∧
    (∀ k, pw words (k + 1) = pw p k) ∧
    (m.flags.getLsbD 0 = true → (st = .ok ∨ st = .late) → t = s) ∧
    ((m.flags.getLsbD 0 = false ∨ (st ≠ .ok ∧ st ≠ .late)) →
      (s.host.held = [] → s.rec0Open = true →
        t.host.held = [] ∧ t.host.rec0.writeIdx = (s.host.rec0.writeIdx + 1) % 2 ^ 20 ∧
        ∃ newer, t.host.writes = newer ++ { addr := s.host.rec0.base + 512 * 2 ^ s.host.rec0.sizeLog, bytes := bytesLE 8 ((s.host.rec0.writeIdx + 1) % 2 ^ 20 + s.host.rec0.slotDrops * 2 ^ 32) } ::
          { addr := s.host.rec0.base + 512 * (s.host.rec0.writeIdx % 2 ^ s.host.rec0.sizeLog), bytes := hostForms words } :: s.host.writes) ∧
      ((s.host.held ≠ [] ∨ s.rec0Open = false) → t.host.held = s.host.held ++ [words] ∧ t.host.writes = s.host.writes))

/-- Completing a message with any status and payload leaves every piece of state as it is but the host link, the interrupt vectors, the board interface and the backbone: no register of a unit, no memory, no queue of messages changes with the response. (12_mailbox_and_commands.md R367; 11_host_link_and_dma.md R344; 16_board_interfaces.md R467; 08_backbone.md R260) -/
def Obligations.ResponsesChangeNothingElse : Prop :=
  ∀ (opcode : Nat) (m : Msg) (st : Status) (p : List Word) (s : State),
    let t := mailDone opcode m st p s
    t = { s with host := t.host, router := t.router, board := t.board, bb := t.bb } ∧ (m.door ≠ 0 → t.host = s.host ∧ t.router = s.router) ∧
      (m.door ≠ 2 → t.board = s.board) ∧ (m.door ≠ 1 → t.bb = s.bb)

/-- From a permitted door in a permitted power state, with an empty payload, each completes at once with OK. NOP reports nothing; VERSION the running release, ACTIVE_SLOT, ROLLBACK and ChipId; SYS_STATUS PSTATE, LIFECYCLE, DEBUG_OPEN, SHED_LEVEL, MC_RESTARTS and the heart wait; LOG_INFO NEXT, FILL and WRAPS of the log. But for the response the state is as before. (12_mailbox_and_commands.md R377, R387, R389; 00_scope.md R5; 15_service_and_faults.md R438) -/
def Obligations.SystemQueriesAnswer : Prop :=
  ∀ (m : Msg) (s : State), m.payload = [] →
    (s.admits 0x000 permitRLB m = true → exec (.nop m) s = .next (mailDone 0x000 m .ok [] s)) ∧
    (s.admits 0x001 permitRLB m = true → s.sec.major < 256 → s.sec.minor < 256 → s.sec.patch < 65536 → s.sec.active < 2 → s.sec.rollback < 64 →
      ∃ w0 w1, exec (.version m) s = .next (mailDone 0x001 m .ok [w0, w1, s.chipId] s) ∧ fld w0 39 32 = s.sec.major ∧ fld w0 31 24 = s.sec.minor ∧
        fld w0 23 8 = s.sec.patch ∧ fld w0 7 7 = s.sec.active ∧ fld w1 39 34 = s.sec.rollback) ∧
    (s.admits 0x002 permitRLB m = true → s.mail.shed < 4 → s.mail.mcRestarts < 65536 →
      ∃ w0 w1 w2, exec (.sysStatus m) s = .next (mailDone 0x002 m .ok [w0, w1, w2] s) ∧ fld w0 39 37 = s.ledger.pstate.code ∧ fld w0 36 35 = s.sec.lifecycle.code ∧
        bit w0 34 = !s.sec.debugOpen.isEmpty ∧ fld w0 33 32 = s.mail.shed ∧ fld w0 31 16 = s.mail.mcRestarts ∧
        fld w2 39 20 = min 1048575 (s.heartWait.getD 0 / cyclesPerUs)) ∧
    (s.admits 0x804 permitRLB m = true → s.log.next < 4096 → s.log.fill < 8192 → s.log.wraps < 32768 →
      ∃ w, exec (.logInfo m) s = .next (mailDone 0x804 m .ok [w] s) ∧ fld w 39 28 = s.log.next ∧ fld w 27 15 = s.log.fill ∧ fld w 14 0 = s.log.wraps)

/-- With no FENCE waiting: a FENCE whose door has no incomplete message completes at once with OK; one whose door has incomplete messages, and room, is accepted and answered later, no message of that door is taken meanwhile, and other doors go on as before. The choices of the model that it rests on are those of the assumption log, entry 5. (12_mailbox_and_commands.md R371, R369) -/
def Obligations.FenceHoldsItsDoor : Prop :=
  ∀ (m : Msg) (s : State), m.payload = [] → s.admits 0x003 permitRLB m = true → (∀ i ∈ s.mail.inflight, i.wait ≠ .fence) →
    ((∀ i ∈ s.mail.inflight, i.door ≠ m.door) → exec (.fence m) s = .next (mailDone 0x003 m .ok [] s)) ∧
    ((∃ i ∈ s.mail.inflight, i.door = m.door) → s.hasRoom m = true →
      Completes (.fence m) s fun t => t = s.withInflight (inflightOf s 0x003 m .fence) ∧ t.takes m.door = false ∧ ∀ d, d ≠ m.door → t.takes d = s.takes d)

/-- EVENT_BARRIER with T at most 1 s ahead and 500 s behind, both words 0 standing for the time of acceptance, is accepted and waits for T. EVENT_BARRIER_DONE takes the oldest barrier whose T lies 2 µs back, delivers the occurrences stamped at or before T and, where nothing of them waits any more, answers with the short stamp of T. The choices of the model that it rests on are those of the assumption log, entry 92. (12_mailbox_and_commands.md R372; 11_host_link_and_dma.md R354) -/
def Obligations.EventBarrierDelivers : Prop :=
  ∀ (s : State),
    (∀ (m : Msg) (t : Nat), s.admits 0x004 permitRL m = true → s.mail.accepted = none → m.payload.length = 2 → s.barrierTime m = some t → t ≤ s.dtNs + 1000000000 → s.dtNs ≤ t + 500000000000 →
      s.hasRoom m = true → (m.payload = [0, 0] → t = s.dtNs) ∧
        exec (.eventBarrier m) s = .next (s.withInflight (inflightOf s 0x004 m (.barrier t))).settleFences) ∧
    (∀ t : Nat, s.phokelStops = false → s.barrierDue = some t →
      let u := (s.routeUntil s.router.queue.length t).endHoldoffs t
      u.undelivered t = false → exec .eventBarrierDone s = .next (u.finishWait (.barrier t) .ok [shortStamp t]))

/-- From Door 0, with NOTE 0 to 2 and THRESH 1 to 63, DOOR_CFG completes with OK; the queue named has the new THRESH with its words and counts as before, every other queue and the rest of the state are as before. (12_mailbox_and_commands.md R377, R363) -/
def Obligations.DoorCfgSetsOneThreshold : Prop :=
  ∀ (m : Msg) (s : State) (d k thresh : Nat), s.admits 0x005 permitRL0 m = true → d < 4 → k < 3 → 0 < thresh → thresh < 64 →
    m.payload = [mkWord [(39, 38, d), (37, 36, k), (35, 30, thresh)]] →
    Completes (.doorCfg m) s (Answered 0x005 m .ok [] fun u => u.note d k = { s.note d k with thresh := thresh } ∧
      (∀ e j, 3 * e + j ≠ 3 * d + k → u.note e j = s.note e j) ∧ u = { s with mail := { s.mail with notes := u.mail.notes } })

/-- SYS_RESET with its confirming word, while no fuse is being written, leaves the state of a system reset with CAUSE 0x05, queues empty and every note queue at THRESH 0x20. CORE_RESET with its word, once Phokel runs, leaves note queues, ports, contexts, drives, time and memory as they are, records CAUSE 0x22 and BOOT_STATE BOOTING, and waits for the restart. (12_mailbox_and_commands.md R377, R370; 14_reset_and_boot.md R421, R422, R424; 13_security.md R406) -/
def Obligations.ResetCommandsReset : Prop :=
  ∀ (m : Msg) (s : State),
    (s.admits 0x006 permitRL0 { m with flags := m.flags ||| 1 } = true → m.payload = [0x5359535400] → s.sec.fuses = none →
      Completes (.sysReset m) s fun t => t = s.systemReset 0x05 ∧ t.rst.cause = 0x05 ∧ (∀ d k, (t.note d k).count = 0x0100000000) ∧ t.mail.inflight = []) ∧
    (s.admits 0x007 permitRL0 m = true → m.payload = [0x434F524500] → s.hasRoom m = true → s.rst.off = false → s.rst.phokel = true →
      Completes (.coreReset m) s (Awaits s 0x007 m .coreReset fun u => u.rst.cause = 0x22 ∧ u.rst.bootState = .booting ∧ u.rst.coreReset = true ∧
        u = { s with rst := u.rst, sec := u.sec, mail := u.mail, ledger := u.ledger, board := u.board } ∧ u.mail.notes = s.mail.notes ∧
        u.mail.inflight = s.mail.inflight))

/-- DOOR_PUSH to one of the 12 queues by the producer of its door, while the queue takes words and none of that queue is being discarded or read on: below 64 words the word stands at the queue's end and REFUSED is as before; at 64 words the stored words are the same, REFUSED rises by one modulo 256, and the words of a message so torn that are still to come are discarded as they arrive. Every other queue and all other state are as before. (12_mailbox_and_commands.md R359, R360, R365) -/
def Obligations.NoteQueuesStoreAndTear : Prop :=
  ∀ (s : State) (d k : Nat) (w : Word), d < 4 → k < 3 → s.queueUp d = true → (s.producer d).isSome = true → (s.note d k).discard = 0 → s.beingRead d k = false →
    Completes (.doorPush d k w) s fun t =>
      (∀ e j, 3 * e + j ≠ 3 * d + k → t.note e j = s.note e j) ∧ t = { s with mail := { s.mail with notes := t.mail.notes } } ∧
      ((s.note d k).words.length < 64 → (t.note d k).refused = (s.note d k).refused ∧
        ∃ x : NoteWord, (t.note d k).words = (s.note d k).words ++ [x] ∧ x.w = w ∧ x.torn = none ∧ x.at_ = s.now) ∧
      (64 ≤ (s.note d k).words.length → (t.note d k).refused = ((s.note d k).refused + 1) % 256 ∧ (t.note d k).words.map (fun x => x.w) = (s.note d k).words.map (fun x => x.w) ∧
        (t.note d k).openLeft = (if (s.note d k).openLeft = 0 then (s.note d k).openLeft else 0) ∧
        (t.note d k).discard = if (s.note d k).openLeft = 0 then fld w 27 20 else (s.note d k).openLeft - 1)

/-- With no message begun and queue (d, k) due: a whole message leaves the queue and its command is performed on its payload, as that command's own row says; for a NOP the step completes. A message still arriving, with THRESH words there, is begun and its words so far are taken. A torn message leaves the queue and completes with FAULT. Where the word pushed last found the queue full in this very cycle, the queue is taken from as if the word had been stored. Then a word missing for 1 ms ends a message begun with TIMEOUT. The choices of the model that it rests on are those of the assumption log, entries 71, 85. (12_mailbox_and_commands.md R360, R362, R363, R366) -/
def Obligations.MessagesAreTakenWhole : Prop :=
  ∀ (s : State) (d k : Nat) (h : NoteWord) (r : List NoteWord) (host : List Byte) (found : RingFound) (bad : List Nat),
    (s.mail.taking = none → s.nextQueue = some (d, k) → (∀ x, (s.note d k).turned = some x → x.cycle ≠ s.now) → (s.note d k).words = h :: r →
      let u := s.setNote d k { s.note d k with words := r.drop (headerLen h.w) }
      let ws := (r.take (headerLen h.w)).map fun x => x.w
      (h.torn = none → headerLen h.w ≤ r.length →
        exec (.messageAccept host found bad) s = runOpcode (headerOp h.w) (msgOf d h.w ws) host found bad { u with mail := { u.mail with curSession := h.session } } ∧
        (headerOp h.w = 0 → goesOn (.messageAccept host found bad) s)) ∧
      (h.torn = none → r.length < headerLen h.w → Completes (.messageAccept host found bad) s fun t =>
        t.mail.taking = some { door := d, note := k, header := h.w, words := ws, session := h.session, since := s.now, accepted := s.dtNs, mute := false } ∧ (t.note d k).words = []) ∧
      (∀ n, h.torn = some n → exec (.messageAccept host found bad) s =
        .next ((s.setNote d k { s.note d k with words := r.drop n }).respond d (headerOp h.w) (fld h.w 19 8) (fld h.w 7 0) h.session .fault []))) ∧
    (∀ x, (s.note d k).turned = some x → x.cycle = s.now → ((s.note d k).mended s.now).words = x.words ++ [x.word] ∧ ((s.note d k).mended s.now).discard = 0 ∧
      ∀ n, s.mail.taking = none → s.nextQueue = some (d, k) → d ≠ 2 → ((s.note d k).mended s.now).words = h :: r → h.torn = some n → exec (.messageAccept host found bad) s =
        .next ((s.setNote d k { (s.note d k).mended s.now with words := r.drop n }).respond d (headerOp h.w) (fld h.w 19 8) (fld h.w 7 0) h.session .fault [])) ∧
    (∀ t : Taking, s.mail.taking = some t → t.words.length < headerLen t.header → t.since + cyclesPerMs ≤ s.now → s.phokelStops = false → t.mute = false →
      Completes .doorWordTimeout s fun v => (∃ u : State, v = u.respond t.door (fld t.header 39 28) (fld t.header 19 8) (fld t.header 7 0) t.session .timeout []) ∧ v.mail.taking = none ∧ (v.note t.door t.note).words = (s.note t.door t.note).words ∧
        (v.note t.door t.note).discard = headerLen t.header - t.words.length)

/-- RESPONSE_RING_RELEASE with one response held and Rec[0] able to take it writes it and holds none. SHED_LEVEL_RISE raises the level by one when the heart wait exceeds 2 ms at level 0, 5 ms at level 1 or 10 ms at level 2, and SHED_LEVEL_FALL lowers it by one after a second below 1 ms; each change pushes a trouble-log entry, and beside the log and the mailbox nothing changes. The choices of the model that it rests on are those of the assumption log, entries 7, 117. (11_host_link_and_dma.md R345; 12_mailbox_and_commands.md R373) -/
def Obligations.HeldResponsesAndShedLevel : Prop :=
  ∀ s : State,
    (∀ w : List Word, s.host.held = [w] → s.rec0Open = true →
      exec .responseRingRelease s = .next (({ s with host := { s.host with held := [] } }).rec0Write w)) ∧
    (∀ n : Nat, s.mail.shed = n → n < 3 → (if n = 0 then 2 else if n = 1 then 5 else 10) * cyclesPerMs < s.heartWait.getD 0 → s.doorsUp = true → s.phokelStops = false →
      Completes .shedLevelRise s fun t => t.mail.shed = n + 1 ∧ t = { s with mail := t.mail, log := t.log } ∧ t.mail.notes = s.mail.notes ∧ t.mail.inflight = s.mail.inflight ∧
        (s.log.queue.length < 64 → t.log.queue.length = s.log.queue.length + 1)) ∧
    (∀ n : Nat, s.mail.shed = n + 1 → s.heartWait.getD 0 < cyclesPerMs → s.mail.shedSince + cyclesPerS ≤ s.now → s.phokelStops = false →
      Completes .shedLevelFall s fun t => t.mail.shed = n ∧ t = { s with mail := t.mail, log := t.log } ∧ t.mail.notes = s.mail.notes ∧ t.mail.inflight = s.mail.inflight ∧
        (s.log.queue.length < 64 → t.log.queue.length = s.log.queue.length + 1))

/-- Where no entry fails its parity check and the door has room: LOG_READ of at most 15 entries into the response answers OK with four words for each entry, lowest bits first; with HOST from Door 0, of at most 4096 entries, the entries are written to the host address as 16 bytes each. A factory test command answers DENIED in every lifecycle state but FACTORY and changes nothing else. The choices of the model that it rests on are those of the assumption log, entries 5, 53, 95. (12_mailbox_and_commands.md R389, R390; 15_service_and_faults.md R438, R439) -/
def Obligations.LogReadReturnsEntries : Prop :=
  ∀ (m : Msg) (s : State) (first count : Nat), first < 4096 →
    (∀ w : Word, s.admits 0x803 permitRLB m = true → fld w 39 28 = first → fld w 27 15 = count → fld w 14 0 = 0 → count ≤ 15 → m.payload = [w] → s.hasRoom m = true →
      exec (.logRead m []) s = .next (mailDone 0x803 m .ok (((List.range count).map fun i => s.log.entry ((first + i) % 4096)).flatMap fun e => wordsOfNat 4 e.toNat) s)) ∧
    (∀ w lo hi : Word, s.admits 0x803 permitRLB m = true → m.door = 0 → fld w 39 28 = first → fld w 27 15 = count → bit w 14 = true → fld w 13 0 = 0 → count ≤ 4096 → fld hi 39 24 = 0 →
      m.payload = [w, lo, hi] → s.hasRoom m = true →
      exec (.logRead m []) s = .next (mailDone 0x803 m .ok [] (s.hostWrite (fld hi 23 0 * 2 ^ 40 + lo.toNat)
        (((List.range count).map fun i => s.log.entry ((first + i) % 4096)).flatMap fun e => bytesLE 16 e.toNat)))) ∧
    (∀ op : BitVec 12, 0xF00 ≤ op.toNat → s.takes m.door = true → s.sec.lifecycle ≠ .factory →
      exec (.factoryCommand op m) s = .next (mailDone op.toNat m .denied [] s))

/-- On an open backbone door with no session and no HELLO in the last second, a HELLO of a key slot and a nonce adds one session, not yet open, with a new number. An OPEN within 1 s whose signature verifies against the unrevoked owner slot opens its session with the key of R259. A MSG within the 60 s, with a good TAG, a SEQ above the last and room in its note queue queues every word, in order, and advances the accepted SEQ. CLOSE with a good TAG removes its session and no other, and so does 60 s without a MSG. The choices of the model that it rests on are those of the assumption log, entries 32, 44, 85, 86. (08_backbone.md R258, R259, R260) -/
def Obligations.DoorSessionsOpenAndClose : Prop :=
  ∀ (s : State) (p : Nat) (peer : Peer) (dgram : List Byte) (d : Dgram), p < 5 →
    (dgramOf 1 0 dgram = some d → d.body.length = 33 → d.session = 0 → beAt d.body 0 1 ≤ 3 → s.doorOpenOn p = true → s.bb.hellos = 0 → s.bb.sessions = [] →
      Completes (.doorHello p peer dgram) s fun t => t.bb.nextSession = (s.bb.nextSession + 1) % 2 ^ 32 ∧
        ∃ x : Session, t.bb.sessions = [x] ∧ x.no = s.bb.nextSession ∧ x.isOpen = false ∧ x.bb = p ∧ x.peer = peer ∧ x.keySlot = beAt d.body 0 1 ∧ x.nc = d.body.drop 1) ∧
    (∀ x : Session, dgramOf 3 0 dgram = some d → s.doorOpenOn p = true →
      s.bb.sessions.find? (fun x => x.no == d.session && !x.isOpen && x.bb == p && x.peer == peer) = some x → s.now ≤ x.since + cyclesPerS →
      s.sec.ownerOk x.keySlot ((s.sec.ownerPub.getD x.keySlot none).getD []) = true →
      ed448Verify ((s.sec.ownerPub.getD x.keySlot none).getD []) "gv-door" (x.nc ++ x.nd ++ bytesBE 4 x.no ++ bytesBE 5 s.chipId.toNat) d.body = true →
      Completes (.doorOpen p peer dgram) s fun t => ∀ y ∈ t.bb.sessions, y.no = x.no → y.isOpen = true ∧ y.key = kmac256 (s.sec.doorSecret.getD []) (x.nc ++ x.nd ++ bytesBE 4 x.no) 32 "gv-door-key") ∧
    (∀ x : Session, dgramOf 5 32 dgram = some d → s.doorOpenOn p = true → s.tagged 5 d = some x → s.now < x.since + 60 * cyclesPerS → beAt d.body 0 1 ≤ 2 → d.body.length % 5 = 1 →
      (bodyWords (d.body.drop 1)).length = headerLen (pw (bodyWords (d.body.drop 1)) 0) + 1 → x.lastSeq < d.seq →
      (s.note 1 (beAt d.body 0 1)).words.length + (bodyWords (d.body.drop 1)).length ≤ 64 → (s.note 1 (beAt d.body 0 1)).discard = 0 → s.beingRead 1 (beAt d.body 0 1) = false →
      Completes (.doorMsg p peer dgram) s fun t =>
        (t.note 1 (beAt d.body 0 1)).words.map (fun x => x.w) = (s.note 1 (beAt d.body 0 1)).words.map (fun x => x.w) ++ bodyWords (d.body.drop 1) ∧
        ∀ y ∈ t.bb.sessions, y.no = x.no → y.lastSeq = d.seq) ∧
    (∀ x : Session, dgramOf 8 32 dgram = some d → s.doorOpenOn p = true → s.tagged 8 d = some x →
      Completes (.doorClose p peer dgram) s fun t => t.bb.sessions = s.bb.sessions.filter fun y => y.no != x.no) ∧
    (∀ n : Nat, Completes (.doorSessionIdle n) s fun t => t.bb.sessions = s.bb.sessions.filter fun x => !(x.no == n && x.isOpen && decide (x.since + 60 * cyclesPerS ≤ s.now)))

/-- In the always-on domain, while boundary scan does not have the balls: a match of the target's address more than 60 µs after start takes the pointer, acknowledges when the register's domain is served and fetches that register for a read; a pattern that is not its address closes the transaction. A whole write to Attn clears the bits written as 1, but for those that hardware has set in the same cycle, and moves the pointer on. The fifth byte of BoardResp.Data takes the oldest word. BOARD_RESP_PLACE moves a held response in where it fits. 25 ms of a stuck line ends the transaction. The choices of the model that it rests on are those of the assumption log, entries 64, 148, 183, 184. (16_board_interfaces.md R456, R457, R458, R459, R461, R463, R465, R467; 10_energy_ledger.md R297; 00_scope.md R5, R10) -/
def Obligations.TwoWireTargetServesRegisters : Prop :=
  ∀ s : State, s.scanOpen = false →
    (∀ (a : BitVec 7) (p : Byte), s.rst.alwaysOn = true → s.rst.off = false → s.ledger.pstate ≠ .low → a.toNat = 0x58 + s.board.addr.toNat →
      s.rst.alwaysOnSince + 60 * cyclesPerUs ≤ s.now → s.rst.serves p.toNat = true →
      Completes (.twAddressMatch a (some p)) s fun t => t.board.twOpen = true ∧ t.board.twAck = true ∧ t.board.pointer = p ∧ t.board.twRead = s.twWord p.toNat ∧ t.board.attn = s.board.attn ∧ t = { s with board := t.board }) ∧
    (∀ (a : BitVec 7) (p : Option Byte), s.rst.alwaysOn = true → s.rst.off = false → a.toNat ≠ 0x58 + s.board.addr.toNat →
      Completes (.twAddressMatch a p) s fun t => t.board.twOpen = false ∧ t.board.twAck = false ∧ t = { s with board := t.board }) ∧
    (∀ w : Word, s.rst.alwaysOn = true → s.rst.off = false → s.board.twOpen = true → s.board.twAck = true → s.board.pointer = 0x03 → fld w 29 0 = 0 →
      Completes (.twRegisterWrite w) s fun t => t.board.attn = s.board.attn &&& ~~~(if s.board.attnNew.cycle = s.now then w &&& ~~~s.board.attnNew.bits else w) ∧ t.board.pointer = 0x04 ∧ t = { s with board := t.board }) ∧
    (∀ (w : Word) (r : List Word), s.rst.alwaysOn = true → s.rst.off = false → s.board.twOpen = true → s.board.pointer = 0x1F → s.board.respWords = w :: r →
      Completes .boardRespDataRead s fun t => t.board.twRead = w ∧ t.board.respWords = r ∧ t.board.pointer = 0x1F ∧ t = { s with board := t.board }) ∧
    (∀ w : List Word, s.phokelStops = false → s.board.respHeld = [w] → s.board.respWords.length + w.length ≤ 128 →
      Completes .boardRespPlace s fun t => t.board.respHeld = [] ∧ t.board.respWords = s.board.respWords ++ w ∧ bit t.board.attn 30 = true ∧ t = { s with board := t.board }) ∧
    (s.board.twOpen = true → Completes .twStuckBus s fun t => t = { s with board := { s.board with twOpen := false } })

/-- ATTN_REQUEST with an enabled Attn bit set, the first since the bit was set and under policy STANDARD, sends one request and records when. A POWER_CHAIN_FRAME whose markers read 1, 0 and whose flags show no fault, while Phokel is being restarted and boundary scan is closed, latches at every port the supply state commanded, shows it as the pattern, ends the run of bad frames, and changes nothing but the board interface. The choices of the model that it rests on are those of the assumption log, entries 70, 179. (16_board_interfaces.md R464, R468, R469, R470) -/
def Obligations.BoardAttentionAndPowerChain : Prop :=
  ∀ s : State, s.rst.alwaysOn = true → s.rst.off = false →
    (s.rst.quiet = false → s.board.attnPending = true → s.board.attnAt = none →
      Completes (.attnRequest false) s fun t => t.board.attnAt = some s.now ∧ t.board.attnCount = s.board.attnCount + 1 ∧ t = { s with board := t.board }) ∧
    (∀ f : BitVec 98, f.getLsbD 0 = true → f.getLsbD 1 = false → s.scanOpen = false → s.rst.coreReset = true → s.board.chainErr = false → (∀ k, k < s.variant.ports → s.chainSuspect f k = false) →
      Completes (.powerChainFrame f) s fun t => (∀ k, k < s.variant.ports → (t.supply k).latched = (s.supply k).want ∧ (t.supply k).want = (s.supply k).want) ∧
        t.board.pattern = BitVec.ofNat 96 (maskOf ((List.range s.variant.ports).filter fun k => (s.supply k).want)) ∧ t.board.badRun = 0 ∧ t.board.chainErr = false ∧ t = { s with board := t.board })

/-- Each names a present port that is member 0 of its group. PORT_CFG gives every member the line parameters and TrigCfg that it carries, answers OK and changes no other port. PORT_BOND, aligned and with every member OFF and unbound, gives each member the group's size and its place in it. PORT_POWER, none being in progress, commands the members' supplies off, on, or off with a time to come on again, and waits for the power chain; ports that run are first set OFF. PORT_STOP sets every member of a running group OFF without a training. At the end of OFF_MS the supplies are commanded on again. The choices of the model that it rests on are those of the assumption log, entry 94. (12_mailbox_and_commands.md R378, R379; 03_ray_words.md R102, R105; 01_architecture.md R27; 16_board_interfaces.md R468) -/
def Obligations.PortSettingsAndPower : Prop :=
  ∀ (s : State) (n : Nat) (m : Msg),
    (∀ w0 w1 : Word, s.admits 0x100 permitR m = true → m.payload = [w0, w1] → portArg s n = true → fld w0 39 33 = n → fld w0 32 31 ≠ 3 → fld w0 30 29 ≠ 3 → 1 ≤ fld w0 23 13 → fld w0 23 13 ≤ 2000 →
      fld w0 12 0 = 0 → fld w1 7 0 = 0 → 8800 + fld w1 23 8 ≤ 8 * fld w1 39 24 →
      Completes (.portCfg m) s (Answered 0x100 m .ok [] fun u => (∀ k, u.port k = if k ∈ s.group n then
          { s.port k with rateMax := fld w0 32 31, precodePolicy := fld w0 30 29, idleOk := bit w0 28, trainRetries := fld w0 27 24, announceWait := fld w0 23 13, trigCfg := w1 }
        else s.port k) ∧ u = { s with ports := u.ports })) ∧
    (∀ (w : Word) (size : Nat), s.admits 0x101 permitR m = true → m.payload = [w] → portArg s n = true → fld w 39 33 = n → fld w 32 31 = size → size < 3 → fld w 30 0 = 0 → n % 2 ^ size = 0 →
      (∀ k ∈ groupPorts n size, k < s.variant.ports ∧ ∀ j ∈ s.members? k, s.portFree j = true) →
      Completes (.portBond m) s (Answered 0x101 m .ok [] fun u => (∀ i, i < (groupPorts n size).length → (u.port (n + i)).bond = size ∧ (u.port (n + i)).bondPos = i) ∧
        u = { s with ports := u.ports })) ∧
    (∀ (w : Word) (action : Nat), s.admits 0x102 permitR m = true → s.hasRoom m = true → m.payload = [w] → portArg s n = true → fld w 39 33 = n → fld w 32 31 = action → action < 3 → fld w 14 0 = 0 →
      s.powerBusy n = false →
      Completes (.portPower m) s (Awaits s 0x102 m (.portPower n action) fun u => (∀ k ∈ s.group n, (u.supply k).want = (action == 1)) ∧
        (action ≠ 1 → (s.port n).state ≠ .off → ∀ k ∈ s.group n, (u.port k).state = .off) ∧
        (u.port n).cycleEnd = if action = 2 then some (s.now + fld w 30 15 * cyclesPerMs) else none)) ∧
    (∀ w : Word, s.admits 0x104 permitR m = true → s.hasRoom m = true → m.payload = [w] → portArg s n = true → fld w 39 33 = n → fld w 32 0 = 0 → (s.port n).state ≠ .off →
      Completes (.portStop m) s (Answered 0x104 m .ok [] fun u => ∀ k ∈ s.members? n, (u.port k).state = .off ∧ (u.port k).training = none)) ∧
    (∀ t : Nat, n < s.variant.ports → (s.port n).cycleEnd = some t → t ≤ s.now →
      Completes (.cycleOffMsEnd n) s fun u => (∀ k ∈ s.group n, (u.supply k).want = true) ∧ (u.port n).cycleEnd = none)

/-- On a single port. PORT_TRAIN with the camera powered and no training under way waits, the port in BC_ALIGN with a training begun, in the silence of R61 where the back channel has run within 100 µs. PORT_WAKE of a running port has a K28.0 wait; in the next slot that no run has reserved and no replay request is using, where the bound of R53 on the distance of K28.5 leaves room for it, it goes out, and sets an idle port WAKING. SENSOR_WRITE, SENSOR_READ, TRIG_MAP_SET, EPOCH_MAP_SET and CAM_STATUS on a running port with fewer than 16 commands outstanding have one frame with the next TAG and their own command code wait for its slots, and wait for its reply. The first REPLY_TIMEOUT, 10 ms after the frame, keeps the command outstanding, marks it sent again and, on a running port, has its frame wait once more; the second ends it, raises CMD_TIMEOUT and answers TIMEOUT. A planned trigger run, and a planned epoch mark, whose slot has come is marked as gone, and its code groups go out. The choices of the model that it rests on are those of the assumption log, entry 48. (12_mailbox_and_commands.md R378, R379; 03_ray_words.md R89, R91, R93, R94, R100; 02_ray_line.md R57, R65) -/
def Obligations.CameraCommandsGoOut : Prop :=
  ∀ (s : State) (n : Nat) (m : Msg) (w : Word), (s.port n).bond = 0 → (s.port n).bondPos = 0 → n < s.variant.ports →
    (s.admits 0x103 permitR m = true → s.hasRoom m = true → m.payload = [w] → fld w 39 33 = n → fld w 32 0 = 0 → (s.port n).training = none → s.powered n = true →
      Completes (.portTrain m) s (Awaits s 0x103 m (.portTrain n) fun u => (u.port n).state = .bcAlign ∧ ∃ t, (u.port n).training = some t ∧ t.left = (s.port n).trainRetries ∧ t.rate = (s.port n).rateMax ∧
          ((s.port n).running = false → t.step = if s.now < (s.port n).quietUntil then .silence else .announce))) ∧
    (s.admits 0x105 permitR m = true → m.payload = [w] → fld w 39 33 = n → fld w 32 0 = 0 → (s.port n).running = true →
      Completes (.portWake m) s (Answered 0x105 m .ok [] fun u => u = s.setPort n { s.port n with wakeDue := true })) ∧
    (∀ p : Port, p.txItem = [] → p.wakeDue = true → p.mayPut 1 = true → (p.runs.any fun r => decide (r.start ≤ p.txAt) && decide (p.txAt < r.start + 1280 * r.slots)) = false →
      (p.txSlot s.now).sent = .k28_0 :: p.sent ∧ (p.txSlot s.now).wakeDue = false ∧ (p.txSlot s.now).txAt = p.txAt + 1280 ∧
      (p.state = .idle → (p.txSlot s.now).state = .waking ∧ (p.txSlot s.now).wakeAt = some s.now)) ∧
    ((s.port n).running = true → (s.port n).commands.length < 16 → s.hasRoom m = true →
      let sends := fun (op cmd : Nat) (body : List Byte) (i : Instr) => Completes i s (Awaits s op m (.sensor n (s.port n).nextTag) fun u => u = { s with ports := u.ports } ∧
        (u.port n).nextTag = ((s.port n).nextTag + 1) % 256 ∧ ∃ c : BcCommand, (u.port n).commands = (s.port n).commands ++ [c] ∧ c.tag = (s.port n).nextTag ∧ c.cmd = cmd ∧ c.body = body ∧ c.resent = false ∧ c.sent = none ∧ (u.port n).txFrames = (s.port n).txFrames ++ [{ groups := c.groups, for_ := .command c.tag }])
      (∀ (a : Word) (data : List Word), s.admits 0x106 permitR m = true → m.payload = w :: a :: data → data.length = ceilDiv (fld w 21 16) 5 → sensorArgs s m = true → fld w 39 33 = n →
        sends 0x106 2 ([BitVec.ofNat 8 (fld w 32 25), BitVec.ofNat 8 (fld w 24 22)] ++ bytesBE (fld w 24 22) a.toNat ++ (unpack5 data).take (fld w 21 16)) (.sensorWrite m)) ∧
      (∀ a : Word, s.admits 0x107 permitR m = true → m.payload = [w, a] → sensorArgs s m = true → fld w 39 33 = n →
        sends 0x107 3 ([BitVec.ofNat 8 (fld w 32 25), BitVec.ofNat 8 (fld w 24 22)] ++ bytesBE (fld w 24 22) a.toNat ++ [BitVec.ofNat 8 (fld w 21 16)]) (.sensorRead m)) ∧
      (s.admits 0x108 permitR m = true → m.payload = [w] → fld w 39 33 = n → fld w 4 0 = 0 →
        sends 0x108 4 [BitVec.ofNat 8 (fld w 32 29), BitVec.ofNat 8 (fld w 28 21), BitVec.ofNat 8 (fld w 20 13), BitVec.ofNat 8 (fld w 12 5)] (.trigMapSet m)) ∧
      (s.admits 0x109 permitR m = true → m.payload = [w] → fld w 39 33 = n → fld w 24 0 = 0 → fld w 32 29 = 0 → sends 0x109 5 [BitVec.ofNat 8 (fld w 32 25)] (.epochMapSet m)) ∧
      (s.admits 0x10A permitR m = true → m.payload = [w] → fld w 39 33 = n → fld w 32 0 = 0 → sends 0x10A 6 [] (.camStatus m))) ∧
    (∀ (tag : Byte) (c : BcCommand) (t : Nat), (s.port n).commands.find? (fun c => c.tag == tag.toNat) = some c → c.sent = some t → t + 10 * cyclesPerMs ≤ s.now →
      (c.resent = false → Completes (.replyTimeout n tag) s fun u => (u.port n).commands.length = (s.port n).commands.length ∧ (∀ d ∈ (u.port n).commands, d.tag = tag.toNat → d.resent = true) ∧
        (u.port n).txFrames = (s.port n).txFrames ++ (if (s.port n).running then [{ groups := c.groups, for_ := .command tag.toNat }] else []) ∧ u = { s with ports := u.ports }) ∧
      (c.resent = true → exec (.replyTimeout n tag) s =
        .next (((s.setPort n { s.port n with commands := (s.port n).commands.filter fun d => d.tag != tag.toNat }).raise (evPort n) 0x09).finishWait (.sensor n tag.toNat) .timeout))) ∧
    (let sends := fun (r : Run) (u : State) => (u.port n).runs = (s.port n).runs.map (fun x => if x == r then { x with gone := true } else x) ∧ (u.port n).trigSent = (s.port n).trigSent ++ r.trigs ∧
        (∃ l, (u.port n).sent = r.groups.reverse ++ l) ∧ u = { s with ports := u.ports };
      (∀ r : Run, (s.port n).runs.find? (fun r => r.epochMark == false && !r.gone && decide (r.start < s.local24 + 96)) = some r → Completes (.triggerRunSend n) s (sends r)) ∧
      (∀ r : Run, (s.port n).runs.find? (fun r => r.epochMark == true && !r.gone && decide (r.start < s.local24 + 96)) = some r → Completes (.epochMarkSend n) s (sends r)))

/-- On a single port in training. 256 symbols without the frame marker are no training frame. A frame with good CRC and KIND NAK fails the attempt; a frame whose CRC fails while announcements are awaited starts their count anew. A time limit past in step 3 above the lowest rate tries the rate below: a new LINE_SET waits for its slots and the limit runs once it is out. A failed attempt with retries left waits 10 ms, and TRAIN_RETRY then begins the next in BC_ALIGN; the end of the silence of R61 begins one too. LINE_SET_REPEAT has an unacknowledged LINE_SET sent again, 20 µs later, unchanged. The end marker after at least 4 READY frames enters DATA at the rate committed, with the seed, the precoder and the idle permission of the COMMIT LINE_SET, the count of trainings one higher, and PORT_TRAINED raised. The choices of the model that it rests on are those of the assumption log, entries 48, 82, 152, 153, 154. (02_ray_line.md R57, R58, R60, R61, R47) -/
def Obligations.TrainingStepsFollowTable : Prop :=
  ∀ (s : State) (n : Nat) (t : Training), n < s.variant.ports → (s.port n).bond = 0 → (s.port n).bondPos = 0 → (s.port n).training = some t →
    (∀ (l : List Pam4) (h e : Byte), trainingField? l = none → exec (.trainingFrameRx n l h e) s = .next s) ∧
    (∀ (l : List Pam4) (f : BitVec 64) (h e : Byte), trainingField? l = some f → crc8 (bytesBE 7 (f.toNat / 256)) = BitVec.ofNat 8 f.toNat → f.toNat / 2 ^ 60 = 0xF → (t.step = .announce ∨ t.step = .adapt ∨ t.step = .commit) → t.left ≠ 0 →
      Completes (.trainingFrameRx n l h e) s fun u => (u.port n).lastFail = 5 ∧ (u.port n).state = .bcAlign ∧
        (u.port n).training = some { t with step := .retryWait, left := t.left - 1, deadline := s.now + 10 * cyclesPerMs }) ∧
    (∀ (l : List Pam4) (f : BitVec 64) (h e : Byte), trainingField? l = some f → crc8 (bytesBE 7 (f.toNat / 256)) ≠ BitVec.ofNat 8 f.toNat → t.step = .announce →
      Completes (.trainingFrameRx n l h e) s fun u => u = s.setPort n { s.port n with training := some { t with announces := 0, crcBad := t.crcBad || t.seen } }) ∧
    (t.step = .adapt → t.waiting = false → t.deadline ≤ s.now → t.adapted = false → t.rate ≠ 0 →
      Completes (.trainStepTimeout n) s fun u => (u.port n).state = .adapt ∧ ∃ v, (u.port n).training = some v ∧ v.rate = t.rate - 1 ∧ v.seq = (t.seq + 1) % 256 ∧ v.acked = false ∧ v.waiting = true ∧
        v.frame = v.lineSet ∧ (u.port n).txFrames.getLast? = some { groups := v.frame, for_ := .lineSet v.seq }) ∧
    (t.step = .retryWait → t.deadline ≤ s.now → Completes (.trainRetry n) s fun u => (u.port n).state = .bcAlign ∧ u = { s with ports := u.ports } ∧
      ∃ v, (u.port n).training = some v ∧ v.step = .announce ∧ v.left = t.left ∧ v.deadline = s.now + t.announceWait * cyclesPerMs) ∧
    (t.step = .silence → t.deadline ≤ s.now → Completes (.backChannelSilenceEnd n) s fun u => (u.port n).state = .bcAlign ∧ u = { s with ports := u.ports } ∧
      ∃ v, (u.port n).training = some v ∧ v.step = .announce ∧ v.deadline = s.now + t.announceWait * cyclesPerMs) ∧
    ((t.step = .adapt ∨ t.step = .commit) → t.acked = false → t.repeatAt ≤ s.now → (t.waiting = true ∨ s.now < t.deadline) →
      Completes (.lineSetRepeat n) s fun u => (u.port n).training = some { t with repeatAt := t.repeatAt + 20 * cyclesPerUs } ∧
        (u.port n).txFrames = (s.port n).txFrames ++ [{ groups := t.frame, for_ := .lineSet t.seq }] ∧ u = { s with ports := u.ports }) ∧
    (t.step = .commit → 4 ≤ t.readies → s.inflight? (fun i => i.wait == .portTrain n) = none →
      Completes (.portTrained n) s fun u => (u.port n).state = .data ∧ (u.port n).rate = t.rate ∧ (u.port n).seed = BitVec.ofNat 58 t.seed ∧ (u.port n).scram = BitVec.ofNat 58 t.seed ∧
        (u.port n).trains = min 15 ((s.port n).trains + 1) ∧ (u.port n).training = none ∧ (u.port n).nextBsn = 0 ∧ (u.port n).precode = t.precode ∧ (u.port n).idleAllowed = (t.capIdle && t.idleOk) ∧ u.router.queue.getLast?.map (fun o => (o.id, o.code)) = some (evPort n, 0x01))

/-- A port in DATA that sees at least 60 of 64 idle symbols goes IDLE where idle is allowed, and changes nothing else but the time since which the states of the group disagree; fewer change nothing; otherwise that, and a silent lane in DATA, is a loss. The end marker of a wake burst returns a port to DATA with its scrambler at the seed. No end marker within four times the bound is a loss. Members of a group in different idle states for longer than 1 µs, or block-N markers more than 1 µs apart, are a skew. After a loss or a skew every member of the group is in BC_ALIGN in a training, which begins, where its back channel transmitted, with the 100 µs of silence of R61. The choices of the model that it rests on are those of the assumption log, entries 48, 156. (02_ray_line.md R63, R64, R66, R67, R68; 03_ray_words.md R102) -/
def Obligations.LossesAndIdle : Prop :=
  ∀ (s : State) (n : Nat), n < s.variant.ports →
    let retrains := fun (u : State) => ∀ k ∈ s.members? n, (u.port k).state = .bcAlign ∧ ∃ t, (u.port k).training = some t ∧ ((s.port k).txOn = true → t.step = .silence ∧ t.deadline = s.now + 100 * cyclesPerUs)
    (∀ l, (s.port n).state = .data → 60 ≤ idleMatches l → (s.port n).idleAllowed = true → Completes (.idleEntry n l) s fun u => (u.port n).state = .idle ∧ u = { s with ports := u.ports } ∧
      ∀ k, u.port k = { s.port k with state := (u.port k).state, idleSkew := (u.port k).idleSkew } ∧ (k ≠ n → (u.port k).state = (s.port k).state) ∧ (k ≠ s.head n → (u.port k).idleSkew = (s.port k).idleSkew)) ∧
    (∀ l, (s.port n).state = .data → idleMatches l < 60 → exec (.idleEntry n l) s = .next s) ∧
    (∀ l, (s.port n).state = .data → 60 ≤ idleMatches l → (s.port n).idleAllowed = false → Completes (.idleEntry n l) s retrains) ∧
    ((s.port n).state = .data → Completes (.portLoss n) s retrains) ∧
    ((s.port n).state = .idle ∨ (s.port n).state = .waking → Completes (.wakeComplete n) s fun u => (u.port n).state = .data ∧ (u.port n).scram = (s.port n).seed ∧ (u.port n).wakeAt = none ∧
      u = { s with ports := u.ports } ∧ ∀ k, k ≠ n → u.port k = { s.port k with idleSkew := (u.port k).idleSkew }) ∧
    (∀ t, (s.port n).state = .waking → (s.port n).wakeAt = some t → 4 * (s.port n).wakeBound ≤ cycles240 (s.now - t) → Completes (.wakeTimeout n) s retrains) ∧
    ((∃ j ∈ s.members? n, (s.port j).state = .data) → (∃ j ∈ s.members? n, (s.port j).state = .idle ∨ (s.port j).state = .waking) →
      (∀ t, (s.port (s.head n)).idleSkew = some t → t + cyclesPerUs < s.now → Completes (.bondIdleSkew n) s retrains) ∧
      ((s.port (s.head n)).idleSkew = none → exec (.bondIdleSkew n) s = .next s)) ∧
    (∀ j k b c, j ∈ s.members? n → k ∈ s.members? n → 1 < (s.members? n).length → b ∈ (s.port j).blocks → (s.port k).blocks.find? (fun c => c.bsn == b.bsn) = some c → b.arrived + cyclesPerUs < c.arrived →
      Completes (.portBondSkew n) s retrains) ∧
    (∀ j k b, j ∈ s.members? n → k ∈ s.members? n → 1 < (s.members? n).length → b ∈ (s.port j).blocks → (s.port k).blocks.find? (fun c => c.bsn == b.bsn) = none → (s.port k).nextBsn = b.bsn →
      b.arrived + cyclesPerUs < s.now → Completes (.portBondSkew n) s retrains)

/-- BLOCK_RX on a single port in DATA outside the pattern generator and HOLD: where the 33 words decode with even parity, the last is a marker with the BSN expected next, and none says REPLAY_GONE, the block joins the reorder buffer with its words and the next BSN follows modulo 4096. REPLAY_DEADLINE marks every slot of a block whose copy has not come in time. BLOCK_RELEASE takes the oldest block of a single port, once it awaits no replay, out of the buffer and delivers it. The choices of the model that it rests on are those of the assumption log, entries 81, 157, 158. (03_ray_words.md R75, R78, R81, R82; 02_ray_line.md R45, R48) -/
def Obligations.BlocksAreReceivedAndReleased : Prop :=
  ∀ (s : State) (n : Nat), n < s.variant.ports → (s.port n).bond = 0 → (s.port n).bondPos = 0 →
    (∀ (l : List Pam4) (words : List RxWord) (x : RxLine) (fc fhp : Nat), l.length = 693 → (s.port n).state = .data → (s.port n).patterned = false → s.ledger.pstate ≠ .hold → (s.port n).resync = false →
      rxWords (s.port n).precode 33 l { scram := (s.port n).scram.toNat, prev := (s.port n).prevP.toNat } = (words, x) → (∀ w ∈ words, w.good = true) →
      (words.getD 32 { w := 0, good := false }).marker? = some ((s.port n).nextBsn, fc, fhp) → (s.port n).nextBsn < 4096 → (∀ w ∈ words.take 32, ¬(w.isControl = true ∧ w.cls = 0 ∧ w.sub = 4)) →
      (∀ b ∈ (s.port n).blocks, b.bsn ≠ (s.port n).nextBsn) →
      Completes (.blockRx n l) s fun u => (u.port n).nextBsn = ((s.port n).nextBsn + 1) % 4096 ∧ (∃ b : Block, (u.port n).blocks = (s.port n).blocks ++ [b] ∧ b.words = words.take 32 ∧ b.marker = some (fc, fhp) ∧ b.deadline = none ∧ b.arrived = s.now) ∧
        u = { s with ports := u.ports }) ∧
    (∀ (b : Block) (t : Nat), (s.port n).blocks = [b] → b.deadline = some t → t ≤ s.now →
      Completes (.replayDeadline n) s fun u => (u.port n).blocks = [{ b with words := b.words.map fun w => { w with good := false }, deadline := none, marked := true }] ∧
        (u.port n).rxCounts = bump (s.port n).rxCounts 17 10 ∧ u.router.queue.getLast?.map (fun o => (o.id, o.code)) = some (evPort n, 0x06)) ∧
    (∀ (b : Block) (r : List Block), (s.port n).blocks = b :: r → b.deadline = none → (s.port n).patterned = false → s.ledger.pstate ≠ .hold →
      exec (.blockRelease n) s = .next ((s.setPort n { s.port n with blocks := r }).deliverBlocks n [(n, b)]))

/-- A write of a legal value that differs, while the host reaches the registers, is held as pending. It applies once no frame of the port is open, or 100 ms after the write: the generator then runs from frame 0, line 0 under the new value. While it runs, PATGEN_LINE at or after the time of the first of several lines moves to the next line of the same frame, under the height set, with the next signature number. (05_ingest_and_contexts.md R169, R170; 11_host_link_and_dma.md R321) -/
def Obligations.PatternGeneratorRuns : Prop :=
  ∀ (s : State) (n : Nat), n < s.variant.ports →
    let applied := fun (v : Word) (u : State) => (u.port n).patGen0Used = v ∧ (u.port n).patPending = none ∧ (u.port n).patK = 0 ∧ (u.port n).patY = 0
    (∀ v : Word, s.hostRegs = true → patGen0Ok v = true → v ≠ (s.port n).patGen0 → Completes (.patgenWrite n v) s fun u =>
      u = s.setPort n { s.port n with patGen0 := v, patPending := some (v, s.now) }) ∧
    (∀ (v : Word) (t : Nat), (s.port n).patPending = some (v, t) → s.openFrames n = false → Completes (.patgenChangeApply n) s (applied v)) ∧
    (∀ (v : Word) (t : Nat), (s.port n).patPending = some (v, t) → t + 100 * cyclesPerMs ≤ s.now → Completes (.patgenChangeTimeout n) s (applied v)) ∧
    ((s.port n).patterned = true → (s.port n).bondPos = 0 → s.ledger.pstate = .run → s.ledger.enteringLow = false → s.ctxOn n (fld (s.port n).patGen0Used 37 34) = none →
      fld (s.port n).patGen0Used 39 38 ≠ 3 → longTypes (fld (s.port n).patGen0Used 33 28) = true → 1 < fld (s.port n).patGen1 39 24 → (s.port n).patY = 0 → (s.port n).patNext < (((s.time.mono : Int) + s.increment : Int) : Rat) →
      Completes (.patgenLine n) s fun u => (u.port n).patY = 1 ∧ (u.port n).patK = (s.port n).patK ∧ (u.port n).patHeight = fld (s.port n).patGen1 39 24 ∧
        (u.port n).lineSigSeq = ((s.port n).lineSigSeq + 1) % 256)

/-- Each with operands in the ranges of Tables 4-2 and 4-6 to 4-9. TIME_CFG sets the discipline parameters; a change of source, or of AS_PORT with source AS, starts a new acquisition, raises TIME_UNLOCK where the state was LOCKED, the backbone gates of LOCK_MASK then closing, and steps nothing. AXIS_CFG, FUSION_CFG and MARK_CFG set the axis, the fusion parameters and the mark named and no other. GATE_WRITE leaves the record to take effect later. TIME_SET and TRAVEL_SET change nothing yet: their value joins those that the next cycle applies, and the message waits for that cycle. All else is unchanged. The choices of the model that it rests on are those of the assumption log, entry 78. (12_mailbox_and_commands.md R378, R380; 04_travel_and_time.md R108, R109, R114, R118, R123, R129, R128) -/
def Obligations.TimeAndTravelSettings : Prop :=
  ∀ (s : State) (m : Msg),
    (∀ w0 w1 w2 : Word, s.admits 0x200 permitRL m = true → m.payload = [w0, w1, w2] → fld w0 39 38 ≠ 3 → fld w0 37 36 < s.variant.backbone →
      1000 ≤ fld w0 35 6 → fld w0 35 6 ≤ 1000000000 → fld w0 5 0 = 0 → 10 ≤ fld w1 39 31 → fld w1 39 31 ≤ 500 → 10 ≤ fld w1 30 17 → fld w1 30 17 ≤ 10000 → fld w1 0 0 = 0 →
      1 ≤ fld w2 39 21 → fld w2 39 21 ≤ 500000 → 1 ≤ fld w2 20 2 → fld w2 20 2 ≤ 500000 → fld w2 0 0 = 0 →
      let changed := fld w0 39 38 ≠ s.time.source.code ∨ (s.time.source = .as ∧ fld w0 37 36 ≠ s.time.asPort)
      Completes (.timeCfg m) s (Answered 0x200 m .ok [] fun u =>
        (u.time.source.code = fld w0 39 38 ∧ u.time.asPort = fld w0 37 36 ∧ u.time.stepThresh = fld w0 35 6 ∧ u.time.slewMax = fld w1 39 31 ∧ u.time.lockThresh = fld w1 30 17 ∧
         u.time.ppsDelay = fld w1 16 1 ∧ u.time.ppsWindow = fld w2 39 21 ∧ u.time.ppsOutWidth = fld w2 20 2 ∧ u.time.ppsOutEn = bit w2 1) ∧
        u.time.stepSum = s.time.stepSum ∧ u.time.mono = s.time.mono ∧ u.time.adj = s.time.adj ∧ u.time.stepPending = s.time.stepPending ∧
        (changed → u.time.disc = if fld w0 39 38 = 0 then .free else .acquiring) ∧ (¬ changed → u.time.disc = s.time.disc) ∧
        (changed ∧ s.time.disc = .locked → RaisedLast s u evTime 3 0) ∧ (¬ (changed ∧ s.time.disc = .locked) → u.router = s.router ∧ u.bb = s.bb) ∧
        u = { s with time := u.time, bb := u.bb, router := u.router })) ∧
    (∀ (w0 w1 : Word) (v : Nat), s.admits 0x201 permitRL m = true → s.hasRoom m = true → m.payload = [w0, w1] → ptpNs w0 w1 = some v →
      Completes (.timeSet m) s (Awaits s 0x201 m (.timeJump s.now) fun u => u = { s with time := { s.time with setPending := s.time.setPending ++ [(v, s.now)] } })) ∧
    (∀ w : Word, s.admits 0x202 permitRL m = true → s.hasRoom m = true → m.payload = [w] →
      Completes (.travelSet m) s (Awaits s 0x202 m (.travelJump s.now) fun u =>
        u = { s with tu := { s.tu with travel := { s.tu.travel with setPending := s.tu.travel.setPending ++ [(signed 40 w.toNat, s.now)] } } })) ∧
    (∀ (w0 w1 w2 : Word) (a : Nat), s.admits 0x203 permitRL m = true → m.payload = [w0, w1, w2] → fld w0 39 38 = a → fld w0 7 0 = 0 → fld w1 7 0 = 0 → fld w2 15 0 = 0 →
      0x400000 ≤ fld w2 39 16 → fld w2 39 16 ≤ 0xC00000 → (bit w0 37 = true → 0 < fld w1 39 8) →
      Completes (.axisCfg m) s (Answered 0x203 m .ok [] fun u => (u.axis a).enable = bit w0 37 ∧ (u.axis a).invert = bit w0 36 ∧ (u.axis a).glitch = fld w0 35 28 ∧
        (u.axis a).avg = fld w0 27 24 + 1 ∧ (u.axis a).ticksPerRev = fld w0 23 8 ∧ (u.axis a).pitch = fld w1 39 8 ∧ (u.axis a).wear = fld w2 39 16 ∧ (u.axis a).counts = (s.axis a).counts ∧
        (∀ b, b ≠ a → u.axis b = s.axis b) ∧ u = { s with tu := { s.tu with axes := u.tu.axes } })) ∧
    (∀ w0 w1 w2 w3 : Word, s.admits 0x204 permitRL m = true → m.payload = [w0, w1, w2, w3] → 5 ≤ fld w0 39 32 → fld w0 39 32 ≤ 255 → 10 ≤ fld w0 31 21 → fld w0 31 21 ≤ 2000 →
      1 ≤ fld w0 20 11 → fld w0 20 11 ≤ 1000 → fld w0 9 8 ≠ 3 → fld w0 7 0 = 0 → 10 ≤ fld w1 39 26 → fld w1 39 26 ≤ 10000 → 1 ≤ fld w1 25 16 → fld w1 25 16 ≤ 100 →
      10 ≤ fld w1 15 6 → fld w1 15 6 ≤ 1000 → fld w1 5 0 = 0 → 64 ≤ fld w2 39 8 → 1 ≤ fld w2 7 0 → 1 ≤ fld w3 39 24 → 10 ≤ fld w3 23 11 → fld w3 23 11 ≤ 5000 → fld w3 10 0 = 0 →
      Completes (.fusionCfg m) s (Answered 0x204 m .ok [] fun u =>
        (u.tu.travel.tolPm = fld w0 39 32 ∧ u.tu.travel.tolFloor = fld w0 31 21 ∧ u.tu.travel.excludeTime = fld w0 20 11 ∧ u.tu.travel.minAgree = fld w0 10 10 + 1 ∧
         u.tu.travel.restoreTime = fld w1 39 26 ∧ u.tu.travel.brakeDecel = fld w1 25 16 ∧ u.tu.travel.aLim = fld w1 15 6 ∧ u.tu.travel.coastLimit = fld w2 39 8 ∧
         u.tu.travel.coastErr = fld w2 7 0 ∧ u.tu.travel.revHyst = fld w3 39 24 ∧ u.tu.travel.standstill = fld w3 23 11 ∧
         (u.tu.travel.hint = .traction ↔ fld w0 9 8 = 1) ∧ (u.tu.travel.hint = .braking ↔ fld w0 9 8 = 2)) ∧
        u.tu.travel.tr = s.tu.travel.tr ∧ u.tu.travel.state = s.tu.travel.state ∧ u = { s with tu := { s.tu with travel := u.tu.travel } })) ∧
    (∀ (w0 w1 w2 w3 : Word) (k : Nat), s.admits 0x205 permitRL m = true → m.payload = [w0, w1, w2, w3] → fld w0 39 37 = k → fld w0 36 35 ≠ 3 → fld w0 25 24 ≠ 3 → fld w0 7 0 = 0 →
      fld w2 7 0 = 0 → 1 ≤ fld w3 15 10 → fld w3 15 10 ≤ 50 → fld w3 9 0 = 0 →
      Completes (.markCfg m) s (Answered 0x205 m .ok [] fun u => ((u.mark k).use = .snap ↔ fld w0 36 35 = 1) ∧ ((u.mark k).use = .eventOnly ↔ fld w0 36 35 = 2) ∧
        (u.mark k).falling = bit w0 34 ∧ (u.mark k).glitch = fld w0 33 26 ∧ (u.mark k).dir = fld w0 25 24 ∧ (u.mark k).tol = fld w0 23 8 ∧ (u.mark k).pos = w1 ∧
        (u.mark k).win = fld w2 39 8 ∧ (u.mark k).slewMax = fld w3 39 16 ∧ (u.mark k).slewPct = fld w3 15 10 ∧
        (∀ j, j ≠ k → u.mark j = s.mark j) ∧ u = { s with tu := { s.tu with marks := u.tu.marks } })) ∧
    (∀ (w0 w1 w2 w3 : Word) (k : Nat), s.admits 0x207 permitRL m = true → m.payload = [w0, w1, w2, w3] → fld w0 39 32 = k → fld w0 31 0 = 0 → fld w3 39 38 ≠ 3 → fld w3 37 36 ≠ 3 → fld w3 34 0 = 0 →
      Completes (.gateWrite m) s (Answered 0x207 m .ok [] fun u => u.gate k = { s.gate k with pending := (s.gate k).pending ++ [(w1, w2, w3, s.now)] } ∧
        (∀ j, j ≠ k → u.gate j = s.gate j) ∧ u = { s with tu := { s.tu with gates := u.tu.gates } }))

/-- For a CUE_WRITE that is taken, of 6 words with the reserved bits of its first word 0: where DELAY is below 32 or WIDTH is 0 with STROBE_EN set, PITCH is 2^39 or more, PITCH is 0 with COUNT other than 1, DIR is other than FORWARD with REF time or phase, PORT names a port that is not member 0 of its group, or REF, DIR, GSET_MODE or reserved bits hold a reserved value, the response is BAD_ARG and the state is otherwise as before. Where none of these holds and PORT names a port of the die, the record is written to wait for the end of the cycle. (04_travel_and_time.md R133) -/
def Obligations.CueWriteRefusesReservedRecords : Prop :=
  ∀ (s : State) (m : Msg) (w0 p q r w3 w4 : Word), s.admits 0x208 permitRL m = true → m.payload = [w0, p, q, r, w3, w4] → fld w0 29 0 = 0 →
    let strobe := bit w3 39 = true
    let refused := (strobe ∧ fld w3 17 2 < 32) ∨ (strobe ∧ fld w3 33 18 = 0) ∨ 2 ^ 39 ≤ q.toNat ∨ (q = 0 ∧ fld r 22 0 ≠ 1) ∨
      ((fld r 39 38 = 1 ∨ fld r 39 38 = 2) ∧ fld r 37 36 ≠ 0) ∨ (s.port (fld w4 38 32)).bondPos ≠ 0 ∨ fld r 39 38 = 3 ∨ fld r 37 36 = 3 ∨ fld w3 1 0 ≠ 0 ∨ fld w4 6 5 = 3
    (refused → exec (.cueWrite m) s = .next (mailDone 0x208 m .badArg [] s)) ∧
    (¬ refused → fld w4 38 32 < s.variant.ports → Completes (.cueWrite m) s (Answered 0x208 m .ok [] fun u =>
      u.cue (fld w0 39 30) = { s.cue (fld w0 39 30) with written := some [p, q, r, w3, w4] } ∧
      (∀ j, j ≠ fld w0 39 30 → u.cue j = s.cue j) ∧ u = { s with tu := { s.tu with cues := u.tu.cues } }))

/-- Judged for a cycle in which travel does not jump, for an armed FORWARD cue on travel that is not catching up, with COUNT not 0 and not qualified by a gate, outside HOLD. Where the direction is FORWARD and travel stands at or beyond POINT when the cycle begins, or passes it before the cycle ends, event ID c is raised for that cue at the instant reached, the next point is POINT + PITCH and COUNT is one lower, or stays if unlimited. Where the direction is another, or travel stays short of POINT, the cue does nothing. CUE_READ answers point, pitch, settings with ARMED and COUNT in force, actions and both counts, and changes nothing. (04_travel_and_time.md R134, R135, R136, R137; 12_mailbox_and_commands.md R380) -/
def Obligations.CuesFireInTheirDirection : Prop :=
  (∀ (s : State) (c : Cyc) (k : Nat), (s.cue k).armed = true → (s.cue k).catchUp = none → (s.cue k).spent = false → (s.cue k).count ≠ 0 → (s.cue k).ref = 0 → (s.cue k).dir = 0 → bit (s.cue k).w2 31 = false →
      c.xOld = c.x0 → s.ledger.pstate ≠ .hold →
      ((s.tu.travel.dir = .forward ∧ (((s.cue k).point : Rat) ≤ c.x0 ∨ ((s.cue k).point : Rat) < c.x1)) →
        ((s.stepCue c k).cue k).point = (s.cue k).point + (s.cue k).pitch ∧
        ((s.stepCue c k).cue k).count = (if (s.cue k).count = unlimited then unlimited else (s.cue k).count - 1) ∧
        ∃ o ∈ (s.stepCue c k).router.queue, o.id = k ∧ o.code = 0 ∧ o.stamp = shortStamp (c.reach c.x0 (s.cue k).point c.speed)) ∧
      (¬ (s.tu.travel.dir = .forward ∧ (((s.cue k).point : Rat) ≤ c.x0 ∨ ((s.cue k).point : Rat) < c.x1)) →
        (s.stepCue c k).cue k = s.cue k ∧ (s.stepCue c k).router = s.router ∧ (s.stepCue c k).tu.strobes = s.tu.strobes)) ∧
    (∀ (s : State) (m : Msg) (w : Word), s.admits 0x209 permitRLB m = true → m.payload = [w] → fld w 29 0 = 0 →
      ∃ p3 p6, exec (.cueRead m) s = .next (mailDone 0x209 m .ok [wordOfInt (s.cue (fld w 39 30)).point, (s.cue (fld w 39 30)).w1, p3, (s.cue (fld w 39 30)).w3, (s.cue (fld w 39 30)).w4, p6] s) ∧
        bit p3 35 = (s.cue (fld w 39 30)).armed ∧ fld p3 39 36 = fld (s.cue (fld w 39 30)).w2 39 36 ∧ fld p3 34 23 = fld (s.cue (fld w 39 30)).w2 34 23 ∧
        fld p3 22 0 = (s.cue (fld w 39 30)).count % 2 ^ 23 ∧ fld p6 39 20 = (s.cue (fld w 39 30)).skipped % 2 ^ 20 ∧ fld p6 19 0 = (s.cue (fld w 39 30)).gated % 2 ^ 20)

/-- EPOCH_DEFINE with members of the die, of a set neither armed nor launched, defines it. EPOCH_LAUNCH of a defined set at least 100 µs ahead takes the next EPOCH and waits for a launch with that edge; with FROM_SYNC it arms the set. An edge of SYNC_IN held for 25 cycles launches every armed set, its lag after the edge and without a SYNC_OUT, and disarms it; with none armed it is counted. At the edge, a launch of one cue arms the cue with that instant and raises EPOCH_DONE with the set number. A planned SYNC_OUT pulse starts in its cycle and lasts 1 µs. The choices of the model that it rests on are those of the assumption log, entry 107. (04_travel_and_time.md R143, R144, R145; 12_mailbox_and_commands.md R378, R381) -/
def Obligations.EpochSetsAreLaunched : Prop :=
  ∀ (s : State) (m : Msg),
    (∀ (w0 w1 : Word) (members : List Word) (k : Nat), s.admits 0x20A permitRL m = true → m.payload = w0 :: w1 :: members → members.length ≤ 64 → fld w0 39 36 = k → fld w0 4 0 = 0 → fld w1 19 0 = 0 →
      (fld w0 35 16 = 0 ∨ 2 ≤ fld w0 35 16 ∧ fld w0 35 16 ≤ 1000000) → (fld w0 15 6 = 0 ∨ 2 ≤ fld w0 15 6 ∧ fld w0 15 6 ≤ 1000) → members.all (memberOk s) = true →
      (s.epochSet k).armed = false → (∀ l ∈ s.tu.launches, l.set ≠ k) →
      Completes (.epochDefine m) s (Answered 0x20A m .ok [] fun u => u.epochSet k =
          { defined := true, lead := if fld w0 35 16 = 0 then 100000 else 1000 * fld w0 35 16, syncLead := if fld w0 15 6 = 0 then 20000 else 1000 * fld w0 15 6,
            syncOut := bit w0 5, syncLag := fld w1 39 20, members := members, armed := false } ∧
        (∀ j, j ≠ k → u.epochSet j = s.epochSet j) ∧ u = { s with tu := { s.tu with sets := u.tu.sets } })) ∧
    (∀ (w0 w1 w2 : Word) (k e : Nat), s.admits 0x20B permitR m = true → s.mail.accepted = none → s.hasRoom m = true → m.payload = [w0, w1, w2] → fld w0 39 36 = k → fld w0 34 0 = 0 → (s.epochSet k).defined = true →
      (bit w0 35 = false → ptpNs w1 w2 = some e → s.dtNs + 100000 ≤ e →
        Completes (.epochLaunch m) s (Awaits s 0x20B m (.epochLaunch (16 + e * 256 + (s.tu.epoch + 1) % 256)) fun u => u.tu.epoch = (s.tu.epoch + 1) % 256 ∧
          ∃ l ∈ u.tu.launches, l.set = k ∧ l.edge = e ∧ l.epoch = u.tu.epoch ∧ l.members = (s.epochSet k).members)) ∧
      (bit w0 35 = true → w1 = 0 → w2 = 0 → (s.epochSet k).armed = false →
        Completes (.epochLaunchFromSync m) s (Awaits s 0x20B m (.epochLaunch k) fun u => u.epochSet k = { s.epochSet k with armed := true } ∧
          (∀ j, j ≠ k → u.epochSet j = s.epochSet j) ∧ u = { s with tu := { s.tu with sets := u.tu.sets } }))) ∧
    (∀ held stamp : Nat, s.scanOpen = false → 25 ≤ held → Completes (.syncInEdge held stamp) s fun t =>
      ((∀ k < 16, (s.epochSet k).armed = false) → fld t.time.syncCounts 39 24 = min 0xFFFF (fld s.time.syncCounts 39 24 + 1) ∧ t = { s with time := { s.time with syncCounts := t.time.syncCounts } }) ∧
      (∀ k < 16, (s.epochSet k).armed = true → (t.epochSet k).armed = false ∧
        ((s.epochSet k).defined = true → ∃ l ∈ t.tu.launches, l.set = k ∧ l.edge = stamp + (s.epochSet k).syncLag ∧ l.syncOut = false ∧ l.members = (s.epochSet k).members))) ∧
    (∀ (l : Launch) (r : List Launch) (w : Word), s.tu.launches = l :: r → ((l.edge * fracPerNs : Nat) : Int) < s.cycleEnd → l.members = [w] → l.planned = [true] → l.own = none → l.ticket = none →
      fld w 39 36 = 5 → s.readmitsOf l.set = [] →
      Completes .epochEdge s fun t => t.cue (fld w 35 26) = { s.cue (fld w 35 26) with arm := true, armEdge := some l.edge } ∧ (∀ j, j ≠ fld w 35 26 → t.cue j = s.cue j) ∧
        Raised s t evEpoch 1 (l.set % 2 ^ 20) ∧ t = { s with tu := { s.tu with launches := r, cues := t.tu.cues }, router := t.router }) ∧
    (∀ (b : Nat) (r : List Nat), s.tu.syncPlanned = b :: r → ((b * fracPerNs : Nat) : Int) < s.cycleEnd →
      Completes .syncOutPulse s fun t => t = { s with tu := { s.tu with syncPlanned := r, syncHigh := some (b + 1000) } })

/-- A PPS_IN edge of a source PPS, held for 25 cycles, is discarded and raises PPS_REJECT outside PPS_WINDOW while LOCKED; otherwise, and for a Sync on the AS port with source AS, the offset is measured: one above STEP_THRESH in LOCKED leads to ACQUIRING with TIME_UNLOCK, the 16th in a row within LOCK_THRESH in ACQUIRING leads to LOCKED with TIME_LOCKED. The silent source leads to HOLDOVER. Once Phokel runs, the servo plans a step for an offset above STEP_THRESH and otherwise keeps INCREMENT within SLEW_MAX. A read of TimeNowLo, while the host reaches the registers, latches the other three. A lighting edge is taken into the 8 periods, and silence for twice the period raises PHASE_LOST, which the next edge ends. The choices of the model that it rests on are those of the assumption log, entry 48. (04_travel_and_time.md R107, R108, R109, R112, R126, R127; 08_backbone.md R243) -/
def Obligations.DisciplineFollowsItsTable : Prop :=
  ∀ s : State,
    (∀ held stamp : Nat, s.scanOpen = false → 25 ≤ held → s.time.source = .pps →
      let off := secondOffset ((stamp : Int) - s.time.ppsDelay)
      (s.time.disc = .locked → 1000 * s.time.ppsWindow < off.natAbs → Completes (.ppsEdge held stamp) s fun t => Raised s t evTime 5 0 ∧
        fld t.time.syncCounts 23 8 = min 0xFFFF (fld s.time.syncCounts 23 8 + 1) ∧ t = { s with time := { s.time with syncCounts := t.time.syncCounts }, router := t.router }) ∧
      (s.time.disc = .locked → off.natAbs ≤ 1000 * s.time.ppsWindow → s.time.stepThresh < off.natAbs → Completes (.ppsEdge held stamp) s fun t => RaisedLast s t evTime 3 0 ∧
        t.time.disc = .acquiring ∧ t.time.newOffset = some off ∧ t.time.stepSum = s.time.stepSum ∧ t = { s with time := t.time, bb := t.bb, router := t.router }) ∧
      (s.time.disc = .acquiring → off.natAbs ≤ s.time.lockThresh → s.time.lockRun = 15 → Completes (.ppsEdge held stamp) s fun t => Raised s t evTime 2 0 ∧
        t.time.disc = .locked ∧ t.time.newOffset = some off ∧ t.time.stepSum = s.time.stepSum ∧ t = { s with time := t.time, bb := t.bb, router := t.router }) ∧
      (s.time.disc = .holdover → 2 ≤ s.time.lockThresh → off = 1 → Completes (.ppsEdge held stamp) s fun t => t.time.disc = .acquiring ∧ t.time.lockRun = 1 ∧ t.time.offset = 1 ∧
        t = { s with time := t.time })) ∧
    (∀ (b : Nat) (x : AsSync), b < s.variant.backbone → s.time.disc = .acquiring → s.time.lockThresh < (s.asOffset x).natAbs →
      let off := s.asOffset x
      (s.time.source = .as → s.time.asPort = b → Completes (.asSyncRx b x) s fun t => t.time.newOffset = some off ∧ t.time.lockRun = 0 ∧ t.time.disc = .acquiring ∧ t = { s with time := t.time }) ∧
      (s.time.asPort ≠ b → Completes (.asSyncRx b x) s fun t => t = s)) ∧
    ((s.time.disc = .acquiring ∨ s.time.disc = .locked) → (s.time.source = .as ∨ s.time.lastEdge + 375000000 ≤ s.now) →
      Completes .timeHoldover s fun t => t.time.disc = .holdover ∧ t.time.adj = s.time.adj ∧ RaisedLast s t evTime 4 0 ∧ (s.time.disc = .acquiring → t.bb = s.bb) ∧
        t = { s with time := { s.time with disc := .holdover, lockRun := 0 }, bb := t.bb, router := t.router }) ∧
    (∀ off : Int, s.rst.phokel = true → s.phokelStops = false → (s.time.disc = .acquiring ∨ s.time.disc = .locked) → s.time.newOffset = some off →
      Completes .servoUpdate s fun t => t.time.newOffset = none ∧ t.time.stepSum = s.time.stepSum ∧
        (s.time.stepThresh < off.natAbs → t.time.stepPending = some (-off, s.now) ∧ t.time.adj = s.time.adj) ∧
        (off.natAbs ≤ s.time.stepThresh → t.time.stepPending = s.time.stepPending ∧ t.time.adj.natAbs * 1000000 ≤ 4 * 2 ^ 32 * s.time.slewMax)) ∧
    (s.hostRegs = true → Completes .timeNowRead s fun t => t.host.lastRead = BitVec.ofNat 64 s.timeNowLo.toNat ∧ t.time.latchHi = some s.timeNowHi ∧ t.time.latchTravel = some s.travelNow ∧
      t.time.latchStatus = some s.travelStatus ∧ t = { s with time := t.time, host := { s.host with lastRead := t.host.lastRead } }) ∧
    (∀ held stamp u : Nat, s.scanOpen = false → 25 ≤ held → s.tu.phase.lastEdge = some u →
      Completes (.phaseEdge held stamp) s fun t => t.tu.phase.lastEdge = some (s.localOf stamp) ∧ t.tu.phase.lost = false ∧ t.tu.phase.edge = true ∧
        (s.tu.phase.lost = false → t.tu.phase.periods = ((s.localOf stamp - u) :: s.tu.phase.periods).take 8 ∧ t.router = s.router) ∧
        (s.tu.phase.lost = true → t.tu.phase.periods = s.tu.phase.periods ∧ Raised s t evPhase 2 0)) ∧
    (∀ (q : Rat) (u : Nat), s.tu.phase.period = some q → s.tu.phase.lastEdge = some u → s.tu.phase.lost = false → 2 * q ≤ (((s.time.mono : Int) - u : Int) : Rat) →
      Completes .phaseLost s fun t => t.tu.phase = { s.tu.phase with lost := true } ∧ Raised s t evPhase 1 0 ∧ t = { s with tu := { s.tu with phase := t.tu.phase }, router := t.router })

/-- An edge held for less than GLITCH is a glitch counted. One less than 100 ns after the last accepted edge of its input only changes the level and is counted OVERRATE. Any other is a tick, with its quadrature sign, on an enabled axis. An index edge restarts the net count; on an enabled axis, off by more than 2 in the same direction it raises AXIS_INDEX_ERR, counts and excludes; the second good revolution restores. No tick for STANDSTILL clears the ticks. In TRACK an axis outside tolerance for EXCLUDE_TIME is excluded with AXIS_SLIP or AXIS_SLIDE, inside for RESTORE_TIME restored with AXIS_RESTORED. The coast distance at COAST_LIMIT leads to DEGRADED, and an eligible reference held for RESTORE_TIME back to TRACK. No other axis changes. The choices of the model that it rests on are those of the assumption log, entries 48, 160, 179. (04_travel_and_time.md R114, R115, R116, R117, R118) -/
def Obligations.AxesCountAndAreChecked : Prop :=
  ∀ (s : State) (a : Nat), a < 4 → s.scanOpen = false →
    (∀ (inputB level : Bool) (held stamp : Nat), Completes (.encoderEdge a inputB level held stamp) s fun t =>
      (∀ b, b ≠ a → t.axis b = s.axis b) ∧ t = { s with tu := { s.tu with axes := t.tu.axes } } ∧
      let x := s.axis a
      let last := if inputB then x.lastB else x.lastA
      let near := ∃ v, last = some v ∧ s.localOf stamp < v + 100 * 2 ^ 32
      let sign : Int := if (if inputB then level == x.levelA else level != x.levelB) != x.invert then 1 else -1
      (held < x.glitch → fld (t.axis a).counts 15 0 = min 0xFFFF (fld x.counts 15 0 + 1) ∧ t.axis a = { x with counts := (t.axis a).counts }) ∧
      (x.glitch ≤ held → (if inputB then (t.axis a).levelB else (t.axis a).levelA) = level ∧
        (near → fld (t.axis a).counts 39 24 = min 0xFFFF (fld x.counts 39 24 + 1) ∧ (t.axis a).ticks = x.ticks ∧ (t.axis a).n = x.n) ∧
        (¬ near → x.enable = true → x.pitch ≠ 0 → (t.axis a).ticks.head? = some (s.localOf stamp, sign) ∧ (t.axis a).n = x.n + 1 ∧ (t.axis a).net = x.net + sign ∧
          (if inputB then (t.axis a).lastB else (t.axis a).lastA) = some (s.localOf stamp)) ∧
        (¬ near → x.enable = false → (t.axis a).ticks = x.ticks ∧ (t.axis a).n = x.n))) ∧
    (∀ held stamp : Nat, (s.axis a).glitch ≤ held → Completes (.encoderIndex a held stamp) s fun t =>
      let x := s.axis a
      let off := ((x.net.natAbs : Int) - x.ticksPerRev).natAbs
      (t.axis a).net = 0 ∧ (t.axis a).lastZ = x.lastSign ∧ (∀ b, b ≠ a → t.axis b = s.axis b) ∧
      (x.enable = true → x.ticksPerRev ≠ 0 → x.lastSign ≠ 0 → x.lastSign = x.lastZ → 2 < off → (t.axis a).indexExcl = true ∧ Raised s t (evAxis a) 1 0 ∧
        fld (t.axis a).counts 23 16 = min 0xFF (fld x.counts 23 16 + 1)) ∧
      (x.enable = true → x.ticksPerRev ≠ 0 → x.lastSign ≠ 0 → x.lastSign = x.lastZ → off ≤ 2 → t.router = s.router ∧ (x.indexExcl = true → (t.axis a).indexExcl = decide (x.indexGood = 0) ∧ (t.axis a).indexGood = x.indexGood + 1)) ∧
      (x.enable = false ∨ x.lastSign ≠ x.lastZ → t.router = s.router ∧ (t.axis a).indexExcl = x.indexExcl ∧ (t.axis a).counts = x.counts)) ∧
    (∀ (u : Nat) (g : Int) (r : List (Nat × Int)), (s.axis a).ticks = (u, g) :: r → u + s.tu.travel.standstill * unitsPerMs ≤ s.time.mono →
      Completes (.axisStandstill a) s fun t => t.axis a = { s.axis a with ticks := [], n := 0, since0 := 0 } ∧ (∀ b, b ≠ a → t.axis b = s.axis b) ∧ t = { s with tu := { s.tu with axes := t.tu.axes } }) ∧
    (∀ u : Nat, s.tu.travel.state = .track → (s.axis a).excluded = false → (s.axis a).outSince = some u → u + s.tu.travel.excludeTime * unitsPerMs ≤ s.time.mono →
      Completes (.axisExclude a) s fun t => t.axis a = { s.axis a with excluded := true, outSince := none } ∧ (∀ b, b ≠ a → t.axis b = s.axis b) ∧
        Raised s t (evAxis a) (if absRat ((s.axis s.tu.travel.ref).speed s.tu.travel.standstill s.time.mono) < absRat ((s.axis a).speed s.tu.travel.standstill s.time.mono) then 2 else 3) 0 ∧
        t = { s with tu := { s.tu with axes := t.tu.axes }, router := t.router }) ∧
    (∀ u : Nat, s.tu.travel.state = .track → (s.axis a).excluded = true → (s.axis a).inSince = some u → u + s.tu.travel.restoreTime * unitsPerMs ≤ s.time.mono →
      Completes (.axisRestored a) s fun t => t.axis a = { s.axis a with excluded := false, inSince := none } ∧ (∀ b, b ≠ a → t.axis b = s.axis b) ∧
        Raised s t (evAxis a) 4 0 ∧ t = { s with tu := { s.tu with axes := t.tu.axes }, router := t.router }) ∧
    (s.tu.travel.state = .coast → (s.tu.travel.coastLimit : Rat) ≤ s.tu.travel.coast →
      Completes .travelDegraded s fun t => Raised s t evTravel 3 0 ∧ t = { s with tu := { s.tu with travel := { s.tu.travel with state := .degraded } }, router := t.router }) ∧
    (∀ u : Nat, (s.tu.travel.state = .coast ∨ s.tu.travel.state = .degraded) → s.tu.travel.agreeSince = some u → u + s.tu.travel.restoreTime * unitsPerMs ≤ s.time.mono →
      Completes .travelRecovered s fun t => t.tu.travel.state = .track ∧ t.tu.travel.tr = s.tu.travel.tr ∧ Raised s t evTravel 4 0 ∧
        t = { s with tu := { s.tu with travel := t.tu.travel }, router := t.router })

/-- For a mark in use, an edge of its polarity held for its glitch time, while travel moves in the mark's direction: the correction is the mark's position less travel at the edge. Beyond MARK_WIN it is rejected with code 2, and in use EVENT_ONLY reported with code 1, and travel is untouched. Up to SLEW_MAX it becomes a slew, beyond that a step at the next jump; both set the accumulated error bound to MARK_TOL and report code 1. The correction itself is applied by the cycle. Nothing but travel, the event and its log entry changes. The choices of the model that it rests on are those of the assumption log, entries 159, 179. (04_travel_and_time.md R123, R124, R125, R122) -/
def Obligations.MarksCorrectTravel : Prop :=
  ∀ (s : State) (k : Nat) (falling : Bool) (held stamp : Nat), k < 8 → s.scanOpen = false → (s.mark k).use ≠ .off → (s.mark k).falling = falling → (s.mark k).glitch ≤ held →
    ((s.mark k).dir = 2 ∨ ((s.mark k).dir = 0 ∧ s.tu.travel.dir = .forward) ∨ ((s.mark k).dir = 1 ∧ s.tu.travel.dir = .reverse)) →
    let x := s.mark k
    let corr := signed 40 x.pos.toNat - ratFloor (s.tu.travel.at s.time.mono (s.localOf stamp))
    Completes (.markEdge k falling held stamp) s fun t =>
      t = { s with tu := { s.tu with travel := t.tu.travel }, log := t.log, router := t.router } ∧ t.tu.travel.tr = s.tu.travel.tr ∧
      (x.win < corr.natAbs → t.tu.travel = s.tu.travel ∧ Raised s t (evMark k) 2 0) ∧
      (corr.natAbs ≤ x.win → Raised s t (evMark k) 1 0 ∧
        (x.use = .eventOnly → t.tu.travel = s.tu.travel) ∧
        (x.use = .snap → t.tu.travel.errAcc = (x.tol : Rat) ∧
          (corr.natAbs ≤ x.slewMax → t.tu.travel.jump = s.tu.travel.jump ∧ (corr ≠ 0 → ∃ z, t.tu.travel.slew = some z ∧ z.rest = (corr : Rat) ∧ z.pct = x.slewPct)) ∧
          (x.slewMax < corr.natAbs → t.tu.travel.jump = s.tu.travel.jump + (corr : Rat) ∧ t.tu.travel.slew = none)))

/-- For each strobe output, the earliest planned pulse whose start lies before the end of the cycle leaves the plan; with ENABLE set, in RUN, the output is high until the pulse, or one already in progress, ends, and PULSES counts one; in LOW, HOLD or with ENABLE clear nothing starts. While the host reaches the registers, a legal write of Cfg takes effect at once with no pulse in progress, PULSES kept, and waits otherwise; an illegal one changes only RegFault and raises its event. An input, as configured before the writes of the same cycle, whose level has held for GLITCH cycles takes it and raises the enabled event of that edge under INVERT, stamped at the edge. Boundary scan does not have the balls. The choices of the model that it rests on are those of the assumption log, entries 106, 179, 183. (04_travel_and_time.md R138, R139; 16_board_interfaces.md R471, R472, R473) -/
def Obligations.PinsAndStrobes : Prop :=
  ∀ (s : State) (k : Nat),
    (∀ (b w : Nat) (r : List (Nat × Nat)), k < 32 → (s.strobe k).planned = (b, w) :: r → ((b * fracPerNs : Nat) : Int) < s.cycleEnd →
      Completes (.strobePulseStart k) s fun t => (t.strobe k).planned = r ∧ (∀ j, j ≠ k → t.strobe j = s.strobe j) ∧ t = { s with tu := { s.tu with strobes := t.tu.strobes } } ∧
        (bit (s.strobe k).cfg 39 = true → s.ledger.pstate = .run → (t.strobe k).highUntil = some (match (s.strobe k).highUntil with | some h => max h (b + w) | none => b + w) ∧
          fld (t.strobe k).cfg 21 6 = min 0xFFFF (fld (s.strobe k).cfg 21 6 + 1)) ∧
        ((bit (s.strobe k).cfg 39 = false ∨ s.ledger.pstate ≠ .run) → (t.strobe k).highUntil = (s.strobe k).highUntil ∧ (t.strobe k).cfg = (s.strobe k).cfg)) ∧
    (∀ v : Word, k < 32 → s.hostRegs = true →
      (fld v 37 22 ≠ 0 → fld v 5 0 = 0 → Completes (.strobeCfgWrite k v) s fun t => (∀ j, j ≠ k → t.strobe j = s.strobe j) ∧ t = { s with tu := { s.tu with strobes := t.tu.strobes } } ∧
        ((s.strobe k).highUntil ≠ none → t.strobe k = { s.strobe k with cfgPending := some v }) ∧
        ((s.strobe k).highUntil = none → fld (t.strobe k).cfg 39 22 = fld v 39 22 ∧ fld (t.strobe k).cfg 21 6 = fld (s.strobe k).cfg 21 6 ∧ (t.strobe k).planned = (s.strobe k).planned)) ∧
      ((fld v 37 22 = 0 ∨ fld v 5 0 ≠ 0) → Completes (.strobeCfgWrite k v) s fun t => Raised s t evRegs 1 ((0x800 + 8 * k) / 64) ∧ fld t.host.regFault 39 14 = 0x800 + 8 * k ∧
        t = { s with host := { s.host with regFault := t.host.regFault, regFaultWas := t.host.regFaultWas }, router := t.router })) ∧
    (∀ (level : Bool) (held stamp : Nat), k < 16 → s.scanOpen = false →
      let cfg := (s.gpio k).cfgAt s.now
      fld cfg 39 37 = gpioInput → fld cfg 32 25 ≤ held → (s.gpio k).level ≠ level →
      Completes (.gpioEdge k level held stamp) s fun t => (t.gpio k).level = level ∧ (∀ j, j ≠ k → t.gpio j = s.gpio j) ∧
        t = { s with board := t.board, router := t.router } ∧
        (bit cfg (if (level != bit cfg 35) then 34 else 33) = false → t.router = s.router) ∧
        (bit cfg (if (level != bit cfg 35) then 34 else 33) = true → Raised s t (evGpio k) (if (level != bit cfg 35) then 1 else 2) 0 ∧
          t.router.queue.getLast?.map (fun o => o.stamp) = some (shortStamp stamp)))

/-- Every TIMEBASE_CYCLE completes. Local time grows by INCREMENT and the count of cycles by one; with no step pending Device Time grows by INCREMENT, and a TIME_SET of an earlier cycle, no servo step pending, makes it the value set plus INCREMENT. Each gate is open after it as its record in force says at the last ns, travel or phase that the cycle meets before its end: a record written in an earlier cycle is in force. A WINDOW gate on travel is open while START ≤ v < END; on time and phase by the difference modulo 2^40 and 65 536; START = END never opens. The choices of the model that it rests on are those of the assumption log, entries 47, 78, 161. (04_travel_and_time.md R106, R107, R108, R111, R128, R129, R130) -/
def Obligations.TimebaseCycleAdvances : Prop :=
  (∀ s : State, Completes .timebaseCycle s fun t => t.time.cycle = s.time.cycle + 1 ∧ t.time.mono = ((s.time.mono : Int) + s.increment).toNat ∧ t.time.adj = s.time.adj ∧
      (s.time.stepPending = none → s.time.setPending = [] → t.time.stepSum = s.time.stepSum) ∧
      (∀ v c : Nat, s.time.stepPending = none → s.time.setPending = [(v, c)] → c < s.now → t.time.stepSum = ((v * fracPerNs : Nat) : Int) - s.time.mono ∧ t.time.setPending = []) ∧
      (∀ k : Nat, (s.gate k).pendingMode = [] →
        let c := (s.stepQuantities s.increment).1
        let just := fun (u v : Rat) => if u < v then ratCeil v - 1 else ratFloor v
        let judged := fun (g : Gate) =>
          let v : Int := if g.ref = 0 then just c.x0 c.x1 else if g.ref = 1 then c.lastNs else just c.p0 c.p1
          g.openAt (wordOfInt v) (wordOfInt v) (v.toNat % 65536)
        ((s.gate k).pending = [] → (t.gate k).isOpen = judged (s.gate k)) ∧
        (∀ (a b d : Word) (n : Nat), (s.gate k).pending = [(a, b, d, n)] → n < s.now → (t.gate k).isOpen = judged { s.gate k with w0 := a, w1 := b, w2 := d }))) ∧
    (∀ (g : Gate) (x stamp : Word) (ph : Nat),
      (g.mode = 1 → g.openAt x stamp ph = true) ∧ (g.mode = 2 → g.openAt x stamp ph = false) ∧
      (g.mode = 0 → g.ref = 0 → (g.openAt x stamp ph = true ↔ g.w0.toInt ≤ x.toInt ∧ x.toInt < g.w1.toInt)) ∧
      (g.mode = 0 → g.ref = 1 → (g.openAt x stamp ph = true ↔ (stamp - g.w0).toNat < (g.w1 - g.w0).toNat)) ∧
      (g.mode = 0 → g.ref = 2 → ph < 65536 → (g.openAt x stamp ph = true ↔ (BitVec.ofNat 16 ph - BitVec.ofNat 16 (fld g.w0 15 0)).toNat < (BitVec.ofNat 16 (fld g.w1 15 0) - BitVec.ofNat 16 (fld g.w0 15 0)).toNat)))

/-- For a context of the die. CTX_BIND with legal fields, on a free channel, of an unbound context binds it to wait for its first frame start where R153 admits it, other contexts of a port that stores no lines and of Facets that shed none changing at most their partition, and answers NO_RESOURCE otherwise. CTX_UNBIND waits, of a context with no frame for the end of its cycle and of one in a frame for the frame. CTX_MOVE to a running Facet with room, and CTX_STAMP_CFG, wait for the next frame start with what they carry. CTX_STATS_INFO answers both record addresses; CTX_STATS_HOST opens a channel; CTX_LOOP_CFG sets both loops. The choices of the model that it rests on are those of the assumption log, entries 42, 84, 94, 103, 120, 162, 175. (05_ingest_and_contexts.md R151, R152, R153, R165; 12_mailbox_and_commands.md R378, R382, R383, R384) -/
def Obligations.ContextsAreBoundAndSet : Prop :=
  ∀ (s : State) (m : Msg) (c : Nat), c < s.variant.contexts →
    (∀ (w0 : Word) (b : Bind), s.admits 0x300 permitR m = true → m.payload = [w0, b.w0, b.w1, b.w2, b.w3] → fld w0 39 32 = c → fld w0 31 0 = 0 → portArg s b.port = true →
      (b.bypass = true ∨ b.facet < s.variant.facets) → b.fieldsOk = true → (∀ d ∈ s.bound, (s.ctx d).bind.port = b.port → (s.ctx d).bind.vc ≠ b.vc) → (s.ctx c).state = .unbound →
      (s.admitsBind c b = true → Completes (.ctxBind m) s (Answered 0x300 m .ok [] fun u => (u.ctx c).state = .waitStart ∧ (u.ctx c).bind = b ∧ (u.ctx c).home = b.facet ∧
        (u.ctx c).frames = [] ∧ (u.ctx c).inForce = (Context.reset c).inForce ∧ (u.ctx c).boundAt = s.now ∧
        ((s.facet b.facet).shedding = false → (∀ x ∈ s.portCtxs b.port, (s.ctx x.1).pend = 0 ∧ (s.facet (s.ctx x.1).home).shedding = false) →
          (∀ d, d ≠ c → u.ctx d = { s.ctx d with ringWords := (u.ctx d).ringWords }) ∧ u = { s with ctxs := u.ctxs }))) ∧
      (s.admitsBind c b = false → exec (.ctxBind m) s = .next (mailDone 0x300 m .noResource [] s))) ∧
    (∀ w : Word, s.admits 0x301 permitR m = true → m.payload = [w] → fld w 39 32 = c → fld w 31 0 = 0 → (s.ctx c).state ≠ .unbound → (s.ctx c).unbindPending = false →
      s.hasRoom m = true → Completes (.ctxUnbind m) s (Awaits s 0x301 m (.ctxUnbind c) fun u => (u.ctx c).unbindPending = true ∧ (u.ctx c).unbindAt = s.now ∧ (u.ctx c).state = (s.ctx c).state ∧
        (u.ctx c).frames = (s.ctx c).frames ∧ (u.ctx c).commitPending = false ∧ (u.ctx c).stampPending = none ∧ (∀ d, d ≠ c → u.ctx d = s.ctx d) ∧
        ((∀ i ∈ s.mail.inflight, i.wait ≠ .commit c ∧ i.wait ≠ .ctxStamp c ∧ i.wait ≠ .ctxMove c) → u = { s with ctxs := u.ctxs }))) ∧
    (∀ (w : Word) (f : Nat), s.admits 0x302 permitR m = true → s.hasRoom m = true → m.payload = [w] → fld w 39 32 = c → fld w 31 27 = f → fld w 26 0 = 0 → f < s.variant.facets →
      (s.ctx c).state ≠ .unbound → (s.ctx c).bind.bypass = false → (s.ctx c).unbindPending = false → (s.ctx c).movePending = none → (s.facet f).state = .run →
      facetFits facetCap ((((s.facetHolds f).filter fun d => d != c) ++ [c]).map s.loadOf) = true →
      Completes (.ctxMove m) s (Awaits s 0x302 m (.ctxMove c) fun u => u.ctx c = { s.ctx c with movePending := some (f, s.now + 1) } ∧ (∀ d, d ≠ c → u.ctx d = s.ctx d) ∧ u = { s with ctxs := u.ctxs })) ∧
    (∀ w0 w1 w2 w3 w4 w5 : Word, s.admits 0x303 permitR m = true → s.hasRoom m = true → m.payload = [w0, w1, w2, w3, w4, w5] → fld w0 39 32 = c → fld w0 26 0 = 0 → fld w1 9 0 = 0 → fld w3 15 0 = 0 →
      fld w4 7 0 = 0 → fld w4 39 26 + fld w4 25 24 + 1 ≤ 16384 → fld w4 23 10 + fld w4 9 8 + 1 ≤ 16384 → (s.ctx c).state ≠ .unbound → (s.ctx c).stampPending = none → (s.ctx c).unbindPending = false →
      Completes (.ctxStampCfg m) s (Awaits s 0x303 m (.ctxStamp c) fun u => (∃ k, u.ctx c = { s.ctx c with stampPending := some { value := k, cycle := s.now, before := none } } ∧ k.mode = fld w0 31 30 ∧ k.embExp = bit w0 29 ∧ k.embGain = bit w0 28 ∧
        k.bigEndian = bit w0 27 ∧ k.exposure = fld w1 39 10 ∧ k.expOffset = signed 20 (fld w2 39 20) ∧ k.readoutLat = fld w2 19 0 ∧ k.rowTime = fld w3 39 16 ∧ k.expByte = fld w4 39 26 ∧
        k.expLen = fld w4 25 24 + 1 ∧ k.gainByte = fld w4 23 10 ∧ k.gainLen = fld w4 9 8 + 1 ∧ k.expScale = fld w5 39 16 ∧ k.gainScale = fld w5 15 0) ∧
        (∀ d, d ≠ c → u.ctx d = s.ctx d) ∧ u = { s with ctxs := u.ctxs })) ∧
    (∀ w : Word, s.admits 0x307 permitRB m = true → m.payload = [w] → fld w 39 32 = c → fld w 31 0 = 0 →
      exec (.ctxStatsInfo m) s = .next (mailDone 0x307 m .ok [BitVec.ofNat 40 (Config.statsAddress c 0 % s.variant.extWords), BitVec.ofNat 40 (Config.statsAddress c 1 % s.variant.extWords)] s)) ∧
    (∀ (w0 w1 w2 : Word) (e ch : Nat), s.admits 0x308 permitR0 m = true → m.payload = [w0, w1, w2] → fld w0 39 32 = c → bit w0 27 = true → fld w0 26 0 = 0 → 2 ≤ fld w0 31 28 → fld w1 4 0 = 0 →
      fld w2 39 24 = 0 → (s.ctx c).state ≠ .unbound → (s.ctx c).statsRing = none → s.place 0 = some (e, ch) → ch < 32 →
      Completes (.ctxStatsHost m) s (Answered 0x308 m .ok [mkWord [(39, 35, e), (34, 30, ch)]] fun u => (u.ctx c).statsRing = some (e, ch) ∧ (u.chan e ch).enable = true ∧
        (u.chan e ch).size = fld w0 31 28 ∧ (u.chan e ch).ringLo = w1 ∧ (u.chan e ch).ringHi = w2 ∧ (u.chan e ch).context = c ∧ (∀ d, d ≠ c → u.ctx d = s.ctx d))) ∧
    (∀ w0 w1 w2 w3 : Word, s.admits 0x309 permitR m = true → m.payload = [w0, w1, w2, w3] → fld w0 39 32 = c → fld w0 23 0 = 0 → fld w0 25 24 ≠ 0 → fld w2 3 0 = 0 → fld w3 20 0 = 0 →
      (s.ctx c).state ≠ .unbound →
      Completes (.ctxLoopCfg m) s (Answered 0x309 m .ok [] fun u => (u.ctx c).loop = { aeEn := bit w0 31, awbEn := bit w0 30, div := fld w0 29 26, ahead := fld w0 25 24, targetY := fld w1 39 20, expMax := fld w1 19 0, expAddr := fld w2 39 24, expBytes := fld w2 23 22 + 1, gainAddr := fld w2 21 6, gainBytes := fld w2 5 4 + 1, target := fld w3 39 33, gainMax := fld w3 32 21 } ∧
        (∀ d, d ≠ c → u.ctx d = s.ctx d) ∧ u = { s with ctxs := u.ctxs }))

/-- For a bound context with no commit pending, and Engine 28 able to read host memory where a command loads. CTX_PARAM_WRITE, and its form from host memory, replace the shadow words that they name and nothing else. CTX_COMMIT with a set that R195 allows waits for its frame, or the next one, the set in force unchanged; a set that it refuses answers BAD_ARG with RESULT 4; a parity error answers FAULT with RESULT 3. As a frame opens, a commit of that cycle waits on, and an earlier one that is due swaps shadow and set in force and reports the frame, OK on time and LATE after its frame; a commit for a later frame stays pending. CTX_TABLE_LOAD writes a slot that neither set names. The choices of the model that it rests on are those of the assumption log, entries 13, 109, 173. (06_facet_pipeline.md R193, R194, R195, R196, R197, R198; 12_mailbox_and_commands.md R383; 01_architecture.md R17) -/
def Obligations.ParametersAreShadowed : Prop :=
  ∀ (s : State) (m : Msg) (c : Nat), c < s.variant.contexts → (s.ctx c).state ≠ .unbound →
    ((s.ctx c).commitPending = false → (s.ctx c).loop.awbEn = false →
      let wrote := fun (first : Nat) (ws : List Word) (u : State) =>
        (∀ i, paramGet (u.ctx c).shadow i = if first ≤ i ∧ i < first + ws.length then pw ws (i - first) else paramGet (s.ctx c).shadow i) ∧
        (u.ctx c).inForce = (s.ctx c).inForce ∧ (∀ d, d ≠ c → u.ctx d = s.ctx d) ∧ u = { s with ctxs := u.ctxs }
      (∀ (w : Word) (ws : List Word), s.admits 0x304 permitR m = true → m.payload = w :: ws → ws ≠ [] → ws.length ≤ 254 → fld w 39 32 = c → bit w 19 = false → fld w 18 0 = 0 →
        fld w 31 20 + ws.length ≤ 2456 → Completes (.ctxParamWrite m) s (Answered 0x304 m .ok [] (wrote (fld w 31 20) ws))) ∧
      (∀ (w lo hi n : Word) (host : List Byte), s.admits 0x304 permitR m = true → s.hasRoom m = true → s.loadsOpen = true → m.payload = [w, lo, hi, n] → fld w 39 32 = c → bit w 19 = true → fld w 18 0 = 0 → fld hi 39 24 = 0 → fld n 39 12 = 0 →
        fld w 31 20 + fld n 11 0 + 1 ≤ 2456 → 8 * (fld n 11 0 + 1) ≤ host.length → Completes (.ctxParamWriteHost m host) s (Answered 0x304 m .ok [] (wrote (fld w 31 20) (wordsOfHost (fld n 11 0 + 1) host))))) ∧
    (∀ w : Word, s.admits 0x305 permitR m = true → m.flags.getLsbD 1 = false → m.payload = [w] → fld w 39 32 = c → fld w 31 0 = 0 → (s.ctx c).commitPending = false → (s.ctx c).unbindPending = false →
      ((s.ctx c).shadowOk = true → s.hasRoom m = true → Completes (.ctxCommit m false) s (Awaits s 0x305 m (.commit c) fun u => (u.ctx c).commitPending = true ∧ (u.ctx c).atFrame = false ∧
        (u.ctx c).result = 0 ∧ (u.ctx c).inForce = (s.ctx c).inForce ∧ (u.ctx c).shadow = (s.ctx c).shadow ∧ (∀ d, d ≠ c → u.ctx d = s.ctx d) ∧ u = { s with ctxs := u.ctxs })) ∧
      ((s.ctx c).shadowOk = false → Completes (.ctxCommit m false) s (Answered 0x305 m .badArg [] fun u => u.ctx c = { s.ctx c with result := 4 } ∧ (∀ d, d ≠ c → u.ctx d = s.ctx d) ∧ u = { s with ctxs := u.ctxs })) ∧
      (s.hasRoom m = true → Completes (.ctxCommit m true) s (Answered 0x305 m .fault [] fun u => u.ctx c = { s.ctx c with result := 3 } ∧ u.router.queue ≠ s.router.queue))) ∧
    (∀ (no w : Word), s.admits 0x305 permitR m = true → m.flags.getLsbD 1 = true → m.payload = [no, w] → fld w 39 32 = c → fld w 31 0 = 0 → (s.ctx c).commitPending = false →
      (s.ctx c).unbindPending = false → (s.ctx c).shadowOk = true → s.hasRoom m = true →
      Completes (.ctxCommit m false) s (Awaits s 0x305 m (.commit c) fun u => (u.ctx c).commitPending = true ∧ (u.ctx c).atFrame = true ∧ (u.ctx c).target = no ∧ (u.ctx c).inForce = (s.ctx c).inForce)) ∧
    ((s.ctx c).commitPending = true → (s.ctx c).commitAt = s.now → ∀ no : Nat, s.applyCommit c no = s) ∧
    ((s.ctx c).commitPending = true → (s.ctx c).commitAt ≠ s.now → ∀ no : Nat, no < 2 ^ 40 →
      let late := (s.ctx c).atFrame = true ∧ no ≠ (s.ctx c).target.toNat
      ((s.ctx c).atFrame = false ∨ (no + 2 ^ 40 - (s.ctx c).target.toNat) % 2 ^ 40 < 2 ^ 39 →
        ((s.applyCommit c no).ctx c).inForce = (s.ctx c).shadow ∧ ((s.applyCommit c no).ctx c).shadow = (s.ctx c).inForce ∧ ((s.applyCommit c no).ctx c).commitPending = false ∧
        ((s.applyCommit c no).ctx c).paramFrame.toNat = no ∧ (late → ((s.applyCommit c no).ctx c).result = 2) ∧ (¬ late → ((s.applyCommit c no).ctx c).result = 1)) ∧
      ((s.ctx c).atFrame = true → 2 ^ 39 ≤ (no + 2 ^ 40 - (s.ctx c).target.toNat) % 2 ^ 40 → s.applyCommit c no = s)) ∧
    (∀ (w lo hi : Word) (host : List Byte), s.admits 0x306 permitR m = true → s.hasRoom m = true → s.loadsOpen = true → m.payload = [w, lo, hi] → fld w 39 32 = c → fld w 12 0 = 0 → fld hi 39 24 = 0 → bit w 31 = false → fld w 29 13 = 6370 →
      bit (paramGet (s.ctx c).inForce 1) 39 ≠ bit w 30 → ((s.ctx c).commitPending = true → bit (paramGet (s.ctx c).shadow 1) 39 ≠ bit w 30) →
      8 * 6370 ≤ host.length → Completes (.ctxTableLoad m host) s (Answered 0x306 m .ok [] fun u => (if bit w 30 then (u.ctx c).shadeB else (u.ctx c).shadeA) = some (wordsOfHost 6370 host) ∧
        (u.ctx c).inForce = (s.ctx c).inForce ∧ (∀ d, d ≠ c → u.ctx d = s.ctx d) ∧ u = { s with ctxs := u.ctxs }))

/-- A Facet that does not run or drain, and any Facet in HOLD, takes no line; otherwise the line that the arbiter chooses is taken and counted. FACET_FRAME_END in RUN writes the oldest record due into the buffer of its sequence number, every other word of external memory unchanged, and raises its event. RAW_TAP_COPY marks the oldest line not yet copied. FRAME_TIMEOUT closes a frame silent for its time. RATE_WINDOW_CHECK at the end of a window, 1 s of Device Time or 1 ms of readout, restarts its count and raises its event once while the measured rate stays above 105 per cent. AE_AWB_LOOP writes words 4 and 5 of the shadow alone. REDUCTION_UNDO undoes the newest step, and the next one no sooner than 100 ms later. The choices of the model that it rests on are those of the assumption log, entries 30, 42, 48, 110, 150, 163. (05_ingest_and_contexts.md R157, R159, R160, R161, R150; 06_facet_pipeline.md R192, R200; 12_mailbox_and_commands.md R374, R384; 15_service_and_faults.md R452) -/
def Obligations.FacetsAndFramesGoOn : Prop :=
  ∀ s : State,
    (∀ (f : Nat) (fault : LineFault), f < s.variant.facets →
      ((s.facet f).takesLines = false ∨ s.ledger.pstate = .hold → Completes (.facetLineTake f fault) s fun t => t = s) ∧
      (∀ c : Nat, (s.facet f).takesLines = true → s.ledger.pstate ≠ .hold → (s.arbitrate 200 f).1 = some c →
        Completes (.facetLineTake f .none) s fun t => min 0xFFFFF (fld (s.facet f).counts 39 20 + 1) ≤ fld (t.facet f).counts 39 20 ∧
          ∀ l, (s.arbitrate 200 f).2.readyLine f c = some l → ∀ y ∈ (t.ctx c).ring, y.frame = l.frame → y.y = l.y → y.taken = true)) ∧
    (∀ (c : Nat) (d : StatsDue) (rest : List StatsDue), c < s.variant.contexts → s.ledger.pstate = .run → (s.ctx c).statsDue = d :: rest → (s.ctx c).statsRing = none →
      let seq := (s.ctx c).statsSeq.toNat + 1
      let base := Config.statsAddress c ((seq + 1) % 2)
      Completes (.facetFrameEnd { context := c, merge := .good }) s fun t => (t.ctx c).statsDue = rest ∧ (t.ctx c).statsSeq = (s.ctx c).statsSeq + 1 ∧ (∀ k, k ≠ c → t.ctx k = s.ctx k) ∧ Raised s t (evCtx c) 6 0 ∧
        (∀ i, i < 6152 → memRead t.extMem ((base + i) % s.variant.extWords) = d.word c seq i) ∧
        (∀ a, (∀ i, i < 6152 → a ≠ (base + i) % s.variant.extWords) → memRead t.extMem a = memRead s.extMem a) ∧
        t = { s with ctxs := t.ctxs, extMem := t.extMem, router := t.router }) ∧
    (∀ (c : Nat) (l : Line) (errors : StageErrors), c < s.variant.contexts → (s.ctx c).ring.find? (fun l => !l.tapped && !l.waits) = some l →
      Completes (.rawTapCopy c errors) s fun t => ∀ y ∈ (t.ctx c).ring, y.frame = l.frame → y.y = l.y → y.tapped = true) ∧
    (∀ c : Nat, c < s.variant.contexts → (s.ctx c).state = .inFrame → (s.ctx c).bind.timeoutUs ≠ 0 → (s.ctx c).lastLine + (s.ctx c).bind.timeoutUs * cyclesPerUs < s.now →
      Completes (.frameTimeout c) s fun t => (t.ctx c).state ≠ .inFrame) ∧
    (∀ (c : Nat) (readout : Bool), c < s.variant.contexts → (s.ctx c).state ≠ .unbound →
      (if readout then cyclesPerMs ≤ (s.ctx c).readout s.now else (s.ctx c).secFrom + unitsPerS ≤ s.dt) →
      let isOver := if readout then 105 * (s.ctx c).bind.readout * (s.ctx c).readout s.now < 100 * (s.ctx c).win1ms * cyclesPerS
        else 105 * ((s.ctx c).bind.lineRate : Int) * (s.dt - (s.ctx c).secFrom) < 100 * ((s.ctx c).win1s : Int) * (unitsPerS : Int)
      Completes (.rateWindowCheck c readout) s fun t => (if readout then (t.ctx c).win1ms = 0 ∧ (t.ctx c).msRead = 0 ∧ (t.ctx c).msFrom = none ∧ (t.ctx c).win1s = (s.ctx c).win1s
          else (t.ctx c).win1s = 0 ∧ (t.ctx c).secFrom = s.dt ∧ (t.ctx c).win1ms = (s.ctx c).win1ms) ∧
        (∀ k, k ≠ c → t.ctx k = s.ctx k) ∧ t = { s with ctxs := t.ctxs, router := t.router } ∧
        (isOver → (t.ctx c).rateHigh = true ∧ ((s.ctx c).rateHigh = false → Raised s t (evCtx c) 2 0) ∧ ((s.ctx c).rateHigh = true → t.router = s.router)) ∧
        (¬ isOver → t.router = s.router ∧ ((s.ctx c).rateHigh = false → (t.ctx c).rateHigh = false))) ∧
    (∀ c : Nat, c < s.variant.contexts → (s.ctx c).state ≠ .unbound → (s.ctx c).loop.aeEn = false → (s.ctx c).loop.awbEn = true → s.loopPeriod c ≤ (s.ctx c).loopCount → s.ledger.pstate = .run →
      s.phokelStops = false → s.mail.shed ≠ 3 →
      Completes (.aeAwbLoop { context := c, read := .good }) s fun t => (t.ctx c).loopCount = (s.ctx c).loopCount - s.loopPeriod c ∧ (t.ctx c).inForce = (s.ctx c).inForce ∧
        (∀ i, i ≠ 4 → i ≠ 5 → paramGet (t.ctx c).shadow i = paramGet (s.ctx c).shadow i) ∧ (∀ k, k ≠ c → t.ctx k = s.ctx k) ∧ t = { s with ctxs := t.ctxs }) ∧
    (∀ (u c : Nat) (rest : List RoomStep), s.service.undoAt = some u → s.service.steps = .reduce c :: rest → u ≤ s.now →
      Completes .reductionUndo s fun t => (t.ctx c).reductionPending = some ((s.ctx c).plannedReduction - 1, 0) ∧ (∀ k, k ≠ c → t.ctx k = s.ctx k) ∧ t.service.steps = rest ∧
        (rest ≠ [] → t.service.undoAt = some (s.now + 100 * cyclesPerMs)) ∧ t = { s with ctxs := t.ctxs, service := t.service })

/-- Where stage 5 is enabled, the sample in column x of row y becomes its product with WB[p] in u4.16, p the position in the 2 by 2 cell, rounded to the nearest with halves up and limited to 20 bits; where stage 8 is enabled, each component Out_i becomes the sum over j of C_ij In_j plus O_i, coefficients s3.16 and offsets signed, rounded and limited to 20 bits. The image keeps its shape. A disabled stage changes nothing. (06_facet_pipeline.md R182, R184) -/
def Obligations.PixelStagesCompute : Prop :=
  (∀ (p : ParamSet) (im : Img) (x y : Nat), y < im.length → x < (im.getD y []).length →
      (stageEn p 5 = false → (stage5 p im).1 = im) ∧
      (stageEn p 5 = true → (stage5 p im).1.length = im.length ∧ ((stage5 p im).1.getD y []).length = (im.getD y []).length ∧
        ((stage5 p im).1.getD y []).getD x 0 = min 1048575 (((im.getD y []).getD x 0 * paramPair p 4 (y % 2 * 2 + x % 2) + 32768) / 65536))) ∧
    (∀ (p : ParamSet) (im : PxImg) (x y : Nat), y < im.length → x < (im.getD y []).length →
      (stageEn p 8 = false → (stage8 p im).1 = im) ∧
      (stageEn p 8 = true → (stage8 p im).1.length = im.length ∧ ((stage8 p im).1.getD y []).length = (im.getD y []).length ∧
        let q := (im.getD y []).getD x Px.zero
        let coef := fun i j => signed 20 (paramPair p 11 (3 * i + j))
        let out := fun i => max 0 (min 1048575 ((coef i 0 * q.r + coef i 1 * q.g + coef i 2 * q.b + signed 20 (paramPair p 16 i) * 65536 + 32768).fdiv 65536))
        let o := ((stage8 p im).1.getD y []).getD x Px.zero
        (o.r : Int) = out 0 ∧ (o.g : Int) = out 1 ∧ (o.b : Int) = out 2))

/-- For outputs 0 to 2 of a bound context not in raw bypass. OUT_CFG with a record that R207 allows leaves it to take force at the next frame start, the record in force unchanged; where the host, the engines or external memory could not carry it or a canvas that follows it, the answer is NO_RESOURCE and nothing changes. OUT_COEF_LOAD loads 512 coefficients of one direction once Engine 28 can read them. OUT_HOST_RING opens a channel for an output without one and answers its place and event. CHECK_ASSIGN, in modes 1 and 2, of an output that no other unit watches waits for its frame start; removing an idle unit takes effect at once. The choices of the model that it rests on are those of the assumption log, entries 14, 15, 111, 173. (07_outputs_and_accord.md R206, R207, R211, R234, R236; 11_host_link_and_dma.md R329; 12_mailbox_and_commands.md R378, R385) -/
def Obligations.OutputsAreConfigured : Prop :=
  ∀ (s : State) (m : Msg) (c o : Nat), c < s.variant.contexts → o < 3 → (s.ctx c).state ≠ .unbound → (s.ctx c).bind.bypass = false →
    (∀ (w0 : Word) (w : List Word), s.admits 0x400 permitR m = true → m.payload = w0 :: w → w.length = 8 → fld w0 39 32 = c → fld w0 31 30 = o → fld w0 29 0 = 0 → outReservedOk w = true →
      let r := outRec (s.ctx c).bind w
      let later := s.modCtx c fun x => x.modOut o fun y => { y with pending := some (Due.accept s.now y.pending w) }
      s.outRecOk c o r = true → (r.host = true → ((s.ctx c).out o).ring ≠ none) →
      let fits := (r.enable = false ∨ (later.memOk = true ∧ (r.host = true → later.hostSumOk = true ∧ later.enginesOk = true))) ∧ s.overloads later = false
      (fits → Completes (.outCfg m) s (Answered 0x400 m .ok [] fun u => (u.ctx c).out o = { (s.ctx c).out o with pending := some (Due.accept s.now ((s.ctx c).out o).pending w) } ∧ (∀ k, k ≠ o → (u.ctx c).out k = (s.ctx c).out k) ∧
        u.ctx c = { s.ctx c with outs := (u.ctx c).outs } ∧ (∀ d, d ≠ c → u.ctx d = s.ctx d) ∧ u = { s with ctxs := u.ctxs })) ∧
      (¬ fits → exec (.outCfg m) s = .next (mailDone 0x400 m .noResource [] s))) ∧
    (∀ (w lo hi : Word) (host : List Byte) (l : List Int), s.admits 0x401 permitR0 m = true → s.hasRoom m = true → s.loadsOpen = true → m.payload = [w, lo, hi] → fld w 39 32 = c → fld w 31 30 = o → fld w 28 0 = 0 → fld hi 39 24 = 0 → coefTable host = some l → 1024 ≤ host.length →
      Completes (.outCoefLoad m host) s (Answered 0x401 m .ok [] fun u => (u.ctx c).out o = (if bit w 29 then { (s.ctx c).out o with coefV := l } else { (s.ctx c).out o with coefH := l }) ∧ l.length = 512 ∧
        (∀ k, k ≠ o → (u.ctx c).out k = (s.ctx c).out k) ∧ (∀ d, d ≠ c → u.ctx d = s.ctx d) ∧ u = { s with ctxs := u.ctxs })) ∧
    (∀ (w lo hi tlo thi : Word) (e ch : Nat), s.admits 0x402 permitR0 m = true → m.payload = [w, lo, hi, tlo, thi] → fld w 39 32 = c → fld w 31 30 = o → 2 ≤ fld w 29 26 → fld w 23 0 = 0 → fld lo 4 0 = 0 →
      fld hi 39 24 = 0 → fld thi 39 24 = 0 → ((s.ctx c).out o).ring = none → s.place 0 = some (e, ch) →
      Completes (.outHostRing m) s (Answered 0x402 m .ok [mkWord [(39, 35, e), (34, 30, ch), (29, 18, evCompletion e ch)]] fun u => ((u.ctx c).out o).ring = some (e, ch) ∧ (u.chan e ch).enable = true ∧
        (u.chan e ch).size = fld w 29 26 ∧ (u.chan e ch).prio = fld w 25 24 ∧ (u.chan e ch).output = true ∧ (u.chan e ch).context = c ∧ (u.chan e ch).out = o ∧ (u.chan e ch).ringLo = lo ∧ (u.chan e ch).ringHi = hi ∧
        (u.chan e ch).tagLo = tlo ∧ (u.chan e ch).tagHi = thi ∧ (∀ d, d ≠ c → u.ctx d = s.ctx d))) ∧
    (∀ (w : Word) (k : Nat), s.admits 0x407 permitR m = true → m.payload = [w] → fld w 39 35 = k → fld w 31 24 = c → fld w 23 22 = o → fld w 9 0 = 0 →
      (fld w 34 33 ≠ 0 → fld w 34 33 ≠ 3 → fld w 17 10 ≠ 0 → s.watched k c o = false →
        Completes (.checkAssign m) s (Answered 0x407 m .ok [] fun u => (∃ v, u.check k = { s.check k with pending := some (Due.accept s.now (s.check k).pending v) } ∧ fld v 39 38 = fld w 34 33 ∧ bit v 37 = bit w 32 ∧ fld v 36 29 = c ∧ fld v 28 27 = o ∧
          fld v 26 23 = fld w 21 18 ∧ fld v 22 15 = fld w 17 10) ∧ (∀ j, j ≠ k → u.check j = s.check j) ∧ u = { s with checks := u.checks })) ∧
      (fld w 34 33 = 0 → fld (s.check k).cfg 39 38 = 0 →
        Completes (.checkAssign m) s (Answered 0x407 m .ok [] fun u => fld (u.check k).cfg 39 38 = 0 ∧ (u.check k).pending = none ∧ (∀ j, j ≠ k → u.check j = s.check j) ∧ u = { s with checks := u.checks })))

/-- ACCORD_CFG and ACCORD_SOURCE with legal records within the loads of R230 and a canvas no faster than R224 allows, or disabled ones, leave them for the next canvas frame start. ACCORD_MESH_LOAD loads a slot that the source does not name; ACCORD_OVERLAY leaves both buffers. CANVAS_FRAME_START with no start due changes nothing; a due start of a draining Accord drains it; one of a running Accord with an enabled canvas counts one frame, numbers the next, and remembers its start. ACCORD_LATE counts a composition past half its period once. No other Accord changes by a command. The choices of the model that it rests on are those of the assumption log, entry 173. (07_outputs_and_accord.md R224, R225, R227, R228, R229, R230; 12_mailbox_and_commands.md R385) -/
def Obligations.AccordsComposeOnTime : Prop :=
  ∀ (s : State) (m : Msg) (a : Nat), a < s.variant.accords →
    (∀ (w0 : Word) (w : List Word), s.admits 0x403 permitR m = true → m.payload = w0 :: w → w.length = 5 → fld w0 39 38 = a → fld w0 37 0 = 0 → canvasReservedOk w = true → canvasOk w = true →
      let later := s.modAccord a fun x => { x with pending := some (Due.accept s.now x.pending w) }
      later.canvasTooFast a = false →
      (bit (pw w 0) 39 = true → later.accordsOk = true ∧ (bit (pw w 0) 23 = true → (s.accord a).ring ≠ none ∧ later.hostSumOk = true ∧ later.enginesOk = true)) →
      Completes (.accordCfg m) s (Answered 0x403 m .ok [] fun u => (u.accord a).pending = some (Due.accept s.now (s.accord a).pending w) ∧ (u.accord a).canvas = (s.accord a).canvas ∧ (u.accord a).state = (s.accord a).state ∧
        (∀ b, b ≠ a → u.accord b = s.accord b) ∧ u = { s with accords := u.accords })) ∧
    (∀ (w0 : Word) (w : List Word) (k : Nat), s.admits 0x404 permitR m = true → m.payload = w0 :: w → w.length = 3 → fld w0 39 38 = a → fld w0 37 34 = k → fld w0 33 0 = 0 → fld (pw w 0) 9 0 = 0 →
      fld (pw w 1) 14 0 = 0 → fld (pw w 2) 14 0 = 0 → s.sourceOk w = true →
      let later := s.modAccord a fun x => x.setSource k { x.source k with pending := some (Due.accept s.now (x.source k).pending w) }
      later.canvasTooFast a = false → (bit (pw w 0) 39 = true → later.accordsOk = true) → s.overloads later = false →
      Completes (.accordSource m) s (Answered 0x404 m .ok [] fun u => (u.accord a).source k = { (s.accord a).source k with pending := some (Due.accept s.now ((s.accord a).source k).pending w) } ∧
        (∀ j, j ≠ k → (u.accord a).source j = (s.accord a).source j) ∧ (∀ b, b ≠ a → u.accord b = s.accord b) ∧ u = { s with accords := u.accords })) ∧
    (∀ (w lo hi : Word) (host : List Byte) (k : Nat), s.admits 0x405 permitR0 m = true → s.hasRoom m = true → s.loadsOpen = true → m.payload = [w, lo, hi] → fld w 39 38 = a → fld w 37 34 = k → fld w 32 0 = 0 → fld hi 39 24 = 0 →
      namesMesh ((s.accord a).source k).cfg (bit w 33) = false → ((s.accord a).source k).pending = none → 8 * 1089 ≤ host.length →
      Completes (.accordMeshLoad m host) s (Answered 0x405 m .ok [] fun u => (if bit w 33 then ((u.accord a).source k).meshB else ((u.accord a).source k).meshA) = some (wordsOfHost 1089 host) ∧
        ((u.accord a).source k).cfg = ((s.accord a).source k).cfg ∧ (∀ b, b ≠ a → u.accord b = s.accord b) ∧ u = { s with accords := u.accords })) ∧
    (∀ w lo hi lo1 hi1 : Word, s.admits 0x406 permitR0 m = true → m.payload = [w, lo, hi, lo1, hi1] → fld w 39 38 = a → fld w 36 0 = 0 → fld hi 39 24 = 0 → fld hi1 39 24 = 0 →
      Completes (.accordOverlay m) s (Answered 0x406 m .ok [] fun u => u.accord a = { s.accord a with overlayPending := some (Due.accept s.now (s.accord a).overlayPending (hostAddr lo hi, hostAddr lo1 hi1, fld w 37 37)) } ∧
        (∀ b, b ≠ a → u.accord b = s.accord b) ∧ u = { s with accords := u.accords })) ∧
    (∀ (overlay : List (Option (List (BitVec 32)))) (errors : ReadErrors),
      (s.canvasDue a = none → Completes (.canvasFrameStart a overlay errors) s fun t => t = s) ∧
      (∀ (b : Int) (silent : Bool), s.canvasDue a = some (b, silent) →
        ((s.accord a).state = .draining → Completes (.canvasFrameStart a overlay errors) s fun t => (t.accord a).state = .drained ∧ (t.accord a).frameNo = (s.accord a).frameNo) ∧
        ((s.accord a).state = .run → (s.accord a).pending = none → bit (pw (s.accord a).canvas 0) 39 = true → silent = false →
          Completes (.canvasFrameStart a overlay errors) s fun t => (t.accord a).state = .run ∧ (t.accord a).frameNo = (s.accord a).frameNo + 1 ∧ (t.accord a).lastStart = b ∧
            fld (t.accord a).counts 39 24 = min 0xFFFF (fld (s.accord a).counts 39 24 + 1)))) ∧
    ((s.accord a).state = .run → (s.accord a).frameNo ≠ 0 → fld (pw (s.accord a).canvas 0) 30 29 = 0 →
      ((s.accord a).late = false → (s.accord a).lastStart + ((canvasRec (s.accord a).canvas).period : Int) / 2 ≤ s.local16 →
        Completes (.accordLate a) s fun t => fld (t.accord a).counts 23 16 = min 0xFF (fld (s.accord a).counts 23 16 + 1) ∧ (t.accord a).late = true ∧
          (∀ b, b ≠ a → t.accord b = s.accord b) ∧ t = { s with accords := t.accords }) ∧
      ((s.accord a).late = true → Completes (.accordLate a) s fun t => t = s))

/-- STREAM_CFG that disables a stream, and one with a legal enabled record whose source feeds the backbone, within R257 and R32, leaves its record for a frame start. BB_PORT_CFG sets the nine words of its port alone, the link staying up where SPEED and FEC stay, credits brought up to date, and a frame in transmission whose class it closes counted. BB_GCL_LOAD writes entries of a slot not in force. BB_GCL_SET within R246 and R257 waits for its config change time, more than 100 µs ahead unless the base time is later; at that time GCL_CONFIG_CHANGE puts the list in force and raises its event. GCL_ENTRY_ADVANCE follows Device Time. BB_SHAPER sets the slope of one class. The choices of the model that it rests on are those of the assumption log, entries 15, 18, 19, 20, 21. (08_backbone.md R240, R245, R246, R247, R249, R250, R257; 12_mailbox_and_commands.md R378, R385) -/
def Obligations.StreamsAndGateListsAreSet : Prop :=
  ∀ (s : State) (m : Msg),
    (∀ (w0 : Word) (w : List Word) (k : Nat), s.admits 0x408 permitR m = true → m.payload = w0 :: w → w.length = 10 → fld w0 39 34 = k → fld w0 33 0 = 0 → streamFieldsOk s w = true →
      ((streamRec w).enable = false → Completes (.streamCfg m) s (Answered 0x408 m .ok [] fun u => u.stream k = { s.stream k with pending := some (Due.accept s.now (s.stream k).pending w) } ∧
        (∀ j, j ≠ k → u.stream j = s.stream j) ∧ u = { s with bb := { s.bb with streams := u.bb.streams } })) ∧
      ((streamRec w).enable = true → s.streamSourceOk (streamRec w) = true →
        let later := s.setStream k { s.stream k with pending := some (Due.accept s.now (s.stream k).pending w) }
        let fits := later.sourceStreams (streamRec w).canvas (streamRec w).src ≤ 4 ∧ later.portFits (streamRec w).port = true ∧ later.memOk = true
        (fits → Completes (.streamCfg m) s (Answered 0x408 m .ok [] fun u => (u.stream k).pending = some (Due.accept s.now (s.stream k).pending w) ∧ (u.stream k).cfg = (s.stream k).cfg ∧ (∀ j, j ≠ k → u.stream j = s.stream j) ∧
          u = { s with bb := { s.bb with streams := u.bb.streams }, freeCount := u.freeCount })) ∧
        (¬ fits → exec (.streamCfg m) s = .next (mailDone 0x408 m .noResource [] s)))) ∧
    (∀ (w0 : Word) (p : Nat), s.admits 0x409 permitRL m = true → m.payload.headD 0 = w0 → bbCfgOk s m = true → fld w0 39 37 = p → ((s.bbp p).link = false ∨ fld (pw (s.bbp p).cfg 0) 36 34 = fld w0 36 34) →
      Completes (.bbPortCfg m) s (Answered 0x409 m .ok [] fun u =>
        u.bbp p = { s.bbp p with cfg := m.payload, credits := (u.bbp p).credits, creditAt := s.dtNs, counts := (u.bbp p).counts, txOver := (u.bbp p).txOver } ∧
        ((s.bbp p).txEnd ≤ s.dtNs → (u.bbp p).counts = (s.bbp p).counts ∧ u.router = s.router) ∧
        (∀ q, q ≠ p → u.bbp q = s.bbp q) ∧ u = { s with bb := { s.bb with bbs := u.bb.bbs }, router := u.router })) ∧
    (∀ (w0 : Word) (es : List Word) (p slot first : Nat), s.admits 0x40A permitR m = true → m.payload = w0 :: es → es ≠ [] → es.length ≤ 254 → fld w0 39 38 = p → p < s.variant.backbone → fld w0 37 37 = slot →
      fld w0 36 27 = first → fld w0 26 0 = 0 → first + es.length ≤ 1024 → (∀ e ∈ es, 64 ≤ fld e 31 0) → ((s.bbp p).oper.enable = true → (s.bbp p).oper.slot ≠ slot) →
      Completes (.bbGclLoad m) s (Answered 0x40A m .ok [] fun u => (∀ i, gclEntry ((u.bbp p).gclSlot slot) i = if first ≤ i ∧ i < first + es.length then pw es (i - first) else gclEntry ((s.bbp p).gclSlot slot) i) ∧
        (u.bbp p).gclSlot (1 - slot) = (s.bbp p).gclSlot (1 - slot) ∧ (u.bbp p).oper = (s.bbp p).oper ∧ (∀ q, q ≠ p → u.bbp q = s.bbp q) ∧ u = { s with bb := { s.bb with bbs := u.bb.bbs } })) ∧
    (∀ (w0 w1 w2 w3 : Word) (p base : Nat), s.admits 0x40B permitR m = true → s.hasRoom m = true → m.payload = [w0, w1, w2, w3] → fld w0 39 38 = p → p < s.variant.backbone → fld w0 24 0 = 0 → 1 ≤ fld w0 35 25 →
      fld w0 35 25 ≤ 1024 → fld w1 9 0 = 0 → 1000 ≤ fld w1 39 10 → fld w1 39 10 ≤ 1000000000 → ptpNs w2 w3 = some base → (s.bbp p).change = none →
      let o : GclOper := { slot := fld w0 37 37, enable := bit w0 36, listLen := fld w0 35 25, cycleTime := fld w1 39 10, baseTime := base }
      s.guardBroken p o = false → (s.modBb p fun b => { b with change := some (o, changeTime s.dtNs base o.cycleTime) }).portFits p = true →
      Completes (.bbGclSet m) s (Awaits s 0x40B m (.gclSet p) fun u => ∃ t, u.bbp p = { s.bbp p with change := some (o, t) } ∧ s.dtNs + 100000 < t ∧ base ≤ t ∧ (t - base) % o.cycleTime = 0 ∧
        (∀ q, q ≠ p → u.bbp q = s.bbp q) ∧ u = { s with bb := { s.bb with bbs := u.bb.bbs } })) ∧
    (∀ (w : Word) (p tc : Nat), s.admits 0x40C permitR m = true → m.payload = [w] → fld w 39 38 = p → p < s.variant.backbone → fld w 37 35 = tc → fld w 9 0 = 0 → fld w 34 10 ≤ bbRate p (s.bbp p) * 1000 →
      let slopes := if fld w 34 10 = 0 then (s.bbp p).slopes.filter (fun x => x.1 != tc) else bankPut tc (fld w 34 10) (s.bbp p).slopes
      (s.modBb p fun b => { b with slopes := slopes }).portFits p = true →
      Completes (.bbShaper m) s (Answered 0x40C m .ok [] fun u => (u.bbp p).slopes = slopes ∧ (u.bbp p).packets = (s.bbp p).packets ∧ (∀ q, q ≠ p → u.bbp q = s.bbp q) ∧
        u = { s with bb := { s.bb with bbs := u.bb.bbs } })) ∧
    (∀ p : Nat, p < s.variant.backbone →
      ((s.bbp p).oper.enable = true → (s.bbp p).entryEnd ≤ s.dtNs → Completes (.gclEntryAdvance p) s fun t => t.bbp p = { s.bbp p with index := (t.bbp p).index, entryEnd := (t.bbp p).entryEnd } ∧
        (t.bbp p).index = (gclAt (s.bbp p).runs 0 0 ((s.bbp p).oper.pos s.dtNs)).1 ∧ (∀ q, q ≠ p → t.bbp q = s.bbp q) ∧ t = { s with bb := { s.bb with bbs := t.bb.bbs } }) ∧
      (∀ (o : GclOper) (b : Nat), (s.bbp p).change = some (o, b) → b ≤ s.dtNs →
        Completes (.gclConfigChange p) s fun t => (t.bbp p).oper = o ∧ (t.bbp p).change = none ∧ ∃ e ∈ t.router.queue, e.id = evBb p ∧ e.code = 1))

/-- A link that goes down loses its staged frames, closes the sessions of its port and raises its event; one that comes up, in RUN once Phokel runs, raises its own. With the transmitter free, a queued frame of the port's own that R244 lets start leaves whole and occupies the wire for its length; a stream packet, of a frame begun or not yet AGE_MAX old, advances the RTP sequence number of its stream, and poisoned data drop the frame in its place. A staged frame not begun AGE_MAX after its first row is dropped and counted. A frame shorter than 14 bytes or longer than 9212, or to no address of the port, is discarded and counted; one that the port keeps counts toward 20 000 a second and queues its answers. The peer delay request is queued once a second. The choices of the model that it rests on are those of the assumption log, entries 17, 22, 32. (08_backbone.md R240, R241, R242, R243, R244, R252, R254, R255, R256) -/
def Obligations.BackbonePortsSendAndKeep : Prop :=
  ∀ (s : State) (p : Nat), s.variant.hasBb p = true →
    ((s.bbp p).link = true → Completes (.bbLinkDown p) s fun t => (t.bbp p).link = false ∧ (t.bbp p).staged = [] ∧ (t.bbp p).packets = [] ∧ (∀ q, q ≠ p → t.bbp q = s.bbp q) ∧
      t.bb.sessions = s.bb.sessions.filter (fun x => x.bb != p) ∧ t.router.queue.getLast?.map (fun o => (o.id, o.code)) = some (evBb p, 3) ∧ t = { s with bb := t.bb, router := t.router }) ∧
    ((s.bbp p).link = false → s.rst.phokel = true → s.scanOpen = false → s.ledger.pstate = .run → (s.ledger.enteringLow = false ∨ p = 4) → Completes (.bbLinkUp p) s fun t => (t.bbp p).link = true ∧ (t.bbp p).cfg = (s.bbp p).cfg ∧ (∀ q, q ≠ p → t.bbp q = s.bbp q) ∧ Raised s t (evBb p) 4 0 ∧
      t = { s with bb := { s.bb with bbs := t.bb.bbs }, router := t.router }) ∧
    ((s.bbp p).link = true → (s.bbp p).busyUntil ≤ s.dtNs → ∀ k : TxPacket, (s.bringCredits p).nextPacket p = some k →
      (64 ≤ k.stream → ∀ data, Completes (.streamPacketSend p data) s fun t => (t.bbp p).sent = k.bytes :: (s.bbp p).sent ∧ (t.bbp p).busyUntil = s.dtNs + wireNs p (s.bbp p) k.wire ∧
        (t.bbp p).packets = eraseFirst (fun x => x == k) (s.bbp p).packets ∧ (∀ q, q ≠ p → t.bbp q = s.bbp q) ∧ t = { s with bb := { s.bb with bbs := t.bb.bbs, peer := t.bb.peer } }) ∧
      (∀ f : StagedFrame, k.stream < 64 → (s.bbp p).staged.find? (fun f => f.id == k.frame) = some f →
        (f.started = true ∨ s.now < f.since + (streamRec f.record).ageMax * cyclesPerUs) →
        Completes (.streamPacketSend p .good) s (fun t => (t.stream k.stream).rtpSeq = ((s.stream k.stream).rtpSeq + 1) % 2 ^ 32 ∧ (t.bbp p).busyUntil = s.dtNs + wireNs p (s.bbp p) k.wire ∧
          (t.bbp p).sent.tail = (s.bbp p).sent ∧ (∀ q, q ≠ p → t.bbp q = s.bbp q) ∧ t.router = s.router) ∧
        Completes (.streamPacketSend p .poisoned) s (fun t => (t.bbp p).sent = (s.bbp p).sent ∧ (∀ g ∈ (t.bbp p).staged, g.id ≠ f.id) ∧
          fld (t.stream k.stream).counts2 39 28 = min 0xFFF (fld (s.stream k.stream).counts2 39 28 + 1) ∧ t.router.queue.getLast?.map (fun o => (o.id, o.code)) = some (evStream k.stream, 1)))) ∧
    (∀ (k : Nat) (f : StagedFrame), k < 64 → p < 4 → (∀ q, q < p → (s.bbp q).staged = []) →
      (s.bbp p).staged.find? (fun f => f.stream == k && !f.started && decide (f.since + (streamRec f.record).ageMax * cyclesPerUs ≤ s.now)) = some f →
      Completes (.streamAgeOut k) s fun t => (t.bbp p).staged = (s.bbp p).staged.filter (fun g => g.id != f.id) ∧ fld (t.stream k).counts 11 0 = min 0xFFF (fld (s.stream k).counts 11 0 + 1) ∧
        (∀ j, j ≠ k → t.stream j = s.stream j) ∧ Raised s t (evStream k) 1 0 ∧ t = { s with bb := t.bb, router := t.router }) ∧
    ((s.bbp p).link = true → ∀ (frame : List Byte) (fecBad : Nat), s.now < (s.bbp p).keptSince + cyclesPerS →
      (frame.length < 14 ∨ 9212 < frame.length ∨ ¬ (beAt frame 0 6 = (s.bbp p).mac ∨ beAt frame 0 6 = 0xFFFFFFFFFFFF ∨ beAt frame 0 6 = 0x3333FF000000 + (s.bbp p).ipv6 % 2 ^ 24 ∨ beAt frame 0 6 = 0x0180C200000E) →
        Completes (.bbFrameRx p frame fecBad) s fun t => fld (t.bbp p).counts 39 24 = min 0xFFFF (fld (s.bbp p).counts 39 24 + 1) ∧ (t.bbp p).kept = (s.bbp p).kept ∧ (t.bbp p).packets = (s.bbp p).packets ∧
          (∀ q, q ≠ p → t.bbp q = s.bbp q) ∧ t = { s with bb := { s.bb with bbs := t.bb.bbs } }) ∧
      (∀ k : RxKept, s.keepFrame p frame = some k → (s.bbp p).kept < 20000 →
        Completes (.bbFrameRx p frame fecBad) s fun t => (t.bbp p).kept = (s.bbp p).kept + 1 ∧ (t.bbp p).packets.length = (s.bbp p).packets.length + k.answers.length ∧
          (t.bbp p).packets.map (fun x => x.bytes) = (s.bbp p).packets.map (fun x => x.bytes) ++ k.answers.map (fun x => x.2) ∧ (∀ q, q ≠ p → t.bbp q = s.bbp q) ∧ t = { s with bb := { s.bb with bbs := t.bb.bbs, peer := t.bb.peer } })) ∧
    (s.time.source = .as → s.time.asPort = p → (s.bbp p).link = true → s.bb.pdelayAt + cyclesPerS ≤ s.now →
      Completes .pdelayReqSend s fun t => t.bb.pdelayAt = s.now ∧ t.bb.pdelaySeq = s.bb.pdelaySeq + 1 ∧ (t.bbp p).packets.length = (s.bbp p).packets.length + 1 ∧ (∀ q, q ≠ p → t.bbp q = s.bbp q) ∧
        t = { s with bb := t.bb })

/-- RING_FORMAT of ready drives with the ring OFF or stopped writes new labels and waits, the ring empty. RING_START submits the Reads of every drive that stands ready and waits for them; a formatted ring then runs on the members present at the next span. RING_STOP closes the open span with reason STOP and waits for its signature; with no drive left it answers at once. RING_CFG and RING_PLAN within R283 take what they carry, and answer NO_RESOURCE beyond it. RING_FREEZE takes the lowest free window around its instant and refuses the seventeenth; RING_WINDOW reports a window and RING_RELEASE frees it. RING_READ starts one retrieval, with the Reads of its first item where an image of it lies on a member, and RR 0 ends it. The choices of the model that it rests on are those of the assumption log, entries 1, 112, 113, 164, 165, 166. (09_sillage_ring.md R268, R275, R278, R279, R283, R284, R285, R286, R291, R292; 12_mailbox_and_commands.md R378, R386) -/
def Obligations.RingIsFormedStartedStopped : Prop :=
  ∀ (s : State) (m : Msg),
    (∀ (w : Word), s.admits 0x500 permitR0 m = true → s.hasRoom m = true → m.payload = [0x464F524D00, w] → fld w 35 0 = 0 → fld w 39 36 ≠ 0 → fld w 39 36 < 2 ^ s.variant.drives →
      (s.ring.state = .off ∨ s.ring.state = .stopped) → s.sec.keysUp = true → (∀ d ∈ bitsOf 4 (fld w 39 36), (s.ring.drive d).ready = true) →
      Completes (.ringFormat m) s (Awaits s 0x500 m .ringFormat fun u => u.ring.formatted = true ∧ u.ring.members = bitsOf 4 (fld w 39 36) ∧ u.ring.state = .off ∧ u.ring.nextSsn = 0 ∧ u.ring.nextSpan = 0 ∧
        u.ring.segments = [] ∧ u.ring.windows = [] ∧ u.ring.spanRecs = [] ∧ u.ring.chain = chainStart u.ring.ringId ∧ u = { s with ring := u.ring, freeCount := u.freeCount })) ∧
    (∀ found : RingFound, s.admits 0x501 permitR m = true → s.hasRoom m = true → m.payload = [] → (s.ring.state = .off ∨ s.ring.state = .stopped) → s.sec.keysUp = true →
      s.readyDrives ≠ [] → s.ring.closedSpans = [] →
      Completes (.ringStart m found) s (Awaits s 0x501 m .ringStart fun u => u.ring.state = .recovering ∧ u.ring.starting = some { found := found, was := s.ring.state } ∧ u.ring.members = s.ring.members ∧ u.ring.nextSsn = s.ring.nextSsn ∧
        (∀ d ∈ s.readyDrives, ∃ k ∈ u.ring.nvme ++ u.ring.nvmeWait, k.drive = d ∧ k.for_ = .start ∧ k.op = .read ∧ k.lba = 0) ∧ u = { s with ring := u.ring })) ∧
    (∀ x : Starting, s.ring.formatted = true → s.presentMembers x.found s.ring.ringId ≠ [] → s.ring.closedSpans = [] →
      (s.ringStarted x).ring.state = .run ∧ (s.ringStarted x).ring.members = s.presentMembers x.found s.ring.ringId ∧ (s.ringStarted x).ring.nextSsn = s.ring.nextSsn ∧ (s.ringStarted x).ring.chain = s.ring.chain ∧
        ∃ sp, (s.ringStarted x).ring.span = some sp ∧ sp.no = s.ring.nextSpan ∧ sp.firstSsn = s.ring.nextSsn) ∧
    (s.admits 0x502 permitR m = true → s.hasRoom m = true → m.payload = [] →
      (s.ring.state = .run → s.ring.span ≠ none → Completes (.ringStop m) s (Awaits s 0x502 m .ringStop fun u => u.ring.state = .stopped ∧ u.ring.span = none ∧
        ((∀ c ∈ s.ring.closedSpans, c.closedAt ≠ s.now) → s.ring.openRecs = [] → u.ring.closedSpans.getLast?.map (fun c => c.reason) = some 2))) ∧
      (s.ring.state = .noDrive → s.ring.span = none → Completes (.ringStop m) s (Answered 0x502 m .ok [BitVec.ofNat 40 (s.ring.nextSpan - 1)] fun u => u = { s with ring := { s.ring with state := .stopped } }))) ∧
    (∀ w : Word, s.admits 0x503 permitR m = true → m.payload = [w] → fld w 33 0 = 0 → 2 ≤ fld w 39 34 → fld w 39 34 ≤ 32 →
      let later : State := { s with ring := { s.ring with unsealedMax := fld w 39 34 * 2 ^ 26 } }
      (later.ringPlanOk = true → exec (.ringCfg m) s = .next (mailDone 0x503 m .ok [] later)) ∧ (later.ringPlanOk = false → exec (.ringCfg m) s = .next (mailDone 0x503 m .noResource [] s))) ∧
    (∀ (w0 w : Word) (c : Nat), s.admits 0x504 permitR m = true → m.payload = [w0, w] → fld w0 39 32 = c → fld w0 31 0 = 0 → c < s.variant.contexts → fld w 24 0 = 0 → (s.ctx c).state ≠ .unbound →
      s.planRefused c w = false →
      let d := Due.accept s.now (s.ring.planPending.lookup c) w
      let later : State := { s with ring := { s.ring with planPending := bankPut c d s.ring.planPending } }
      (later.ringPlanOk = true → exec (.ringPlan m) s = .next (mailDone 0x504 m .ok [] later) ∧ later.ring.planPending.lookup c = some d) ∧
      (later.ringPlanOk = false → exec (.ringPlan m) s = .next (mailDone 0x504 m .noResource [] s))) ∧
    (∀ w : Word, s.admits 0x505 permitRLB m = true → m.payload = [w, 0, 0] → bit w 13 = true → fld w 12 0 = 0 →
      (∀ x ∈ s.ring.windows, x.2.trigger ≠ 0xFF) →
      (∀ i, s.ring.freeWindow = some i → Completes (.ringFreeze m) s (Answered 0x505 m .ok [mkWord [(39, 36, i)]] fun u => ∃ x, u.ring.windows.lookup i = some x ∧ x.state = .pending ∧
        x.stop = s.dtNs + fld w 26 14 * 100000000 ∧ s.dtNs - fld w 39 27 * 100000000 ≤ x.start ∧ u.ring.labelDue = true ∧ (∀ j, j ≠ i → u.ring.windows.lookup j = s.ring.windows.lookup j))) ∧
      (s.ring.freeWindow = none → Completes (.ringFreeze m) s (Answered 0x505 m .noResource [] fun u => Raised s u evRing 4 0 ∧ u = { s with router := u.router }))) ∧
    (∀ (w : Word) (x : Window), m.payload = [w] → fld w 35 0 = 0 → s.ring.windows.lookup (fld w 39 36) = some x →
      (s.admits 0x508 permitRLB m = true → exec (.ringWindow m) s =
        .next (mailDone 0x508 m .ok ([mkWord [(39, 38, if x.state = .held then 2 else 1), (37, 30, x.trigger)]] ++ ptpWords x.start ++ ptpWords x.stop) s)) ∧
      (s.admits 0x506 permitRL m = true → (∀ e, x.ext = some e → e.1 ≠ s.now) → Completes (.ringRelease m) s (Answered 0x506 m .ok [] fun u => u.ring.windows.lookup (fld w 39 36) = none ∧
        (∀ j, j ≠ fld w 39 36 → u.ring.windows.lookup j = s.ring.windows.lookup j) ∧ u.ring.labelDue = true ∧ u = { s with ring := u.ring }))) ∧
    (∀ w first last d0 d1 v0 v1 : Word, s.admits 0x507 permitR0 m = true → m.payload = [w, first, last, d0, d1, v0, v1] → fld w 14 0 = 0 → fld d1 39 24 = 0 → fld v1 39 24 = 0 →
      (fld w 38 23 = 0 → Completes (.ringReadEnd m) s (Answered 0x507 m .ok [] fun u => u.ring.retrieval = none ∧ u.ring.segments = s.ring.segments)) ∧
      (fld w 38 23 ≠ 0 → 2 ≤ fld w 22 19 → 4 ≤ fld w 18 15 → first.toNat ≤ last.toNat → s.ring.formatted = true → last.toNat < (if bit w 39 then s.ring.nextSpan else s.ring.nextSsn) → s.ring.retrieval = none →
        let x : Retrieval := { bySpan := bit w 39, rate := fld w 38 23, next := first.toNat, last := last.toNat, dataAddr := hostAddr d0 d1, dataSize := fld w 22 19, verdictAddr := hostAddr v0 v1, verdictSize := fld w 18 15,
                               verdictWritten := 0, awaiting := none, reading := false, failed := false }
        ({ s with ring := { s.ring with retrieval := some x } } : State).ringPlanOk = true →
        Completes (.ringRead m) s (Answered 0x507 m .ok [] fun u => (∃ rd fl, u.ring = { s.ring with retrieval := some { x with reading := rd, failed := fl }, nvme := u.ring.nvme, nvmeWait := u.ring.nvmeWait, nextCid := u.ring.nextCid }) ∧
          (∀ d lba n, s.itemReady x = true → s.noImage x = none → s.ring.itemPlace x = some (d, lba, n) →
            u.ring = ({ s.ring with retrieval := some { x with reading := true } }).submitReads s.now d (.item x.next) lba n) ∧ (u.chan 30 0).enable = true ∧ (u.chan 30 0).size = fld w 22 19)))

/-- A drive detected outside LOW and not ready before is INIT and is sent Identify twice; with the last answer one that passes R263 and is not joining becomes SPARE and is asked for its queues, and any other stays INIT with DRIVE_REJECT. The completion of a body leaves the outstanding commands; that of a close block on a drive without a volatile cache, its segment chained, seals it and U falls by its bytes. A first failure of a Write, Write Zeroes or Flush counts and submits the command once more, a second loses the drive. A command outstanding for 2 s, a link down and a fatal status lose the drive: it is LOST, no member, its segments lost, DRIVE_LOST raised. An absent or lost drive stays as it is where no RING_START reads. The choices of the model that it rests on are those of the assumption log, entries 113, 166. (09_sillage_ring.md R263, R264, R265, R266, R282, R287, R288) -/
def Obligations.DrivesAreWatched : Prop :=
  ∀ (s : State) (d : Nat), d < s.variant.drives →
    (∀ info : DriveInfo, (s.ring.drive d).ready = false → s.ledger.pstate ≠ .low →
      Completes (.driveDetect d info) s fun t => (t.ring.drive d).info = some info ∧ (t.ring.drive d).state = .init ∧ (t.ring.drive d).slots = min 131071 (info.nsBytes / 2 ^ 26 - 1) ∧ (∀ e, e ≠ d → t.ring.drive e = s.ring.drive e) ∧
        (t.ring.nvme.filter fun c => c.drive == d).map (fun c => c.op) = [.admin 0x06, .admin 0x06] ∧ t = { s with ring := { s.ring with drives := t.ring.drives, nvme := t.ring.nvme, nvmeWait := t.ring.nvmeWait, nextCid := t.ring.nextCid } }) ∧
    (∀ (c : NvmeCmd) (info : DriveInfo), (s.ring.nvme.filter fun c => c.drive == d) = [c] → c.for_ = .identify → (∀ k ∈ s.ring.nvmeWait, k.drive ≠ d) → (s.ring.drive d).info = some info → (s.ring.drive d).state = .init →
      (s.ring.drive d).drained = false → s.ring.joining ≠ some d → Completes (.nvmeCompletion d c.cid true) s fun t => (∀ e, e ≠ d → t.ring.drive e = s.ring.drive e) ∧
        (driveOk info = true → (t.ring.drive d).state = .spare ∧ (t.ring.nvme.filter fun c => c.drive == d).map (fun c => c.op) = .admin 0x09 :: (List.replicate 8 [.admin 0x05, .admin 0x01]).flatten ∧ t.router = s.router) ∧
        (driveOk info = false → (t.ring.drive d).state = .init ∧ (∀ c ∈ t.ring.nvme, c.drive ≠ d) ∧ Raised s t (evDrive d) 1 0)) ∧
    (∀ (cid : Nat) (c : NvmeCmd), s.ring.nvme.find? (fun c => c.drive == d && c.cid == cid) = some c → (∀ k ∈ s.ring.nvmeWait, k.drive ≠ d) →
      (∀ ssn, c.for_ = .body ssn → (s.ring.drive d).drained = false → Completes (.nvmeCompletion d cid true) s fun t =>
        t = { s with ring := { s.ring with nvme := eraseFirst (fun (x : NvmeCmd) => x.drive == d && x.cid == cid) s.ring.nvme } }) ∧
      (∀ (ssn : Nat) (g : Segment), c.for_ = .close ssn → (s.ring.drive d).drained = false → s.ring.segments.find? (fun g => decide (g.ssn = ssn)) = some g → g.chain ≠ none → g.sealed = false →
        (s.ring.drive d).vwc = false → (s.ring.drive g.drive).vwc = false → Completes (.nvmeCompletion d cid true) s fun t => t.ring.u = s.ring.u - g.used ∧ (∀ h ∈ t.ring.segments, h.ssn = ssn → h.sealed = true) ∧ t = { s with ring := t.ring }) ∧
      (c.retried = false → (c.op = .write ∨ c.op = .flush ∨ c.op = .writeZeroes) → (s.ring.drive d).drained = false →
        ∀ q, ({ s.ring with nvme := eraseFirst (fun (x : NvmeCmd) => x.drive == d && x.cid == cid) s.ring.nvme } : Ring).freeQueue c = some q → Completes (.nvmeCompletion d cid false) s fun t => (t.ring.drive d).cmdErrors = satAdd 15 (s.ring.drive d).cmdErrors 1 ∧ (t.ring.drive d).state = (s.ring.drive d).state ∧
        t.ring.nvme.getLast? = some { c with queue := q, cid := s.ring.nextCid, at_ := s.now, retried := true } ∧ t.ring.nvme.length = s.ring.nvme.length ∧ t = { s with ring := t.ring })) ∧
    ((s.ring.drive d).state ≠ .absent → (s.ring.drive d).state ≠ .lost →
      let lost := fun (t : State) => (t.ring.drive d).state = .lost ∧ d ∉ t.ring.members ∧ (∀ c ∈ t.ring.nvme, c.drive ≠ d) ∧ (s.ring.starting = none → s.ring.members.contains d = true → ∀ l ∈ t.ring.live, l.drive = d → l.lost = true) ∧
        ∃ e ∈ t.router.queue, e.id = evDrive d ∧ e.code = 2
      (∀ (cid : Nat) (c : NvmeCmd), s.ring.nvme.find? (fun c => c.drive == d && c.cid == cid) = some c → c.retried = true → (c.op = .write ∨ c.op = .flush ∨ c.op = .writeZeroes) → Completes (.nvmeCompletion d cid false) s lost) ∧
      (∀ c ∈ s.ring.nvme, c.drive = d → c.at_ + 2 * cyclesPerS ≤ s.now → Completes (.nvmeTimeout d) s lost) ∧
      Completes (.driveLinkDown d) s lost ∧ Completes (.controllerFatalStatus d) s lost) ∧
    (s.ring.starting = none → (s.ring.drive d).state = .lost ∨ (s.ring.drive d).state = .absent → Completes (.driveLinkDown d) s (fun t => t = s) ∧ Completes (.controllerFatalStatus d) s (fun t => t = s))

/-- A full segment, not the span's last, closes and what is left of its body is written, unless a rehearsal holds segments open. The oldest closed segment's digest advances the chain, once its LOG piece has come, and its close block is written at the end of its slot. The oldest closed span, all its segments chained, is signed, but in RETIRED, over its head and recorded, SPANS counting one. A pending window whose end has passed, with no open segment that began before it, is HELD. A label due is written to every member. A retrieval waits for its Reads. Its next item, where it has no image, counts one more verdict, the item after it being next, and after the last item the retrieval ends. The choices of the model that it rests on are those of the assumption log, entry 164. (09_sillage_ring.md R268, R270, R274, R275, R276, R285, R292) -/
def Obligations.SegmentsAndSpansAreSealed : Prop :=
  ∀ s : State,
    (∀ g : Segment, s.ledger.holdsSegments = false → s.ring.segments.find? (fun g => g.full && !g.closed) = some g → g.index ≠ 255 →
      Completes .segmentClose s fun t => (∀ h ∈ t.ring.segments, h.ssn = g.ssn → h.closed = true ∧ h.cut = false) ∧ t.ring.segments.length = s.ring.segments.length ∧
        (∀ c ∈ t.ring.nvme ++ t.ring.nvmeWait, c ∈ s.ring.nvme ++ s.ring.nvmeWait ∨ (c.drive = g.drive ∧ c.for_ = .body g.ssn)) ∧ t.ring.span = s.ring.span ∧ t = { s with ring := t.ring, router := t.router }) ∧
    (s.ledger.holdsSegments = true → Completes .segmentClose s fun t => t = s) ∧
    (∀ g : Segment, s.ring.segments.find? (fun g => g.closed && g.chain.isNone) = some g →
      (g.awaitsLog = true → Completes .segmentDigestDone s fun t => t = s) ∧ (g.lost = false → g.awaitsLog = false →
      Completes .segmentDigestDone s fun t => t.ring.chain = chainNext s.ring.chain (segmentDigest s.ring.ringId g) g.ssn ∧
        (∀ h ∈ t.ring.segments, h.ssn = g.ssn → h.chain = some t.ring.chain ∧ h.digest = some (segmentDigest s.ring.ringId g)) ∧
        (∃ c ∈ t.ring.nvme ++ t.ring.nvmeWait, c.drive = g.drive ∧ c.for_ = .close g.ssn ∧ c.op = .write ∧ c.lba = 16384 * g.slot + 16383 ∧ c.data = closeHead g ++ segmentDigest s.ring.ringId g ++ t.ring.chain) ∧
        t = { s with ring := t.ring })) ∧
    (∀ (c : ClosedSpan) (rest : List ClosedSpan) (segs : List SpanSeg), s.ring.closedSpans = c :: rest → s.ring.spanSegs c = some segs → c.reason = 1 → s.sec.keysUp = true →
      Completes .spanSignDone s fun t => t.ring.closedSpans = rest ∧ fld t.ring.counts 11 0 = min 0xFFF (fld s.ring.counts 11 0 + 1) ∧ t.ring.nextSpan = s.ring.nextSpan ∧
        ∃ r, t.ring.spanRecs.getLast? = some r ∧ r.no = c.no ∧ r.firstSsn = c.firstSsn ∧ r.count = c.count ∧ r.dirSlot = c.dirSlot ∧
          r.image = spanHead s.ring.ringId { c with segs := segs } ++ ed448Sign (sealSeed s.ring.ringId) "gv-seal" (spanHead s.ring.ringId { c with segs := segs }) ++ zeros 910) ∧
    (∀ (i : Nat) (x : Window), i < 16 → s.ring.windows.lookup i = some x → x.state = .pending → x.stop < s.dtNs → (∀ g ∈ s.ring.segments, g.closed = false → ptp80 x.stop < g.openTime) →
      Completes (.windowHeld i) s fun t => t.ring.windows.lookup i = some { x with state := .held } ∧ (∀ j, j ≠ i → t.ring.windows.lookup j = s.ring.windows.lookup j) ∧ t.ring.labelDue = true ∧
        t.ring.labelHeld = (s.ring.labelHeld || decide (s.ledger.pstate = .low)) ∧
        t = { s with ring := { s.ring with windows := t.ring.windows, labelDue := true, labelHeld := t.ring.labelHeld } }) ∧
    (s.ring.labelDue = true → s.ring.formatted = true → s.ring.members ≠ [] → s.ring.labelHeld = false → s.ledger.pstate ≠ .low →
      Completes .labelWrite s fun t => t.ring.labelDue = false ∧ t.ring.labelSeq = s.ring.labelSeq + 1 ∧
        (∀ d ∈ s.ring.members, ∃ c ∈ t.ring.nvme ++ t.ring.nvmeWait, c.drive = d ∧ c.for_ = .label ∧ c.op = .write ∧ c.lba ≤ 1 ∧ c.blocks = 1) ∧ t = { s with ring := t.ring }) ∧
    (∀ (x : Retrieval) (v : Nat) (image : Option (List Byte)), s.ring.retrieval = some x → x.awaiting = none → x.verdictWritten < 2 ^ x.verdictSize → s.hostOpen = true → s.ledger.pstate = .run → s.itemReady x = true →
      s.noImage x = some v →
      Completes (.retrievalItem image) s fun t => (x.next ≠ x.last → ∃ rd fl, t.ring.retrieval = some { x with verdictWritten := x.verdictWritten + 1, next := x.next + 1, reading := rd, failed := fl }) ∧ (x.next = x.last → t.ring.retrieval = none) ∧
        t.ring.segments = s.ring.segments ∧ t.ring.spanRecs = s.ring.spanRecs) ∧
    (∀ (x : Retrieval) (image : Option (List Byte)), s.ring.retrieval = some x → x.reading = true → s.noImage x = none → s.ring.itemReads x.next = true → Completes (.retrievalItem image) s fun t => t = s)

/-- LEDGER_CFG within Table 10-3 sets the parameters it carries. A window of ten samples leaves, for the lowest of the last ten window means, the energy above V_FLOOR, that less the margin, the energy that U needs with P_SEAL and SEAL_RATE known, and the allowance, each limited to 40 bits. A configured ledger with E_USE below E_NEED is SHORT, raising LEDGER_SHORT once; SHORT ends once the need has been met for 1 ms. LEDGER_STATUS answers nine words and changes nothing. The choices of the model that it rests on are those of the assumption log, entries 48, 56. (10_energy_ledger.md R301, R303, R304, R305, R307, R308, R314; 12_mailbox_and_commands.md R378, R387) -/
def Obligations.LedgerComputesItsQuantities : Prop :=
  ∀ (s : State) (m : Msg),
    (s.admits 0x600 permitRLB m = true → m.payload.length = 5 → ledgerCfgOk m.w = true →
      Completes (.ledgerCfg m) s (Answered 0x600 m .ok [] fun u => u.ledger.capUf = fld (m.w 0) 39 20 ∧ u.ledger.etaPm = fld (m.w 0) 19 10 ∧ u.ledger.marginPct = fld (m.w 0) 9 3 ∧ u.ledger.vFloorMv = fld (m.w 1) 39 23 ∧
        u.ledger.senseScale = fld (m.w 1) 22 7 ∧ u.ledger.capTolPct = fld (m.w 1) 6 1 ∧ u.ledger.boardSealMw = fld (m.w 2) 39 20 ∧ u.ledger.boardRunMw = fld (m.w 2) 19 0 ∧ u.ledger.eShutUj = fld (m.w 3) 39 16 ∧
        u.ledger.pfFilter = fld (m.w 3) 15 8 ∧ u.ledger.holdExit = fld (m.w 4) 39 26 ∧ u.ledger.capMeasUf = s.ledger.capMeasUf ∧ u.ledger.sealRate = s.ledger.sealRate ∧ u.ledger.pstate = s.ledger.pstate)) ∧
    (s.admits 0x602 permitRLHB m = true → m.payload = [] → ∃ p, exec (.ledgerStatus m) s = .next (mailDone 0x602 m .ok p s) ∧ p.length = 9 ∧ (pw p 2).toNat = s.ledger.eAvail % 2 ^ 40 ∧
      (pw p 3).toNat = s.ledger.eNeed % 2 ^ 40 ∧ (pw p 4).toNat = s.ledger.allow % 2 ^ 40 ∧ fld (pw p 6) 39 20 = s.ledger.devSealMw % 2 ^ 20 ∧ fld (pw p 7) 39 20 = s.ledger.capMeasUf % 2 ^ 20 ∧ (pw p 8).toNat = s.ledger.eUse % 2 ^ 40) ∧
    (∀ (codes : List (BitVec 12)) (drawMw : Nat), codes.length = 10 →
      let l := s.ledger
      let v := minNat (((codes.map fun c => c.toNat).sum * l.senseScale :: l.means).take 10)
      let floor := l.vFloorMv * 10000
      let c := if l.capMeasUf ≠ 0 ∧ l.capMeasUf < l.capUf then l.capMeasUf else l.capUf
      let avail := if v ≤ floor then 0 else c * (v * v - floor * floor) / (2 * 10 ^ 14)
      let use := avail * (100 - l.marginPct) / 100
      let pseal := (l.devSealMw + l.boardSealMw) * 1000 / l.etaPm
      let rate := l.sealRate.getD (8000 * s.ring.members.length)
      Completes (.ledgerCompute codes drawMw) s fun t => t.ledger.eAvail = min (2 ^ 40 - 1) avail ∧ t.ledger.eUse = min (2 ^ 40 - 1) use ∧
        (rate ≠ 0 → t.ledger.eNeed = min (2 ^ 40 - 1) ((pseal * s.ring.u + (rate * 1000 - 1)) / (rate * 1000) + l.eShutUj)) ∧
        (l.capUf ≠ 0 → l.vFloorMv ≠ 0 → l.senseScale ≠ 0 → pseal ≠ 0 → t.ledger.allow = min (2 ^ 40 - 1) ((use - l.eShutUj) * rate * 1000 / pseal)) ∧
        (l.capUf = 0 → t.ledger.allow = 0) ∧ t.ledger.measMw = min 65535 drawMw ∧
        (l.capUf ≠ 0 ∧ t.ledger.eUse < t.ledger.eNeed → t.ledger.short = true ∧ (l.short = false → ∃ o ∈ t.router.queue, o.id = evPower ∧ o.code = 1)) ∧
        (¬ (l.capUf ≠ 0 ∧ t.ledger.eUse < t.ledger.eNeed) → t.ledger.short = l.short ∧ (l.short = true → l.clearSince = none → t.ledger.clearSince = some s.now))) ∧
    (∀ b : Nat, s.ledger.clearSince = some b → s.ledger.short = true → b + cyclesPerMs ≤ s.now →
      Completes .ledgerShortClear s fun t => t.ledger.short = false ∧ t.ledger.clearSince = none ∧ Raised s t evPower 1 0 ∧ t = { s with ledger := t.ledger, router := t.router })

/-- With the ring in RUN, a full formation and no run under way, LEDGER_COMMISSION waits and begins the test where a pin has that function, else the rehearsal, its level the smaller of half of UNSEALED_MAX and the allowance. A test that is over, 2 ms after it began or once the voltage has fallen 5 per cent, and saw the voltage fall leaves the measured capacitance, DEGRADED where it fails the tolerance, and the rehearsal begins. U at the level ends step 1; the backlog sealed in a time leaves SEAL_RATE and DEV_SEAL_MW with 3 per cent added, also in the boot flash, and COMMISSIONED. One second without reaching the level gives the run up and keeps all as it was. The choices of the model that it rests on are those of the assumption log, entries 66, 68. (10_energy_ledger.md R302, R306, R307, R308; 12_mailbox_and_commands.md R378, R387) -/
def Obligations.CommissioningMeasures : Prop :=
  ∀ (s : State) (m : Msg),
    (s.admits 0x601 permitR m = true → s.hasRoom m = true → m.payload = [] → s.ring.state = .run → s.fullFormation = true → s.ledger.commission = none →
      Completes (.ledgerCommission m) s (Awaits s 0x601 m .ledgerCommission fun u =>
        (s.holdupGpio = true → u.ledger.commission = some (.capTest s.now s.ledger.meanMv) ∧ u.board.holdupTest = true) ∧
        (s.holdupGpio = false → u = { s with ledger := { s.ledger with commission := some (.grow (min (s.ring.unsealedMax / 2) (min s.ring.unsealedMax s.ledger.allow)) s.now) } }))) ∧
    (∀ us drawMw v1 v2 b : Nat, s.ledger.commission = some (.capTest b v1) → s.capTestOver b v1 = true → us = (s.now - b) / cyclesPerUs → v2 = s.ledger.meanMv → v2 < v1 →
      let c := min 1048575 (2 * (drawMw + s.ledger.boardRunMw) * 1000 * us * 1000 / (s.ledger.etaPm * (v1 * v1 - v2 * v2)))
      Completes (.capTestEnd us drawMw v1 v2) s fun t => t.ledger.capMeasUf = c ∧ t.board.holdupTest = false ∧ t.ledger.degraded = (decide (c ≠ 0) && decide (c * 100 < s.ledger.capUf * (100 - s.ledger.capTolPct))) ∧
        t.ledger.commission = some (.grow (min (s.ring.unsealedMax / 2) (min s.ring.unsealedMax s.ledger.allow)) s.now) ∧ t.ring = s.ring) ∧
    (∀ level b : Nat, s.ledger.commission = some (.grow level b) →
      (level ≤ s.ring.u → Completes .rehearsalLevelReached s fun t => t = { s with ledger := { s.ledger with commission := some s.backlog } }) ∧
      (s.ring.u < level → b + cyclesPerS ≤ s.now → Completes .rehearsalTimeout s fun t => t.ledger = { s.ledger with commission := none } ∧ t.ring = s.ring)) ∧
    (∀ (bytes us drawMw b : Nat) (ssns : List Nat), s.ledger.commission = some (.seal bytes ssns b) → s.backlogSealed ssns = true → us = (s.now - b) / cyclesPerUs → us ≠ 0 →
      Completes (.rehearsalSealDone us drawMw) s fun t => t.ledger = { s.ledger with commission := none, commissioned := true, sealRate := some (min 1048575 (bytes / us)), devSealMw := min 1048575 (drawMw * 103 / 100) } ∧
        t.sec.commissionStored = some (min 1048575 (drawMw * 103 / 100), min 1048575 (bytes / us), s.ledger.capMeasUf) ∧
        (∃ o ∈ t.router.queue, o.id = evPower ∧ o.code = 2) ∧ t.ring = s.ring)

/-- POWER_STATE LOW in RUN begins the entry, every supply off, and waits; once everything has stopped the state is LOW. In LOW, POWER_STATE RUN and a wake named in WAKE_EVENTS lead to RUN with the supplies commanded on that were on before; other events do not. PFAIL_N low for PF_FILTER leads to HOLD: sessions and debug scopes closed, supplies off. SEAL_DONE once everything lies on the drives leaves SEALED. The end of HOLD is a system reset of cause 6 once PFAIL_N has been high for HOLD_EXIT after SEAL_DONE, no fuse being written, and nothing before. The choices of the model that it rests on are those of the assumption log, entries 63, 64, 65, 66, 67, 156. (10_energy_ledger.md R294, R297, R298, R300, R309, R310, R311; 12_mailbox_and_commands.md R378, R387; 14_reset_and_boot.md R422) -/
def Obligations.PowerStatesFollowTheirRules : Prop :=
  ∀ (s : State) (m : Msg),
    (∀ w0 w1 w2 : Word, s.admits 0x603 permitRLB m = true → m.payload = [w0, w1, w2] → fld w0 37 35 ≤ 6 → fld w0 34 0 = 0 → fld w1 3 0 = 0 → fld w2 3 0 = 0 →
      (fld w0 39 38 = 1 → s.hasRoom m = true → s.ledger.pstate = .run → s.ledger.enteringLow = false → Completes (.powerStateLow m) s (Awaits s 0x603 m .powerLow fun u => u.ledger.enteringLow = true ∧ u.ledger.pstate = .run ∧
        u.ledger.wakeEvents = ([fld w1 39 28, fld w1 27 16, fld w1 15 4, fld w2 39 28, fld w2 27 16, fld w2 15 4]).take (fld w0 37 35) ∧ ∀ n < s.variant.ports, (u.supply n).want = false)) ∧
      (fld w0 39 38 = 0 → s.hasRoom m = true → s.ledger.pstate = .low → Completes (.powerStateRun m) s (Answered 0x603 m .ok [] fun u => u.ledger.pstate = .run ∧ Raised s u evPower 6 0 ∧
        ∀ x ∈ s.ledger.lowPorts, ∀ n ∈ s.group x.1, (u.supply n).want = true))) ∧
    (s.ledger.enteringLow = true → s.ledger.pstate = .run → s.phokelStops = false → s.lowReached = true → s.stepLow.ledger.pstate = .low) ∧
    (∀ e : BitVec 12, s.ledger.pstate = .low → (e.toNat ∈ s.ledger.wakeEvents → Completes (.lowWake (some e)) s fun t => t.ledger.pstate = .run ∧ Raised s t evPower 6 0) ∧
      (e.toNat ∉ s.ledger.wakeEvents → Completes (.lowWake (some e)) s fun t => t = s)) ∧
    (∀ lowUs : Nat, s.ledger.pfFilter ≤ lowUs → s.ledger.pstate ≠ .hold → s.rst.alwaysOn = true → s.rst.off = false →
      Completes (.holdEnter lowUs) s fun t => t.ledger.pstate = .hold ∧ t.ledger.sealDone = false ∧ t.bb.sessions = [] ∧ t.sec.debugOpen = [] ∧ (∀ n < s.variant.ports, (t.supply n).want = false) ∧
        ∃ o ∈ t.router.queue, o.id = evPower ∧ o.code = 4) ∧
    (s.ledger.pstate = .hold → s.ledger.sealDone = false → s.ledger.tailSent = true → s.sealed = true → s.rst.deferredCause = none →
      Completes .sealDone s fun t => t.ledger.sealDone = true ∧ t.ledger.pstate = .hold ∧ bit t.board.attn 35 = true ∧ (s.ring.state = .run → t.ring.state = .sealed)) ∧
    (∀ highMs : Nat, (s.ledger.pstate = .hold → s.ledger.sealDone = true → s.ledger.holdExit ≤ highMs → s.sec.fuses = none →
        Completes (.holdExit highMs) s fun t => t.rst.cause = 0x06 ∧ t.ledger.pstate = .run ∧ t.dt = s.dt ∧ t.tu.travel.tr = s.tu.travel.tr ∧ t.rst.phokel = false) ∧
      (s.ledger.sealDone = false → Completes (.holdExit highMs) s fun t => t = s))

/-- POWER_CAP that steps can meet takes effect, answering the planned draw, and otherwise answers NO_RESOURCE and changes nothing. A mean draw above the cap by more than 5 per cent in RUN takes one further step where one remains and raises its event. With a cap raised, the newest step is undone, 100 ms after the last, while the plan fits without it. A temperature of 110 sets the warning, 115 the limit, 125 resets the system outside HOLD; they clear at 107 and 112. While the limit is set a step is taken each 100 ms, and undone while it is clear. The choices of the model that it rests on are those of the assumption log, entries 41, 68, 90. (10_energy_ledger.md R312, R313; 17_electrical_and_package.md R485; 12_mailbox_and_commands.md R378, R387; 14_reset_and_boot.md R422) -/
def Obligations.DrawAndHeatAreReduced : Prop :=
  ∀ s : State,
    (∀ (m : Msg) (w : Word), s.admits 0x604 permitRB m = true → s.hasRoom m = true → m.payload = [w] → fld w 27 0 = 0 →
      (∀ steps, s.fitCap (4 * s.bound.length + 1) (fld w 39 28) s.ledger.capSteps = some steps →
        ∃ u, exec (.powerCap m) s = .next (mailDone 0x604 m .ok [BitVec.ofNat 40 u.ledger.planDw] u) ∧ u.ledger.capDw = fld w 39 28 ∧ u.ledger.capSteps = steps ∧ u = { s with ctxs := u.ctxs, ledger := u.ledger }) ∧
      (s.fitCap (4 * s.bound.length + 1) (fld w 39 28) s.ledger.capSteps = none → exec (.powerCap m) s = .next (mailDone 0x604 m .noResource [] s))) ∧
    (∀ mean : Nat, s.ledger.capDw ≠ 0 → s.ledger.pstate = .run → s.phokelStops = false →
      (s.ledger.capDw * 105 < mean → Completes (.powerCapCheck mean) s fun t => (∀ c, s.nextStep s.ledger.capSteps = some c → t.ledger.capSteps = s.ledger.capSteps ++ [c]) ∧
        (s.nextStep s.ledger.capSteps = none → t.ledger.capSteps = s.ledger.capSteps) ∧ Raised s t evPower 7 0 ∧ t = { s with ctxs := t.ctxs, ledger := t.ledger, router := t.router }) ∧
      (mean ≤ s.ledger.capDw * 105 → Completes (.powerCapCheck mean) s fun t => t = s)) ∧
    (s.ledger.capUndo = true → s.ledger.capSince + 100 * cyclesPerMs ≤ s.now → s.phokelStops = false → s.ledger.pstate ≠ .hold → s.ledger.capSteps ≠ [] →
      (s.ledger.capDw = 0 ∨ s.plannedFor s.ledger.capSteps.dropLast ≤ s.ledger.capDw) →
      Completes .powerCapUndo s fun t => t.ledger.capSteps = s.ledger.capSteps.dropLast ∧ t.ledger.capSince = s.now ∧ t.ledger.capDw = s.ledger.capDw ∧ t = { s with ctxs := t.ctxs, ledger := t.ledger }) ∧
    (∀ temp : Int, (temp < 125 → Completes (.thermalSample temp) s fun t => t.board.temp = temp ∧ (110 ≤ temp → t.board.thermalWarn = true) ∧ (temp ≤ 107 → t.board.thermalWarn = false) ∧
        (115 ≤ temp → t.board.thermalLimit = true) ∧ (temp ≤ 112 → t.board.thermalLimit = false) ∧ (107 < temp → temp < 110 → t.board.thermalWarn = s.board.thermalWarn) ∧
        (112 < temp → temp < 115 → t.board.thermalLimit = s.board.thermalLimit) ∧ (115 ≤ temp → s.board.thermalLimit = false → ∃ o ∈ t.router.queue, o.id = evThermal ∧ o.code = 2) ∧
        t = { s with board := t.board, router := t.router }) ∧
      (125 ≤ temp → s.rst.alwaysOn = true → s.rst.off = false → s.ledger.pstate = .run → s.rst.resetAt ≠ some s.now → s.sec.fuses = none → Completes (.thermalSample temp) s fun t => t.rst.cause = 4)) ∧
    ((s.ledger.thermalSince = 0 ∨ s.ledger.thermalSince + 100 * cyclesPerMs ≤ s.now) → s.phokelStops = false → s.ledger.pstate = .run →
      (∀ c, s.board.thermalLimit = true → s.nextStep s.ledger.thermalSteps = some c → Completes .thermalStep s fun t => t.ledger.thermalSteps = s.ledger.thermalSteps ++ [c] ∧ t.ledger.thermalSince = s.now ∧
        t = { s with ctxs := t.ctxs, ledger := t.ledger }) ∧
      (s.board.thermalLimit = false → s.ledger.thermalSteps ≠ [] → Completes .thermalStep s fun t => t.ledger.thermalSteps = s.ledger.thermalSteps.dropLast ∧ t = { s with ctxs := t.ctxs, ledger := t.ledger }))

/-- With the host link up and Phokel started. A write that is not one whole aligned slot, and one with a reserved field not 0 or a value that its register does not admit, change nothing but RegFault, which names the offset, and raise the event. Every other write completes: a writable register takes the value, its rc fields kept; Halt and Doorbell do what the halt, resume and doorbell commands do; EVENT_RAISE raises; a register without writable fields and an unassigned offset leave the state as it was. Nothing is written before Phokel has started or with the link down. A read returns the register, or the named half, or 0 where none is assigned; its rc fields give what stood in them when the cycle began, which is cleared, while what this cycle adds is kept; the reads of TimeNow and TravelNow make and use up their latches, and a register without these is as before. A read of another size goes on. The choices of the model that it rests on are those of the assumption log, entries 45, 75, 77, 148. (00_scope.md R4, R7, R9, R10; 04_travel_and_time.md R112; 11_host_link_and_dma.md R319, R320, R321, R344, R352, R355, R357; 14_reset_and_boot.md R433) -/
def Obligations.RegistersAreReadAndWritten : Prop :=
  ∀ s : State,
    ((s.host.up = false ∨ s.rst.phokel = false) → ∀ (off size : Nat) (v : BitVec 64), off < 0x4000000 → Completes (.regWrite off size v) s fun t => t = s) ∧
    (s.host.up = true → s.rst.phokel = true →
      (∀ (off size : Nat) (v : BitVec 64), off < 0x4000000 → regAt s.variant off = none → Completes (.regWrite off size v) s fun t => t = s) ∧
      (∀ (off size : Nat) (v : BitVec 64) (r : Reg), off < 0x4000000 → regAt s.variant off = some r →
        let w : Word := v.truncate 40
        let refusedAs := fun (code : Nat) (t : State) => Raised s t evRegs code (off / 64) ∧ fld t.host.regFault 39 14 = off ∧
          t = { s with host := { s.host with regFault := t.host.regFault, regFaultWas := t.host.regFaultWas }, router := t.router }
        ((size ≠ 8 ∨ off % 8 ≠ 0) → Completes (.regWrite off size v) s (refusedAs 2)) ∧
        (size = 8 → off % 8 = 0 → (∃ x ∈ reservedFields r, fld w x.1 x.2 ≠ 0) → Completes (.regWrite off size v) s (refusedAs 1)) ∧
        (size = 8 → off % 8 = 0 → (∀ x ∈ reservedFields r, fld w x.1 x.2 = 0) →
          let takes := fun (ok : Prop) (post : State → Prop) => (ok → Completes (.regWrite off size v) s post) ∧ (¬ ok → Completes (.regWrite off size v) s (refusedAs 1))
          match r with
          | .recRing i 0 => takes (fld w 5 0 = 0) fun t => t.recRing i = { s.recRing i with baseLo := w } ∧ t = { s with host := t.host }
          | .recRing i 1 => takes (4 ≤ fld w 37 34 ∧ fld w 37 34 ≤ if i = 0 then 12 else 15) fun t => (t.recRing i).baseHi = w ∧ (t.recRing i).baseLo = (s.recRing i).baseLo ∧
              (bit w 39 = true ∧ (s.recRing i).enabled = false → (t.recRing i).writeIdx = 0) ∧ (¬ (bit w 39 = true ∧ (s.recRing i).enabled = false) → (t.recRing i).writeIdx = (s.recRing i).writeIdx) ∧ t = { s with host := t.host }
          | .recRing i 2 => takes True fun t => (t.recRing i).readIdx = fld w 19 0 ∧ ((i = 0 ∨ s.host.turned = none) → t.recRing i = { s.recRing i with readIdx := fld w 19 0 } ∧ t = { s with host := t.host })
          | .eventRaise => takes (0xBF0 ≤ fld w 39 28 ∧ fld w 39 28 ≤ 0xBFF) fun t => Raised s t (fld w 39 28) (fld w 27 20) (fld w 19 0) ∧ t = { s with router := t.router }
          | .strobe k => takes (fld w 37 22 ≠ 0) fun t => ((s.strobe k).highUntil = none → (t.strobe k).cfg = setFld w 21 6 (fld (s.strobe k).cfg 21 6)) ∧
              ((s.strobe k).highUntil ≠ none → t.strobe k = { s.strobe k with cfgPending := some w }) ∧ t = { s with tu := t.tu }
          | .port n 4 => takes (8800 + fld w 23 8 ≤ 8 * fld w 39 24) fun t => t.port n = { s.port n with trigCfg := w } ∧ t = { s with ports := t.ports }
          | .port n 8 => takes ((fld w 33 28 = 0x27 ∨ 0x2A ≤ fld w 33 28 ∧ fld w 33 28 ≤ 0x2F) ∧ 64 ≤ fld w 27 13 ∧ fld w 27 13 ≤ 16384) fun t => (t.port n).patGen0 = w ∧ t = { s with ports := t.ports }
          | .port n 9 => takes (fld w 39 24 ≠ 0 ∧ fld w 23 4 ≠ 0) fun t => t.port n = { s.port n with patGen1 := w } ∧ t = { s with ports := t.ports }
          | .port n 10 => takes True fun t => t.port n = { s.port n with patGen2 := setFld w 15 0 (fld (s.port n).patGen2 15 0) } ∧ t = { s with ports := t.ports }
          | .ctx c 13 => takes True fun t => t.ctx c = { s.ctx c with statsAck := w } ∧ t = { s with ctxs := t.ctxs }
          | .facet f 0 => takes (fld w 39 36 ≠ 0 ∧ fld w 35 32 ≠ 0 ∧ fld w 31 28 ≠ 0 ∧ fld w 27 24 ≠ 0) fun t => (t.facet f).arb = setFld w 23 23 0 ∧ (t.facet f).counts = (s.facet f).counts ∧ t = { s with facets := t.facets }
          | .expected c i => takes True fun t => ((t.check c).expected = (s.check c).expected.set i (w.truncate 32)) ∧ t = { s with checks := t.checks }
          | .trig i => takes True fun t => t.ring.trigOf i = w ∧ (∀ j, j ≠ i → t.ring.trigOf j = s.ring.trigOf j) ∧ t = { s with ring := { s.ring with trig := t.ring.trig } }
          | .route id => takes True fun t => t.router.route id = w ∧ (∀ j, j ≠ id → t.router.route j = s.router.route j) ∧ t.router.queue = s.router.queue ∧ t = { s with router := t.router }
          | .vector k => takes True fun t => t.vector k = { s.vector k with cfg := setFld w 23 8 (fld (s.vector k).cfg 23 8) } ∧ (∀ j, j ≠ k → t.vector j = s.vector j) ∧ t = { s with router := t.router }
          | .engine e 1 => takes True fun t => (bit w 39 = false → bit w 38 = false → t = s) ∧ (bit w 39 = true → bit w 38 = false → exec (.engineResume e) s = .next t) ∧
              (bit w 39 = false → bit w 38 = true → exec (.engineForceHalt e) s = .next t)
          | .chan e ch 5 => takes True fun t => (bit w 39 = false → bit w 38 = false → t = s) ∧ (bit w 38 = true → exec (.doorbellStop e ch) s = .next t) ∧
              (bit w 39 = true → bit w 38 = false → exec (.doorbellRing e ch) s = .next t)
          | _ => takes True fun t => t = s))) ∧
    (s.host.up = true → ∀ off size : Nat, off < 0x4000000 →
      (readOk off size = false → goesOn (.rcRead off size) s) ∧
      (readOk off size = true → s.regFor off = none → Completes (.rcRead off size) s fun t => t = { s with host := { s.host with lastRead := 0 } }) ∧
      (∀ r, readOk off size = true → s.regFor off = some r → Completes (.rcRead off size) s fun t =>
        let w := s.rcShow r (s.regWord r)
        t.host.lastRead.toNat = (if size = 8 then w.toNat else if off % 8 = 0 then w.toNat % 2 ^ 32 else w.toNat / 2 ^ 32) ∧
        let rest := { s.host with lastRead := t.host.lastRead }
        let cleared := t.rcSeen r = 0 ∧ ∀ q, q ≠ r → t.rcSeen q = s.rcSeen q
        match r with
        | .timeNowLo => t.time.latchHi = some s.timeNowHi ∧ t.time.latchTravel = some s.travelNow ∧ t.time.latchStatus = some s.travelStatus ∧ t = { s with time := t.time, host := rest }
        | .timeNowHi => t = { s with time := { s.time with latchHi := none }, host := rest }
        | .travelNow => t = { s with time := { s.time with latchTravel := none }, host := rest }
        | .travelStatus => t = { s with time := { s.time with latchStatus := none }, host := rest }
        | .port n 5 => cleared ∧ t.port n = { s.port n with unboundRaised := false } ∧ t = { s with ports := t.ports, rcOld := t.rcOld, host := rest }
        | .port n 6 => cleared ∧ t.port n = { s.port n with peak := max (s.port n).peak (s.ringFill n) } ∧ t = { s with ports := t.ports, rcOld := t.rcOld, host := rest }
        | _ => cleared ∧ t = { s with rcOld := t.rcOld, host := rest })) ∧
    (s.host.up = true → s.rst.phokel = true → ∀ v : Word,
      (0xBF0 ≤ fld v 39 28 → fld v 39 28 ≤ 0xBFF → Completes (.eventRaise v) s fun t => Raised s t (fld v 39 28) (fld v 27 20) (fld v 19 0) ∧ t = { s with router := t.router }) ∧
      ((fld v 39 28 < 0xBF0 ∨ 0xBFF < fld v 39 28) → Completes (.eventRaise v) s fun t => Raised s t evRegs 1 2 ∧ fld t.host.regFault 39 14 = 0x80))

/-- For a channel that is enabled and not halted: a doorbell begins a fetch and ends STOPPED; STOP stops an idle channel not started in the same cycle at once and another after its descriptor. A fetch adds owned descriptors up to eight. Service of the chosen channel posts the transfer's bytes into the buffer. Completion writes OWN, STATUS and DONE_LEN back at HEAD, counts, raises the event and goes on. A returned read-back of a tag writes it, that of a fence releases the channel. FORCE halts an engine with nothing in flight, a bus error at once with its cause and a bit for each channel in flight; RESUME, and Engines 28 to 31 by themselves after 1 ms, run again with every channel EMPTY but one that a retrieval gives up. The choices of the model that it rests on are those of the assumption log, entries 9, 11, 12, 76, 170, 173. (11_host_link_and_dma.md R331, R335, R337, R338, R339, R340, R341, R342, R343, R357) -/
def Obligations.ChannelsServeDescriptors : Prop :=
  ∀ (s : State) (e ch : Nat), e < 32 → ch < 32 →
    ((s.chan e ch).enable = true → (s.chan e ch).state ≠ .halted →
      (s.host.up = true → s.rst.phokel = true → Completes (.doorbellRing e ch) s fun t => (t.chan e ch).fetching = true ∧ (t.chan e ch).state ≠ .stopped ∧ (t.chan e ch).stopPending = false ∧ (t.chan e ch).enable = true) ∧
      (s.host.up = true → s.rst.phokel = true → (s.chan e ch).inFlight = true → Completes (.doorbellStop e ch) s fun t => t.chan e ch = { s.chan e ch with stopPending := true } ∧ t = { s with chans := t.chans }) ∧
      (s.host.up = true → s.rst.phokel = true → (s.chan e ch).inFlight = false → (∀ x, (s.chan e ch).started = some x → x.1 ≠ s.now) → Completes (.doorbellStop e ch) s fun t => t.chan e ch = { s.chan e ch with state := .stopped } ∧ t = { s with chans := t.chans }) ∧
      (∀ descs : List Fetched, (s.chan e ch).fetching = true → (s.chan e ch).inFlight = true → (s.chan e ch).skipOwn = false → (s.chan e ch).fetched.length < 8 → s.ledger.pstate ≠ .low → ((s.chan e ch).ringMem = true ∨ s.hostOpen = true) →
        Completes (.descriptorFetchDone e ch descs) s fun t => (t.chan e ch).fetched = (s.chan e ch).fetched ++ (descs.take (8 - (s.chan e ch).fetched.length)).takeWhile Fetched.own ∧ (t.chan e ch).fetched.length ≤ 8 ∧
          (t.chan e ch).head = (s.chan e ch).head ∧ t = { s with chans := t.chans })) ∧
    (∀ c : Transfer, (s.engine e).halted = false → (s.engine e).inReset = false → s.hostOpen = true → s.ledger.pstate ≠ .low → (∀ r ∈ (s.engine e).readbacks, r.issued = true) → s.choose e = some ch →
      (s.chan e ch).transfers.head? = some c → ∀ d, (s.chan e ch).fetched.head? = some d →
      Completes (.dmaService e .good) s fun t => t.host.writes = (descWrites d c.offset c.bytes).reverse ++ s.host.writes ∧ (t.chan e ch).transfers = (s.chan e ch).transfers.tail ∧
        (t.chan e ch).done = (s.chan e ch).done + c.bytes.length ∧ (t.engine e).activeCh = ch ∧ t.router = s.router) ∧
    (∀ (d : Fetched) (f : FrameUse), (s.chan e ch).fetched = [d] → (s.chan e ch).frame = some f → f.whole = true → f.poisoned = false → (s.chan e ch).enable = true → (s.chan e ch).inFlight = true →
      (s.chan e ch).transfers = [] → (s.chan e ch).output = false → e ≠ 30 → (s.chan e ch).state = .active → (s.chan e ch).stopPending = false → d.stop = false → (s.engine e).forcePending = false → s.hostOpen = true →
      Completes (.dmaDescriptorComplete e ch) s fun t => (t.chan e ch).head = ((s.chan e ch).head + 1) % 2 ^ (s.chan e ch).size ∧ (t.chan e ch).state = .empty ∧ (t.chan e ch).inFlight = false ∧
        fld (t.chan e ch).counts 39 20 = min 0xFFFFF (fld (s.chan e ch).counts 39 20 + 1) ∧
        t.host.writes = { addr := (s.chan e ch).ringAddr + 32 * (s.chan e ch).head + 12, bytes := writeBackBytes d 0 (s.chan e ch).done } :: s.host.writes ∧ ∃ o ∈ t.router.queue, o.id = evCompletion e ch) ∧
    (∀ r : ReadBack, (s.engine e).halted = false → (s.engine e).inReset = false → (s.engine e).readbacks.find? (fun r => r.issued) = some r →
      (r.kind = .tag → s.hostOpen = true → Completes (.readbackComplete e) s fun t => ({ addr := r.addr, bytes := r.bytes } : HostWrite) ∈ t.host.writes) ∧
      (r.kind = .fence → s.hostOpen = true → (∀ d, (s.chan e r.ch).fetched.head? = some d → d.bad = false) → Completes (.readbackComplete e) s fun t => (t.chan e r.ch).unacked = false ∧ (t.engine e).readbacks = eraseFirst (fun y => y.issued) (s.engine e).readbacks)) ∧
    ((s.engine e).halted = false → (s.engine e).inReset = false →
      (∀ cause : BitVec 3, 1 ≤ cause.toNat → cause.toNat ≤ 5 → e ≠ 30 → Completes (.dmaBusError e cause) s fun t => (t.engine e).halted = true ∧ (t.engine e).cause = cause.toNat ∧
        (∀ k < 32, (t.engine e).outstanding.getLsbD k = ((s.chan e k).inFlight || (k == 31 && (s.engine e).readbacks.any fun r => r.issued))) ∧ (∀ k < 32, (s.chan e k).enable = true → (t.chan e k).state = .halted) ∧ ∃ o ∈ t.router.queue, o.id = evEngine e ∧ o.code = 1) ∧
      (s.host.up = true → s.rst.phokel = true → (∀ k < 32, (s.chan e k).inFlight = false) → (∀ r ∈ (s.engine e).readbacks, r.issued = false) → Completes (.engineForceHalt e) s fun t => (t.engine e).halted = true ∧ (t.engine e).cause = 6) ∧
      (s.host.up = true → s.rst.phokel = true → (s.chan e ch).inFlight = true → Completes (.engineForceHalt e) s fun t => (t.engine e).halted = false ∧ (t.engine e).forcePending = true)) ∧
    ((s.engine e).halted = true → (s.engine e).inReset = false →
      let runs := fun (t : State) => (t.engine e).halted = false ∧ (∀ k < 32, (e = 30 → k = 0 → s.ring.retrieval = none) → (s.chan e k).enable = true → (t.chan e k).state = .empty ∧ (t.chan e k).inFlight = false ∧ (t.chan e k).head = (s.chan e k).head) ∧ Raised s t (evEngine e) 2 0
      (s.host.up = true → s.rst.phokel = true → Completes (.engineResume e) s runs) ∧
      (28 ≤ e → (s.engine e).cause ≠ 5 → (s.engine e).cause ≠ 6 → (s.engine e).haltCycle + cyclesPerMs ≤ s.now → s.phokelStops = false → Completes (.dmaAutoResume e) s runs))

/-- With the link up, a function-level reset, a hot reset and a link-down disable every channel in host memory, both record rings and bus mastering, empty the queues of Door 0 and raise their event; a link-down ends the link; Device Time goes on. The link comes up with its domain released and no wider than the strap offers; a retraining is counted. A configuration request sets its field, and a table write its dword. An occurrence without destinations leaves the queue alone; one routed to the event ring is recorded, one routed to a cue arms it. At the end of a holdoff with merged occurrences one message goes out and counts one. The choices of the model that it rests on are those of the assumption log, entries 72, 74, 78, 172, 173. (11_host_link_and_dma.md R316, R318, R325, R326, R327, R349, R350, R352, R353) -/
def Obligations.HostLinkAndRouter : Prop :=
  ∀ s : State,
    (s.host.up = true →
      let cleared := fun (t : State) => t.host.busMaster = false ∧ t.host.rec0.enabled = false ∧ t.host.rec1.enabled = false ∧ t.host.held = [] ∧ (∀ k < 3, (t.note 0 k).words = [] ∧ (t.note 0 k).thresh = (s.note 0 k).thresh) ∧
        (∀ k < 3, ∀ d, 1 ≤ d → d < 4 → t.note d k = s.note d k) ∧ (∀ e ch, e < 32 → ch < 32 → (s.chan e ch).ringMem = false → (t.chan e ch).enable = false) ∧ t.time = s.time ∧ t.tu = s.tu
      let raised := fun (code : Nat) (t : State) => t.router.queue.getLast?.map (fun o => (o.id, o.code)) = some (evHost, code)
      Completes .hostFlr s (fun t => cleared t ∧ raised 1 t ∧ t.host.up = true ∧ t.host.width = s.host.width) ∧ Completes .hostHotReset s (fun t => cleared t ∧ raised 2 t ∧ t.host.up = true) ∧
      Completes .hostLinkDown s (fun t => cleared t ∧ raised 3 t ∧ t.host.up = false ∧ t.host.width = 0) ∧
      (∀ offered rate : Nat, offered ∈ [1, 2, 4, 8, 16, 32] → 1 ≤ rate → rate ≤ 5 → let width := linkWidth s.rst.strapCode offered
        Completes (.hostLinkRetrained offered rate) s fun t => t.host = { s.host with width := width, rate := rate, retrains := satAdd 16 s.host.retrains 1 } ∧
        (width ≠ s.host.width ∨ rate ≠ s.host.rate → Raised s t evHost 4 0) ∧ (width = s.host.width → rate = s.host.rate → t.router = s.router) ∧ t = { s with host := t.host, router := t.router }) ∧
      (∀ on : Bool, Completes (.configurationRequest (.busMaster on)) s fun t => t.host.busMaster = on ∧ t.host.d3hot = s.host.d3hot ∧ t.host.mps = s.host.mps) ∧
      (∀ d3 : Bool, Completes (.configurationRequest (.powerState d3)) s fun t => t.host.d3hot = d3 ∧ t.host.busMaster = s.host.busMaster) ∧
      Completes (.configurationRequest (.maxPayload 256)) s (fun t => t = { s with host := { s.host with mps := 1 } }) ∧
      (∀ v, Completes (.configurationRequest (.completionTimeout v)) s fun t => t = { s with host := { s.host with ctoValue := v } }) ∧
      (s.rst.phokel = true → ∀ (n : Nat) (v : BitVec 32), n < 256 →
        Completes (.msixTableWrite n 0 v) s (fun t => (t.vector n).addrLo = v &&& 0xFFFFFFFC) ∧ Completes (.msixTableWrite n 1 v) s (fun t => (t.vector n).addrHi = v) ∧
        Completes (.msixTableWrite n 2 v) s (fun t => (t.vector n).msgData = v) ∧ Completes (.msixTableWrite n 3 v) s (fun t => (t.vector n).control = v &&& 1))) ∧
    (∀ offered rate : Nat, s.host.up = false → offered ∈ [1, 2, 4, 8, 16, 32] → 1 ≤ rate → rate ≤ 5 → s.rst.released.getLsbD 11 = true → let width := linkWidth s.rst.strapCode offered
      width ≤ offered ∧ width ≤ strapWidth s.rst.strapCode ∧ (width = 16 ∨ width = 8 ∨ width = 4 ∨ width = 1) ∧
      Completes (.hostLinkUp offered rate) s fun t => t = { s with host := { s.host with up := true, width := width, rate := rate } }) ∧
    (∀ (o : Occ) (r : List Occ), s.router.queue = o :: r → (∀ i < 8, bit (s.ring.trigOf i) 39 = false) →
      (o.route = 0 → Completes .eventRoute s fun t => t = { s with router := { s.router with queue := r } }) ∧
      (o.route = BitVec.ofNat 40 (2 ^ 30) → s.host.rec1.enabled = true → s.host.rec1.full = false → s.hostOpen = true → (s.engine 29).stopped = false → Completes .eventRoute s fun t => t.host.rec1.writeIdx = (s.host.rec1.writeIdx + 1) % 2 ^ 20 ∧
        (∃ slot, t.host.writes = slot :: { addr := s.host.rec1.entryAddr 16 s.host.rec1.writeIdx, bytes := hostForms [o.stamp, mkWord [(39, 28, o.id), (27, 20, o.code), (19, 0, o.data)]] } :: s.host.writes ∧
          slot.addr = s.host.rec1.base + 16 * 2 ^ s.host.rec1.sizeLog) ∧ t.router.queue = r) ∧
      (∀ c < 1024, o.route = mkWord [(17, 17, 1), (16, 7, c)] → Completes .eventRoute s fun t => t.cue c = { s.cue c with arm := true } ∧ (∀ j, j ≠ c → t.cue j = s.cue j) ∧ t.router.queue = r)) ∧
    (∀ v : Nat, v < 256 → (s.vector v).holdEnd ≤ s.now → (s.vector v).merged ≠ [] → s.hostOpen = true → (s.vector v).control.getLsbD 0 = false →
      Completes (.vectorHoldoffEnd v) s fun t => t.host.writes = { addr := (s.vector v).addrHi.toNat * 2 ^ 32 + (s.vector v).addrLo.toNat, bytes := bytesLE 4 (s.vector v).msgData.toNat } :: s.host.writes ∧
        (t.vector v).merged = [] ∧ fld (t.vector v).cfg 23 8 = min 0xFFFF (fld (s.vector v).cfg 23 8 + 1) ∧ (∀ w, w ≠ v → t.vector w = s.vector w))

/-- ATTEST_QUOTE writes body, signature and certificate and answers 1536. OWNER_KEY with an acceptable request installs its key in an empty slot, or revokes an unrevoked slot that is not the last. LIFECYCLE_SET goes by Table 13-2 alone, where its condition holds and the request is acceptable, and answers STATE otherwise once the request has been judged. DOOR_SECRET_SET with an acceptable request replaces the secret by one not all 0 and closes the door sessions. Engine 28 able to read the request, one found bad is answered BAD_ARG with SEC_REQUEST_REFUSED, one whose signer may not DENIED, and neither changes anything else. An acceptable request is 512 bytes for this device, of the KIND and ARG asked for, from a permitted signer whose key matches and whose signature verifies, with a SEQ above the last of its KIND; once kept, the same request is not acceptable again. The choices of the model that it rests on are those of the assumption log, entries 44, 86, 87, 173, 176. (13_security.md R392, R393, R397, R398, R399, R408, R409; 12_mailbox_and_commands.md R378, R387; 12_mailbox_and_commands.md Table 12-12) -/
def Obligations.SignedRequestsAreJudged : Prop :=
  ∀ (s : State) (m : Msg) (host : List Byte),
    let slot := fld (m.w 0) 39 38
    let mayInstall := fun (r : Request) => if s.sec.lifecycle = .factory then r.signer == 0 else if s.sec.lifecycle = .ownedOpen ∧ s.sec.installed.isEmpty = true then r.signer == 0x20 else s.sec.byOwner r
    let mayRevoke := fun (r : Request) => s.sec.byOwner r && r.signer != 0x10 + slot
    let next := lifecycleOf slot
    let mayMove := fun (r : Request) => if s.sec.lifecycle = .factory ∨ (s.sec.lifecycle = .ownedOpen ∧ next = .retired ∧ s.sec.installed.isEmpty = true) then r.signer == 0 else s.sec.byOwner r
    let maySet := fun (r : Request) => if s.sec.installed.isEmpty = true then r.signer == 0 else s.sec.byOwner r
    let refused := fun (op kind : Nat) => Answered op m .badArg [] fun u => Raised s u evSecurity 5 kind ∧ u = { s with router := u.router, log := u.log }
    (s.admits 0x700 permitR0 m = true → m.payload.length = 9 → hostAddrOk (m.w 8) = true → s.sec.lifecycle ≠ .retired → s.hasRoom m = true → s.hostOpen = true →
      Completes (.attestQuote m) s (Answered 0x700 m .ok [1536] fun u => let body := s.quoteBody (payloadBytes m 0 32)
        u = { s with host := { s.host with writes := { addr := hostAddr (m.w 7) (m.w 8), bytes := body ++ ed448Sign identitySeed "gv-attest" body ++ zeroBytes 14 ++ s.identityCert } :: s.host.writes } })) ∧
    (s.admits 0x706 permitR0 m = true → m.payload.length = 3 → bit (m.w 0) 37 = false → requestLen m = true → s.sec.lifecycle ≠ .retired → s.hasRoom m = true → s.loadsOpen = true →
      (∀ r, s.checkRequest host 1 slot mayInstall = .ok r → s.sec.installed.contains slot = false → Completes (.ownerKeyInstall m host) s (Answered 0x706 m .ok [] fun u => u = { s with sec := { s.sec with
        lastSeq := s.sec.lastSeq.set 0 r.seq, ownerHash := s.sec.ownerHash.set slot (some (ownerHashOf r.newPub)), ownerPub := s.sec.ownerPub.set slot (some r.newPub) } })) ∧
      (∀ r, s.checkRequest host 1 slot mayInstall = .ok r → s.sec.installed.contains slot = true → Completes (.ownerKeyInstall m host) s (Answered 0x706 m .badArg [] fun u => u = s)) ∧
      (s.checkRequest host 1 slot mayInstall = .bad → 512 ≤ host.length → Completes (.ownerKeyInstall m host) s (refused 0x706 1)) ∧
      (host.length < 512 → Completes (.ownerKeyInstall m host) s (Answered 0x706 m .fault [] fun u => u = s)) ∧
      (s.checkRequest host 1 slot mayInstall = .denied → 512 ≤ host.length → Completes (.ownerKeyInstall m host) s (Answered 0x706 m .denied [] fun u => u = s))) ∧
    (s.admits 0x706 permitR0 m = true → m.payload.length = 3 → bit (m.w 0) 37 = true → requestLen m = true → s.sec.lifecycle ≠ .retired → s.hasRoom m = true → s.loadsOpen = true →
      (∀ r, s.checkRequest host 2 slot mayRevoke = .ok r → s.sec.unrevoked.contains slot = true → 2 ≤ s.sec.unrevoked.length → Completes (.ownerKeyRevoke m host) s (Answered 0x706 m .ok [] fun u => Raised s u evSecurity 8 slot ∧
        u = { s with sec := { s.sec with lastSeq := s.sec.lastSeq.set 1 r.seq, ownerRevoked := s.sec.ownerRevoked.set slot true }, router := u.router, log := u.log })) ∧
      (∀ r, s.checkRequest host 2 slot mayRevoke = .ok r → (s.sec.unrevoked.contains slot = false ∨ s.sec.unrevoked.length < 2) → Completes (.ownerKeyRevoke m host) s (Answered 0x706 m .badArg [] fun u => u = s)) ∧
      (s.checkRequest host 2 slot mayRevoke = .bad → 512 ≤ host.length → Completes (.ownerKeyRevoke m host) s (refused 0x706 2)) ∧
      (s.checkRequest host 2 slot mayRevoke = .denied → 512 ≤ host.length → Completes (.ownerKeyRevoke m host) s (Answered 0x706 m .denied [] fun u => u = s))) ∧
    (s.admits 0x707 permitR0 m = true → m.payload.length = 3 → bit (m.w 0) 37 = false → requestLen m = true → s.hasRoom m = true → s.loadsOpen = true →
      (transition s.sec.lifecycle next = true → s.sec.lifecycle.code < next.code) ∧
      (∀ r, transition s.sec.lifecycle next = true → s.checkRequest host 3 slot mayMove = .ok r → s.lifecycleReady next = true → Completes (.lifecycleSet m host) s (Answered 0x707 m .ok [] fun u =>
        u.sec.lifecycle = next ∧ u.sec.lastSeq = s.sec.lastSeq.set 2 r.seq ∧ (next = .ownedSealed → u.sec.debugOpen.contains 2 = false) ∧
        (next = .retired → u.sec.doorSecret = none ∧ u.bb.sessions = []) ∧ u.router.queue.getLast?.map (fun o => (o.id, o.code, o.data)) = some (evSecurity, 6, slot))) ∧
      (∀ r, s.checkRequest host 3 slot mayMove = .ok r → transition s.sec.lifecycle next = false ∨ s.lifecycleReady next = false → Completes (.lifecycleSet m host) s (Answered 0x707 m .state [] fun u => u = s)) ∧
      (s.checkRequest host 3 slot mayMove = .bad → 512 ≤ host.length → Completes (.lifecycleSet m host) s (refused 0x707 3)) ∧
      (s.checkRequest host 3 slot mayMove = .denied → 512 ≤ host.length → Completes (.lifecycleSet m host) s (Answered 0x707 m .denied [] fun u => u = s))) ∧
    (s.admits 0x708 permitR0 m = true → m.payload.length = 3 → zeroFld (m.w 0) 39 37 = true → requestLen m = true → (s.sec.lifecycle = .ownedOpen ∨ s.sec.lifecycle = .ownedSealed) → s.hasRoom m = true → s.loadsOpen = true →
      (∀ r, s.checkRequest host 4 0 maySet = .ok r → (∃ b ∈ r.secret, b ≠ 0) → Completes (.doorSecretSet m host) s (Answered 0x708 m .ok [] fun u =>
        u.sec.doorSecret = some r.secret ∧ u.sec.doorSecretStored = some (xorBytes r.secret doorWrap, doorCheck r.secret) ∧ u.bb.sessions = [] ∧ u.sec.lastSeq = s.sec.lastSeq.set 3 r.seq ∧ u.router = s.router)) ∧
      (∀ r, s.checkRequest host 4 0 maySet = .ok r → (∀ b ∈ r.secret, b = 0) → Completes (.doorSecretSet m host) s (Answered 0x708 m .badArg [] fun u => u = s)) ∧
      (s.checkRequest host 4 0 maySet = .bad → 512 ≤ host.length → Completes (.doorSecretSet m host) s (refused 0x708 4)) ∧
      (s.checkRequest host 4 0 maySet = .denied → 512 ≤ host.length → Completes (.doorSecretSet m host) s (Answered 0x708 m .denied [] fun u => u = s))) ∧
    (∀ (kind arg : Nat) (accept : Request → Bool) (r : Request), s.checkRequest host kind arg accept = .ok r →
      host.length = 512 ∧ bytesAt host 0 4 = ascii "GVRQ" ∧ bytesAt host 16 16 = deviceId ∧ r.kind = kind ∧ r.arg = arg ∧ accept r = true ∧ s.sec.lastSeq.getD (kind - 1) 0 < r.seq ∧
      ed448Verify r.signerPub "gv-request" (host.take 320) (bytesAt host 320 114) = true ∧ (r.signer ≠ 0x20 → s.sec.signerHash r.signer r.signerPub = true) ∧
      (1 ≤ kind → kind ≤ s.sec.lastSeq.length → ∀ accept' r', (s.keepSeq r).checkRequest host kind arg accept' ≠ .ok r'))

/-- A chunk that goes on from the last, or begins at 0, waits for the flash with its bytes joined to the inactive slot. The end of a flash operation completes it: FAULT, OK, STAGED for an acceptable image under FINAL and DENIED for another, TRY set for an activation at the next reset. FW_ACTIVATE begins a core reset with TRY naming the staged slot, and answers STATE where none is staged. DEBUG_CHALLENGE and the port issue a challenge unless they are refused. A response uses it up; a good one opens its scope with its event, or in LOW is held for Phokel's acknowledgement; any other fails with its event, the eighth stops challenges for 60 s. DEBUG_CLOSE and the port close every scope. An instruction of the port runs where its scope is open and is refused elsewhere. The choices of the model that it rests on are those of the assumption log, entries 86, 88, 173, 178, 180. (13_security.md R410, R411, R413, R414, R415, R416, R417, R418; 12_mailbox_and_commands.md Table 12-12; 14_reset_and_boot.md R421) -/
def Obligations.FirmwareAndDebugSessions : Prop :=
  ∀ s : State,
    (∀ (m : Msg) (host : List Byte), s.admits 0x701 permitR0 m = true → lenIs m 4 = true → zeroFld (m.w 0) 38 32 = true → hostAddrOk (m.w 2) = true → zeroFld (m.w 3) 39 32 = true → s.sec.booted < 2 → s.sec.slots.length = 2 → s.sec.activation = none → s.hasRoom m = true → s.loadsOpen = true →
      let len := fld (m.w 0) 31 0
      let off := fld (m.w 3) 31 0
      let holds := fun (image : List Byte) (u : State) => u.sec.slot s.sec.spare = { image := image, staged := false } ∧ u.sec.slot s.sec.booted = s.sec.slot s.sec.booted ∧ u = { s with sec := u.sec }
      (s.flashBusy = true → off + len ≤ 28 * 2 ^ 20 → (off = 0 ∨ ((s.sec.slot s.sec.spare).staged = false ∧ off = (s.sec.slot s.sec.spare).image.length)) → exec (.fwStage m host) s = .next (mailDone 0x701 m .busy [] s)) ∧
      (s.flashBusy = false → off + len ≤ 28 * 2 ^ 20 → len ≤ host.length →
        (off = 0 → Completes (.fwStage m host) s (Awaits s 0x701 m .flash (holds (host.take len)))) ∧
        (off ≠ 0 → (s.sec.slot s.sec.spare).staged = false → off = (s.sec.slot s.sec.spare).image.length → Completes (.fwStage m host) s (Awaits s 0x701 m .flash (holds ((s.sec.slot s.sec.spare).image ++ host.take len))))) ∧
      (off ≠ 0 → (s.sec.slot s.sec.spare).staged = false → off ≠ (s.sec.slot s.sec.spare).image.length → exec (.fwStage m host) s = .next (mailDone 0x701 m .badArg [] s))) ∧
    (∀ i : Inflight, s.inflight? (fun i => i.wait == .flash) = some i → s.phokelStops = false →
      Completes (.flashOperationDone false) s (fun t => t = s.finishWait .flash .fault) ∧
      (i.opcode ≠ 0x702 → bit (pw i.payload 0) 39 = false → Completes (.flashOperationDone true) s fun t => t = s.finishWait .flash .ok) ∧
      (i.opcode ≠ 0x702 → bit (pw i.payload 0) 39 = true → Completes (.flashOperationDone true) s fun t =>
        if s.sec.imageOk (s.sec.slot s.sec.spare).image = true then ∃ u : State, t = u.finishWait .flash .ok ∧ u = { s with sec := { s.sec with slots := s.sec.slots.set s.sec.spare { s.sec.slot s.sec.spare with staged := true } } }
        else t = s.finishWait .flash .denied) ∧
      (i.opcode = 0x702 → Completes (.flashOperationDone true) s fun t => ∃ u : State, t = u.finishWait .flash .ok ∧ u.sec.tryByte = 0x80 + s.sec.spare ∧ u.sec.bootSeq = s.sec.bootSeq + 1 ∧ u.sec.slots = s.sec.slots ∧ u = { s with sec := u.sec })) ∧
    (∀ m : Msg, s.admits 0x702 permitR0 m = true → lenIs m 1 = true →
      (m.w 0 = 0x4143545600 →
        ((s.sec.slot s.sec.spare).staged = false → exec (.fwActivate m) s = .next (mailDone 0x702 m .state [] s)) ∧
        ((s.sec.slot s.sec.spare).staged = true → s.sec.tooOld = false → s.sec.debugOpen.contains 0 = false → s.hasRoom m = true → s.rst.off = false → s.rst.phokel = true →
          Completes (.fwActivate m) s (Awaits s 0x702 m .fwActivate fun u => u.sec.tryByte = s.sec.spare ∧ u.sec.activation = some { slot := s.sec.spare, start := s.now } ∧ u.rst.cause = 0x20 ∧ u.rst.coreReset = true ∧
            u.rst.bootState = .booting ∧ u.ctxs = s.ctxs ∧ u.facets = s.facets ∧ u.ports = s.ports ∧ u.ring = s.ring ∧ u.time = s.time))) ∧
      (m.w 0 = 0x4143545652 →
        ((s.sec.slot s.sec.spare).staged = false → exec (.fwActivateAtReset m) s = .next (mailDone 0x702 m .state [] s)) ∧
        ((s.sec.slot s.sec.spare).staged = true → s.flashBusy = false → s.hasRoom m = true → Completes (.fwActivateAtReset m) s (Awaits s 0x702 m .flash fun u => u = s)))) ∧
    (let issued := fun (k : Nat) (u : State) => ∃ nonce, nonce.length = 32 ∧ u.sec.challenge = some { scope := k, bytes := s.challengeBytes k nonce, issued := s.now } ∧ u.sec.debugOpen = s.sec.debugOpen;
      (∀ m : Msg, s.admits 0x703 permitRL0 m = true → lenIs m 3 = true → fld (m.w 0) 39 38 < 3 → zeroFld (m.w 0) 37 0 = true → hostAddrOk (m.w 2) = true →
        (s.sec.refuseUntil ≤ s.now → s.hostOpen = true → Completes (.debugChallenge m) s (Answered 0x703 m .ok [256] fun u => issued (fld (m.w 0) 39 38) u ∧
          u.host.writes = { addr := hostAddr (m.w 1) (m.w 2), bytes := (u.sec.challenge.map fun c => c.bytes).getD [] } :: s.host.writes)) ∧
        (s.now < s.sec.refuseUntil → exec (.debugChallenge m) s = .next (mailDone 0x703 m .denied [] s))) ∧
      (∀ k, s.rst.alwaysOn = true → k < 3 → s.ledger.pstate ≠ .hold → s.sec.refuseUntil ≤ s.now → Completes (.debugPortAccess (.challenge k)) s (issued k))) ∧
    (let opened := fun (k : Nat) (t : State) => k ∈ t.sec.debugOpen ∧ (∀ j ∈ s.sec.debugOpen, j ∈ t.sec.debugOpen) ∧ t.sec.debugSinceBoot = true ∧ t.sec.challenge = none ∧ t.sec.heldOpening = none ∧ Raised s t evSecurity 2 k;
      let failed := fun (t : State) => t.sec.debugOpen = s.sec.debugOpen ∧ t.sec.challenge = none ∧ (s.sec.failRun < 7 → t.sec.failRun = s.sec.failRun + 1 ∧ t.sec.refuseUntil = s.sec.refuseUntil) ∧
        (7 ≤ s.sec.failRun → t.sec.failRun = 0 ∧ t.sec.refuseUntil = s.now + 60 * cyclesPerS) ∧ ∃ o ∈ t.router.queue, o.id = evSecurity ∧ o.code = 4;
      (∀ (m : Msg) (host : List Byte), s.admits 0x704 permitRL0 m = true → lenIs m 3 = true → zeroFld (m.w 0) 39 16 = true → fld (m.w 0) 15 0 = 320 → hostAddrOk (m.w 2) = true →
        s.sec.heldOpening = none → s.hasRoom m = true → s.loadsOpen = true → (host.length < 320 → Completes (.debugOpen m host) s (Answered 0x704 m .fault [] fun u => u = s)) ∧ (s.sec.challenge = none → 320 ≤ host.length → Completes (.debugOpen m host) s (Answered 0x704 m .denied [] failed)) ∧
        (∀ c, s.sec.challenge = some c → (c.scope = 2 → s.scanAllowed = true) → 320 ≤ host.length →
          if s.responseGood c host = true then (s.ledger.pstate = .run → Completes (.debugOpen m host) s (Answered 0x704 m .ok [] (opened c.scope))) ∧
            (s.ledger.pstate = .low → Completes (.debugOpen m host) s (Awaits s 0x704 m .debugOpen fun u => u.sec.heldOpening = some { scope := c.scope, signer := leAt host 6 1, deadline := s.now + 100 * cyclesPerMs } ∧ u.sec.debugOpen = s.sec.debugOpen ∧ u.router = s.router))
          else Completes (.debugOpen m host) s (Answered 0x704 m .denied [] failed))) ∧
      (∀ (r : List Byte) (c : Challenge), s.rst.alwaysOn = true → s.sec.heldOpening = none → s.sec.challenge = some c → s.ledger.pstate = .run → (c.scope = 2 → s.scanAllowed = true) →
        Completes (.debugPortAccess (.response r)) s (if s.responseGood c r = true then opened c.scope else failed)) ∧
      (∀ h : HeldOpening, s.sec.heldOpening = some h → h.scope < 3 →
        (s.now < h.deadline → s.phokelStops = false → s.sec.mayOpen h = true → (h.scope = 2 → s.scanAllowed = true) → Completes .debugDomainsAcknowledge s fun t => ∃ u : State, t = u.finishWait .debugOpen .ok ∧ h.scope ∈ u.sec.debugOpen ∧ u.sec.heldOpening = none ∧ Raised s u evSecurity 2 h.scope) ∧
        (h.deadline ≤ s.now → Completes .debugAckTimeout s fun t => ∃ u : State, t = u.finishWait .debugOpen .denied ∧ u.sec.debugOpen = s.sec.debugOpen ∧ u.sec.heldOpening = none ∧ ∃ o ∈ u.router.queue, o.id = evSecurity ∧ o.code = 4))) ∧
    (let closed := fun (u : State) => u.sec.debugOpen = [] ∧ u.sec.challenge = s.sec.challenge ∧ u.router.queue.length = s.router.queue.length + s.sec.debugOpen.length;
      (∀ m : Msg, s.admits 0x705 permitRL0 m = true → lenIs m 0 = true → Completes (.debugClose m) s (Answered 0x705 m .ok [] closed)) ∧
      (s.rst.alwaysOn = true → Completes (.debugPortAccess .close) s closed)) ∧
    (s.rst.alwaysOn = true → ∀ i : TapInstr,
      (s.sec.tapAllowed i = false → Completes (.debugPortAccess (.instruction i)) s fun t => t = { s with sec := { s.sec with tapRefused := true } }) ∧
      (s.sec.tapAllowed i = true → Completes (.debugPortAccess (.instruction i)) s fun t => t.sec.tap = i ∧ t.sec.tapRefused = false ∧ (i = .halt → t.sec.halted = true) ∧ (i = .run → t.sec.halted = false) ∧ t = { s with sec := t.sec }))

/-- A power-on or system reset empties ports, contexts, Facets, channels, mailbox, log, router and external memory, stops Phokel, and keeps fuses, boot record and stored secret. A system reset keeps Device Time, the travel count and history, the first domain and the strap, records its CAUSE and starts again at step 2; of two in one cycle the lower code is recorded, with one reset; in HOLD before SEAL_DONE it is deferred, the lower code first. A core reset changes none of the units, and records its CAUSE. A pulse from 1 us is accepted, one below 500 ns is not. A watchdog acts once it has expired, and not while the cluster is open to debug. A violation closes debug sessions and is kept for its event. No fuse is being written here: a reset waits for one. Below its OFF levels the chip is held until power-on. The choices of the model that it rests on are those of the assumption log, entries 65, 91, 119, 167, 181. (14_reset_and_boot.md R421, R422, R423, R425; 13_security.md R416; 17_electrical_and_package.md R481; 01_architecture.md R38; 04_travel_and_time.md R105) -/
def Obligations.ResetsActAtTheirLevels : Prop :=
  ∀ s : State, s.sec.fuses = none →
    let stored := fun (t : State) => t.sec.lifecycle = s.sec.lifecycle ∧ t.sec.ownerHash = s.sec.ownerHash ∧ t.sec.ownerRevoked = s.sec.ownerRevoked ∧ t.sec.rollback = s.sec.rollback ∧ t.sec.lastSeq = s.sec.lastSeq ∧
      t.sec.doorSecretStored = s.sec.doorSecretStored ∧ t.sec.active = s.sec.active ∧ t.sec.tryByte = s.sec.tryByte ∧ t.ring.logTail = s.ring.logTail ∧ t.variant = s.variant ∧ t.pending = s.pending
    let cleared := fun (t : State) => t.ports = State.reset.ports ∧ t.ctxs = State.reset.ctxs ∧ t.facets = State.reset.facets ∧ t.chans = State.reset.chans ∧ t.mail = State.reset.mail ∧ t.log = State.reset.log ∧
      t.router = State.reset.router ∧ t.extMem = State.reset.extMem ∧ t.host.up = false ∧ t.host.busMaster = false ∧ t.rst.phokel = false ∧ t.ledger.pstate = .run
    let power := fun (t : State) => stored t ∧ cleared t ∧ t.time = State.reset.time ∧ t.tu = State.reset.tu ∧ t.sec.debugOpen = []
    let system := fun (cause : Nat) (t : State) => stored t ∧ cleared t ∧ t.dt = s.dt ∧ t.tu.travel.tr = s.tu.travel.tr ∧ t.tu.travel.history = s.tu.travel.history ∧ t.rst.cause = BitVec.ofNat 8 cause ∧
      t.rst.released = s.rst.released &&& 1 ∧ t.rst.nextStep = 2 ∧ t.rst.alwaysOn = s.rst.alwaysOn ∧ t.rst.strapCode = s.rst.strapCode
    let core := fun (cause : Nat) (t : State) => t.rst.cause = BitVec.ofNat 8 cause ∧ t.rst.coreReset = true ∧ t.rst.bootState = .booting ∧ (∀ d, t.takes d = false) ∧ t.mail.inflight = s.mail.inflight ∧ t.ports = s.ports ∧ t.ctxs = s.ctxs ∧
      t.facets = s.facets ∧ t.chans = s.chans ∧ t.time = s.time ∧ t.tu = s.tu ∧ t.ring = s.ring ∧ t.extMem = s.extMem
    let shared := fun (i : Instr) (cause : Nat) => s.rst.off = false → s.rst.alwaysOn = true →
      ((s.ledger.pstate ≠ .hold ∨ s.ledger.sealDone = true) → s.rst.resetAt ≠ some s.now → Completes i s (system cause)) ∧
      ((s.ledger.pstate ≠ .hold ∨ s.ledger.sealDone = true) → s.rst.resetAt = some s.now → Completes i s fun t => t.rst = { s.rst with cause := BitVec.ofNat 8 (min s.rst.cause.toNat cause) } ∧ t.time = s.time ∧ t.ports = s.ports ∧ t.mail = s.mail) ∧
      (s.ledger.pstate = .hold → s.ledger.sealDone = false → Completes i s fun t => t.rst = { s.rst with deferredCause := some (match s.rst.deferredCause with | some c => min c cause | none => cause) } ∧
        t = { s with rst := t.rst, log := t.log, sec := t.sec })
    (∀ lowNs : Nat,
      (lowNs < 500 → Completes (.powerOnReset lowNs) s (fun t => t = s) ∧ Completes (.sysrstPin lowNs) s fun t => t = s) ∧
      (500 ≤ lowNs → lowNs < 1000 → Completes (.powerOnReset lowNs) s fun t => power t ∨ t = { s with freeCount := s.freeCount + 1 }) ∧
      (1000 ≤ lowNs → Completes (.powerOnReset lowNs) s fun t => power t ∧ t.rst = State.reset.rst) ∧
      (1000 ≤ lowNs → s.scanOpen = false →
        (s.rst.off = false → s.rst.alwaysOn = true → s.ledger.pstate ≠ .hold → s.rst.resetAt ≠ some s.now → Completes (.sysrstPin lowNs) s (system 0x02)) ∧ shared (.sysrstPin lowNs) 0x02)) ∧
    (∀ w, s.rst.mcWatch = some w → s.rst.phokel = true → s.rst.off = false →
      (w ≤ s.now → s.sec.debugOpen.contains 0 = false → Completes .mcWatchdog s (core 0x21)) ∧ ((s.now < w ∨ s.sec.debugOpen.contains 0 = true) → Completes .mcWatchdog s fun t => t = s)) ∧
    (∀ w, s.rst.sysWatch = some w →
      (w ≤ s.now → s.sec.debugOpen.contains 0 = false → s.rst.off = false → s.rst.alwaysOn = true → s.ledger.pstate ≠ .hold → s.rst.resetAt ≠ some s.now → Completes .sysWatchdog s (system 0x03)) ∧
      (w ≤ s.now → s.sec.debugOpen.contains 0 = false → shared .sysWatchdog 0x03) ∧ ((s.now < w ∨ s.sec.debugOpen.contains 0 = true) → Completes .sysWatchdog s fun t => t = s)) ∧
    (s.rst.phokel = true → s.rst.off = false → Completes .mcParity s fun t => core 0x23 t ∧ Raised s t evMc 1 0) ∧
    (∀ c : SecCause, 0x10 ≤ secCauseCode c ∧ secCauseCode c ≤ 0x14 ∧ shared (.securityViolation c) (secCauseCode c) ∧
      (s.rst.off = false → s.rst.alwaysOn = true → s.ledger.pstate ≠ .hold → s.rst.resetAt ≠ some s.now → Completes (.securityViolation c) s fun t => system (secCauseCode c) t ∧ t.sec.debugOpen = [] ∧ t.sec.challenge = none ∧ t.sec.violations = s.sec.violations ++ [secCauseCode c])) ∧
    (∀ aon vdd low : Nat,
      ((aon < 700 ∨ (vdd < 650 ∧ 1000 < low)) → Completes (.supplyOff aon vdd low) s fun t => power t ∧ t.rst = { State.reset.rst with off := true }) ∧
      (700 ≤ aon → (650 ≤ vdd ∨ low ≤ 1000) → Completes (.supplyOff aon vdd low) s fun t => t = s)) ∧
    (s.rst.off = true → Completes (.sysrstPin 1000) s (fun t => t = s) ∧ (∀ a, Completes (.alwaysOnUp a) s fun t => t = s) ∧ ∀ g r p, Completes (.domainRelease g r p) s fun t => t = s) ∧
    (∀ x, s.rst.off = false → s.rst.alwaysOn = true → s.ledger.pstate ≠ .hold → s.rst.resetAt ≠ some s.now → s.scanOpen = false →
      let busy : State := { s with sec := { s.sec with fuses := some x } }
      Completes (.sysrstPin 1000) busy fun t => t = { busy with rst := { s.rst with resetWaits := some (match s.rst.resetWaits with | some c => min c 2 | none => 2) } })

/-- Once the always-on domain is up, each release step, 256 reference periods after the one before has completed, sets its bit and is followed by the next; a step whose clock is not good is deferred with attention, and follows once it is. Step 1 reads the strap: a nominal resistor gives its code, none is invalid and gives 13. Step 4 starts the boot, or holds it for a strap without a boot source; a parity failure retries once, then fails. The boot ROM takes the good boot record copy with the higher SEQ and starts the chosen slot, or the other with fallback recorded, or fails with attention. Phokel starts with six measurements, their chain and both watchdogs; components that fail lead to the other slot. Opening the doors runs the block, restores commissioning except after a core reset, and unwraps the door secret only when its check holds. The choices of the model that it rests on are those of the assumption log, entries 50, 89, 168, 182. (14_reset_and_boot.md R427, R428, R430, R431, R432, R433, R435; 13_security.md R400, R402, R405, R406, R407; 12_mailbox_and_commands.md R370) -/
def Obligations.BootFollowsItsOrder : Prop :=
  ∀ s : State,
    (s.rst.off = false → s.rst.alwaysOn = false → ∀ a : BitVec 3, Completes (.alwaysOnUp a) s fun t => t.rst = { s.rst with alwaysOn := true, alwaysOnSince := s.now } ∧ t.board.addr = a ∧ t = { s with rst := t.rst, board := t.board } ∧ t.board.pattern = 0 ∧ (∀ n, (t.supply n).want = false ∧ (t.supply n).latched = false) ∧ t.board.attn = s.board.attn) ∧
    (s.rst.off = false → s.rst.alwaysOn = true → s.rst.stepWaits = false → 1 ≤ s.rst.nextStep → s.rst.nextStep ≤ 12 → (s.now < s.rst.stepAt → ∀ g r ok, Completes (.domainRelease g r ok) s fun t => t = s) ∧ (s.rst.stepAt ≤ s.now → ∀ (r : Option Nat) (ok : Bool),
      let freed := fun (t : State) => t.rst.released = s.rst.released ||| BitVec.ofNat 12 (2 ^ (s.rst.nextStep - 1)) ∧ t.rst.nextStep = s.rst.nextStep + 1 ∧ s.now + 2560 ≤ t.rst.stepAt ∧ t.rst.stepAt ≤ s.now + 2560 + lockMax ∧
        (s.rst.nextStep ≠ 2 → t.rst.stepAt = s.now + 2560) ∧ t.rst.deferred = s.rst.deferred ∧ t = { s with rst := t.rst, freeCount := t.freeCount }
      (Completes (.domainRelease false r ok) s fun t => t.rst = { s.rst with deferred := s.rst.deferred ||| BitVec.ofNat 12 (2 ^ (s.rst.nextStep - 1)), stepWaits := true } ∧ bit t.board.attn 39 = true ∧ t = { s with rst := t.rst, board := t.board }) ∧
      (s.rst.nextStep ≠ 1 → s.rst.nextStep ≠ 4 → Completes (.domainRelease true r ok) s fun t => freed t ∧ t.rst.strapCode = s.rst.strapCode) ∧
      (s.rst.nextStep = 1 → Completes (.domainRelease true r ok) s fun t => freed t ∧ (∀ k < 16, r = some (strapOhms.getD k 0) → t.rst.strapCode = k ∧ t.rst.strapInvalid = false) ∧ (r = none → t.rst.strapCode = 13 ∧ t.rst.strapInvalid = true)) ∧
      (s.rst.nextStep = 4 → s.rst.cause = 0x01 →
        Completes (.domainRelease true r true) s (fun t => freed t ∧ t.rst.bootState = if 13 ≤ s.rst.strapCode then .held else .booting) ∧
        (s.rst.optionRetried = false → Completes (.domainRelease true r false) s fun t => t = { s with rst := { s.rst with optionRetried := true } }) ∧
        (s.rst.optionRetried = true → Completes (.domainRelease true r false) s fun t => t.rst.bootState = .failOptions ∧ t.rst.released = s.rst.released ∧ bit t.board.attn 38 = true)))) ∧
    (s.rst.stepWaits = false → Completes (.clockGood none) s fun t => t = s) ∧
    (s.rst.stepWaits = true → s.rst.nextStep = 1 ∨ s.rst.nextStep = 4 → Completes (.clockGood none) s fun t => t = { s with rst := { s.rst with stepWaits := false } }) ∧
    (s.rst.stepWaits = true → s.rst.nextStep ≠ 1 → s.rst.nextStep ≠ 4 → Completes (.clockGood none) s fun t => t.rst.released = s.rst.released ||| BitVec.ofNat 12 (2 ^ (s.rst.nextStep - 1)) ∧
      t.rst.nextStep = s.rst.nextStep + 1 ∧ t.rst.stepWaits = false ∧ s.now + 2561 ≤ t.rst.stepAt ∧ t = { s with rst := t.rst, freeCount := t.freeCount }) ∧
    (∀ k i, s.rst.unitsWaiting.contains (k, i) = true → Completes (.clockGood (some (k, i))) s fun t => t.rst = { s.rst with unitsWaiting := s.rst.unitsWaiting.filter fun u => u != (k, i) } ∧
      ∀ (x : Inflight) (d : Nat), s.mail.inflight = [x] → x.wait = .unitReset k i d → t.mail.inflight = []) ∧
    (s.sec.halted = false → s.rst.bootState = .booting → s.rst.released.getLsbD 3 = true → s.sec.measLog = [] → ∀ f : FlashRead,
      let fails := fun (b : BootState) (t : State) => t.rst.bootState = b ∧ bit t.board.attn 38 = true ∧ t.rst.phokel = s.rst.phokel
      let boots := fun (k : Nat) (back : Bool) (t : State) => t.sec.booted = k ∧ t.sec.slotFallback = back ∧ t.sec.measLog.length = 4 ∧ t.rst = s.rst ∧ t = { s with sec := t.sec }
      let r := if f.recordA = true ∧ (f.recordB = false ∨ s.sec.bootB.seq ≤ s.sec.bootA.seq) then s.sec.bootA else s.sec.bootB
      let v : State := { s with sec := { s.sec with bootSeq := r.seq, active := r.active, tryByte := r.tryByte } }
      (f.recordA = false → f.recordB = false → Completes (.bootLoaderStart f) s (fails .failFlash)) ∧
      (f.recordA = true ∨ f.recordB = true → Completes (.bootLoaderStart f) s
        (if v.slotBoots f v.chosenSlot = true then boots v.chosenSlot false else if v.slotBoots f (1 - v.chosenSlot) = true then boots (1 - v.chosenSlot) true
          else if f.slotA = none ∨ f.slotB = none then fails .failFlash else fails .failSlots))) ∧
    (s.sec.halted = false → s.rst.bootState = .booting → s.sec.measLog.length = 4 → ∀ f : FlashRead, s.sec.bootFlash = some f →
      (∀ (h : List Byte) (ok : Bool), flashSlot f s.sec.booted = some (h, ok) → Completes (.phokelStart true) s fun t => t.rst = { s.rst with phokel := true, mcWatch := if s.sec.activation.isSome then s.rst.mcWatch else some (s.now + 500 * cyclesPerMs), sysWatch := some (s.rst.sysWatch.getD (s.now + 10 * cyclesPerS)) } ∧
        t.sec.measLog.length = 6 ∧ t.sec.measLog.take 5 = s.sec.measLog ++ [hdrM4 h] ∧ t.sec.chain = measChain t.sec.measLog) ∧
      (s.sec.slotFallback = true → Completes (.phokelStart false) s fun t => t.rst.bootState = (if f.slotA = none ∨ f.slotB = none then .failFlash else .failSlots) ∧ t.sec.measLog = []) ∧
      (s.sec.slotFallback = false → Completes (.phokelStart false) s fun t => if s.slotBoots f (1 - s.sec.booted) = true then t.sec.booted = 1 - s.sec.booted ∧ t.rst = s.rst else bit t.board.attn 38 = true)) ∧
    (s.sec.halted = false → s.rst.bootState = .booting → s.sec.measLog.length = 6 → ∀ r : Restored,
      Completes (.doorsOpen r) s fun t => t.rst.bootState = .running ∧ t.rst.coreReset = false ∧ bit t.board.attn 37 = true ∧
        (s.rst.coreReset = false → r.commission = true → ∀ dev rate cap, s.sec.commissionStored = some (dev, rate, cap) → t.ledger = { s.ledger with devSealMw := dev, sealRate := some rate, capMeasUf := cap, commissioned := true }) ∧
        (r.doorSecret = false ∨ s.sec.doorSecretStored = none → t.sec.doorSecret = none) ∧ t.sec.violations = [] ∧ (r.lastSeq = false → t.sec.lastSeq = [0, 0, 0, 0]) ∧
        (∀ w check, s.sec.doorSecretStored = some (w, check) → r.doorSecret = true → t.sec.doorSecret = if s.sec.lifecycle ≠ .retired ∧ doorCheck (xorBytes w doorWrap) = check then some (xorBytes w doorWrap) else none) ∧
        (s.rst.coreReset = true → t.mail.mcRestarts = min 0xFFFF (s.mail.mcRestarts + 1)))

/-- UNIT_DRAIN of an idle unit answers OK; a Facet that nothing is bound to is DRAINED at once; an Accord drains; a port is given 100 ms; an engine halts once nothing is in flight; a drive drains while its segment is open; a unit that may not drain answers STATE. UNIT_RESET of a unit that is not idle answers STATE; an idle one takes its registers' Reset values and IN_RESET and waits up to 1 ms for its clock. UNIT_READMIT of a unit not reset answers STATE; a Facet begins its test, an Accord is READMIT_PENDING, a port gets its supply, an engine waits for its launch, a drive rejoins. The test readmits or quarantines. A port that is DOWN with a bound context is power-cycled, once in 10 minutes. The choices of the model that it rests on are those of the assumption log, entries 55, 85, 94. (15_service_and_faults.md R449, R450, R451, R452, R453; 14_reset_and_boot.md R434, Table 14-7; 12_mailbox_and_commands.md R389) -/
def Obligations.UnitsAreServiced : Prop :=
  ∀ s : State,
    (∀ m : Msg, lenIs m 1 = true → zeroFld (m.w 0) 28 0 = true → unitArg s (unitKind m) (unitIndex m) = true →
      let k := unitKind m
      let i := unitIndex m
      (s.admits 0x800 permitR m = true → s.hasRoom m = true →
        (s.unitIdle k i = true → exec (.unitDrain m) s = .next (mailDone 0x800 m .ok [] s)) ∧
        (k = 1 → (s.facet i).state = .run → s.bound = [] → Completes (.unitDrain m) s (Answered 0x800 m .ok [] fun u => (u.facet i).state = .drained ∧ ∀ j, j ≠ i → u.facet j = s.facet j)) ∧
        (k = 2 → (s.accord i).state = .run → s.hasRoom m = true → Completes (.unitDrain m) s (Awaits s 0x800 m (.unitDrain 2 i) fun u => (u.accord i).state = .draining ∧ (∀ j, j ≠ i → u.accord j = s.accord j) ∧ u = { s with accords := u.accords })) ∧
        (k = 2 → (s.accord i).state ≠ .run → s.unitIdle 2 i = false → exec (.unitDrain m) s = .next (mailDone 0x800 m .state [] s)) ∧
        (k = 3 → s.unitIdle 3 i = false → (s.port i).inReset = false → (s.port i).drainBy = none → s.hasRoom m = true →
          Completes (.unitDrain m) s (Awaits s 0x800 m (.unitDrain 3 i) fun u => u.port i = { s.port i with drainBy := some (s.now + 100 * cyclesPerMs) } ∧ u = { s with ports := u.ports })) ∧
        (k = 4 → (s.engine i).halted = false → (s.engine i).inReset = false → (s.engine i).forcePending = false →
          ((∀ c < 32, (s.chan i c).inFlight = false) → (∀ r ∈ (s.engine i).readbacks, r.issued = false) → Completes (.unitDrain m) s (Answered 0x800 m .ok [] fun u => (u.engine i).halted = true ∧ (u.engine i).cause = 6)) ∧
          ((∃ c < 32, (s.chan i c).inFlight = true) → s.hasRoom m = true → Completes (.unitDrain m) s (Awaits s 0x800 m (.unitDrain 4 i) fun u => u.engine i = { s.engine i with forcePending := true } ∧ u.chans = s.chans))) ∧
        (k = 5 → (s.ring.drive i).state = .member → (s.ring.drive i).drained = false → (∃ g ∈ s.ring.segments, g.drive = i ∧ g.sealed = false) → s.hasRoom m = true →
          Completes (.unitDrain m) s (Awaits s 0x800 m (.unitDrain 5 i) fun u => u.ring.drive i = { s.ring.drive i with drained := true } ∧ u = { s with ring := u.ring }))) ∧
      (s.admits 0x801 permitR m = true →
        (s.unitIdle k i = false → exec (.unitReset m) s = .next (mailDone 0x801 m .state [] s)) ∧
        (s.unitIdle k i = true → s.hasRoom m = true → Completes (.unitReset m) s (Awaits s 0x801 m (.unitReset k i (s.now + cyclesPerMs)) fun u => u.rst = { s.rst with unitsWaiting := s.rst.unitsWaiting ++ [(k, i)] } ∧
          (k = 1 → u.facet i = { Facet.reset i with state := .inReset } ∧ ∀ j, j ≠ i → u.facet j = s.facet j) ∧ (k = 2 → (u.accord i).state = .inReset ∧ ∀ j, j ≠ i → u.accord j = s.accord j) ∧
          (k = 3 → s.portCtxs i = [] → (u.port i).inReset = true ∧ (u.port i).state = .off ∧ ∀ j ∉ s.members? i, u.port j = s.port j) ∧
          (k = 4 → (u.engine i).inReset = true ∧ (u.engine i).halted = true ∧ ∀ j, j ≠ i → u.engine j = s.engine j) ∧
          (k = 5 → u.ring.drive i = { Drive.reset i with state := .init, inReset := true, labelA := (s.ring.drive i).labelA, labelB := (s.ring.drive i).labelB, labelNext := (s.ring.drive i).labelNext } ∧ ∀ j, j ≠ i → u.ring.drive j = s.ring.drive j))))) ∧
    (∀ m : Msg, s.admits 0x802 permitR m = true → lenIs m 2 = true → zeroFld (m.w 0) 27 0 = true → zeroFld (m.w 1) 35 0 = true → unitArg s (unitKind m) (unitIndex m) = true →
      let k := unitKind m
      let i := unitIndex m
      (s.unitReset? k i = false → exec (.unitReadmit m) s = .next (mailDone 0x802 m .state [] s)) ∧
      (s.unitReset? k i = true → s.hasRoom m = true →
        (k = 1 → Completes (.unitReadmit m) s (Awaits s 0x802 m (.unitReadmit 1 i) fun u => u.facet i = { s.facet i with testEnd := some (s.now + 5 * cyclesPerMs / 2) } ∧ u = { s with facets := u.facets })) ∧
        (k = 2 → bit (m.w 0) 28 = false → Completes (.unitReadmit m) s (Awaits s 0x802 m (.unitReadmit 2 i) fun u => u.accord i = { s.accord i with state := .readmitPending } ∧ u = { s with accords := u.accords })) ∧
        (k = 3 → Completes (.unitReadmit m) s (Awaits s 0x802 m (.unitReadmit 3 i) fun u => (∀ j ∈ s.group i, (u.supply j).want = true) ∧ (∀ j ∉ s.group i, u.supply j = s.supply j))) ∧
        (k = 4 → bit (m.w 0) 28 = false → Completes (.unitReadmit m) s (Awaits s 0x802 m (.unitReadmit 4 i) fun u => u = s)) ∧
        (k = 5 → (s.ring.drive i).state = .spare → s.ring.formatted = false → Completes (.unitReadmit m) s (Answered 0x802 m .ok [] fun u => u.ring.drive i = { s.ring.drive i with inReset := false } ∧ u = { s with ring := u.ring, log := u.log })) ∧
        (k = 5 → (s.ring.drive i).state ≠ .spare → (s.ring.drive i).info = none → s.ring.joining = none → Completes (.unitReadmit m) s (Awaits s 0x802 m (.unitReadmit 5 i) fun u => u = { s with ring := { s.ring with joining := some i } })))) ∧
    (∀ f e, f < s.variant.facets → (s.facet f).testEnd = some e →
      (s.now < e → ∀ pass, Completes (.lineMemoryTestEnd f pass) s fun t => t = s) ∧
      (e ≤ s.now → s.ownsLaunch 1 f = false → Completes (.lineMemoryTestEnd f true) s fun t => t.facet f = { s.facet f with state := .readmitPending, launched := false, testEnd := none } ∧ t = { s with facets := t.facets }) ∧
      (e ≤ s.now → Completes (.lineMemoryTestEnd f false) s fun t => ∃ u : State, t = u.finishWait (.unitReadmit 1 f) .fault ∧ u.facet f = { s.facet f with state := .quarantined, testEnd := none } ∧ u = { s with facets := u.facets, log := u.log })) ∧
    (∀ n, n < s.variant.ports → (s.port n).state = .down → (s.port n).bondPos = 0 → s.portCtxs n ≠ [] → s.powerBusy n = false → (s.port n).inReset = false → (s.port n).drainBy = none → s.phokelStops = false → s.ledger.pstate = .run →
      ((∀ r, (s.port n).recovered = some r → r + 600 * cyclesPerS ≤ s.now) → Completes (.portRecovery n) s fun t => (t.port n).recovered = some s.now ∧ (t.port n).cycleEnd = some (s.now + 200 * cyclesPerMs) ∧ (∀ j ∈ s.group n, (t.supply j).want = false)) ∧
      (∀ r, (s.port n).recovered = some r → s.now < r + 600 * cyclesPerS → Completes (.portRecovery n) s fun t => t = s))
end

