-- ==== Sys2Proof/Laws/Bank.lean ====
section
/-! SUPPORT. Banks and external memory: reading after writing, and the canonical form. -/
namespace Sys2Proof.Machine

theorem bankGet_cons {α : Type} (d : Nat → α) (a : Nat) (x : α) (r : List (Nat × α)) (j : Nat) :
    bankGet d ((a, x) :: r) j = if a = j then x else bankGet d r j := rfl

theorem bankGet_bankPut {α : Type} (d : Nat → α) (k j : Nat) (v : α) (b : List (Nat × α)) :
    bankGet d (bankPut k v b) j = if j = k then v else bankGet d b j := by
  induction b with
  | nil => by_cases h : j = k
           · subst h; simp [bankPut, bankGet]
           · rw [if_neg h]; simp [bankPut, bankGet, Ne.symm h]
  | cons e r ih =>
    obtain ⟨a, x⟩ := e
    by_cases h : j = k
    · subst h
      rw [if_pos rfl] at ih ⊢
      unfold bankPut
      split
      · rw [bankGet_cons, if_pos rfl]
      · split
        · rw [bankGet_cons, if_pos rfl]
        · rw [bankGet_cons, if_neg (by omega)]; exact ih
    · rw [if_neg h] at ih ⊢
      unfold bankPut
      split
      · rw [bankGet_cons, if_neg (by omega)]
      · split
        · rw [bankGet_cons, if_neg (by omega), bankGet_cons, if_neg (by omega)]
        · rw [bankGet_cons, bankGet_cons, ih]

theorem bankGet_bankDel {α : Type} (d : Nat → α) (k j : Nat) (b : List (Nat × α)) :
    bankGet d (bankDel k b) j = if j = k then d k else bankGet d b j := by
  induction b with
  | nil => by_cases h : j = k
           · subst h; rw [if_pos rfl]; rfl
           · rw [if_neg h]; rfl
  | cons e r ih =>
    obtain ⟨a, x⟩ := e
    by_cases h : j = k
    · subst h
      rw [if_pos rfl] at ih ⊢
      unfold bankDel
      split
      · exact ih
      · rw [bankGet_cons, if_neg (by omega)]; exact ih
    · rw [if_neg h] at ih ⊢
      unfold bankDel
      split
      · rw [ih, bankGet_cons, if_neg (by omega)]
      · rw [bankGet_cons, bankGet_cons, ih]

/-- A bank reads back what was written, and every other number as before. -/
@[simp] theorem bankGet_bankSet {α : Type} [DecidableEq α] (d : Nat → α) (k j : Nat) (v : α) (b : List (Nat × α)) :
    bankGet d (bankSet d b k v) j = if j = k then v else bankGet d b j := by
  unfold bankSet
  split
  · rename_i h; rw [bankGet_bankDel, h]
  · exact bankGet_bankPut d k j v b

theorem bankWf_mono {α : Type} [DecidableEq α] (d : Nat → α) {lo hi : Nat} (h : lo ≤ hi) (b : List (Nat × α))
    (w : bankWf d hi b = true) : bankWf d lo b = true := by
  cases b with
  | nil => rfl
  | cons e r =>
    simp only [bankWf, Bool.and_eq_true, decide_eq_true_eq] at *
    exact ⟨⟨by omega, w.1.2⟩, w.2⟩

theorem bankWf_bankPut {α : Type} [DecidableEq α] (d : Nat → α) (k : Nat) (v : α) (hv : v ≠ d k) :
    ∀ (b : List (Nat × α)) (lo : Nat), lo ≤ k → bankWf d lo b = true → bankWf d lo (bankPut k v b) = true
  | [], lo, hl, _ => by simp [bankPut, bankWf, hl, hv]
  | (a, x) :: r, lo, hl, h => by
    simp only [bankWf, Bool.and_eq_true, decide_eq_true_eq] at h
    unfold bankPut
    split
    · simp only [bankWf, Bool.and_eq_true, decide_eq_true_eq]
      exact ⟨⟨hl, hv⟩, ⟨by omega, h.1.2⟩, h.2⟩
    · split
      · rename_i e
        subst e
        simp only [bankWf, Bool.and_eq_true, decide_eq_true_eq]
        exact ⟨⟨hl, hv⟩, h.2⟩
      · simp only [bankWf, Bool.and_eq_true, decide_eq_true_eq]
        exact ⟨h.1, bankWf_bankPut d k v hv r (a + 1) (by omega) h.2⟩

theorem bankWf_bankDel {α : Type} [DecidableEq α] (d : Nat → α) (k : Nat) :
    ∀ (b : List (Nat × α)) (lo : Nat), bankWf d lo b = true → bankWf d lo (bankDel k b) = true
  | [], _, _ => rfl
  | (a, x) :: r, lo, h => by
    simp only [bankWf, Bool.and_eq_true, decide_eq_true_eq] at h
    unfold bankDel
    split
    · exact bankWf_bankDel d k r lo (bankWf_mono d (by omega) r h.2)
    · simp only [bankWf, Bool.and_eq_true, decide_eq_true_eq]
      exact ⟨h.1, bankWf_bankDel d k r (a + 1) h.2⟩

/-- Writing a bank keeps its canonical form. -/
theorem bankWf_bankSet {α : Type} [DecidableEq α] (d : Nat → α) (b : List (Nat × α)) (k : Nat) (v : α) (h : bankWf d 0 b = true) :
    bankWf d 0 (bankSet d b k v) = true := by
  unfold bankSet
  split
  · exact bankWf_bankDel d k b 0 h
  · rename_i hv
    exact bankWf_bankPut d k v hv b 0 (Nat.zero_le k) h

/-! External memory. -/

/-- A word written reads back, and every other word reads as before. -/
@[simp] theorem memRead_memWrite (m : List (Nat × Word)) (a b : Nat) (w : Word) : memRead (memWrite m a w) b = if b = a then w else memRead m b := by
  unfold memRead memWrite; exact bankGet_bankSet _ a b w m

/-- Words before a run of words that is written read as before. -/
theorem memRead_memWrites_below (ws : List Word) : ∀ (m : List (Nat × Word)) (a b : Nat), b < a → memRead (memWrites m a ws) b = memRead m b := by
  induction ws with
  | nil => intro m a b _; rfl
  | cons w r ih =>
    intro m a b h
    rw [memWrites, ih _ _ _ (by omega), memRead_memWrite, if_neg (by omega)]

/-- Words past a run of words that is written read as before. -/
theorem memRead_memWrites_above (ws : List Word) : ∀ (m : List (Nat × Word)) (a b : Nat), a + ws.length ≤ b → memRead (memWrites m a ws) b = memRead m b := by
  induction ws with
  | nil => intro m a b _; rfl
  | cons w r ih =>
    intro m a b h
    simp only [List.length_cons] at h
    rw [memWrites, ih _ _ _ (by omega), memRead_memWrite, if_neg (by omega)]

theorem memoryWf_memWrite (m : List (Nat × Word)) (a : Nat) (w : Word) (h : Memory.wf m = true) : Memory.wf (memWrite m a w) = true :=
  bankWf_bankSet _ m a w h

/-- Every operation that writes external memory keeps its canonical form. -/
theorem memoryWf_memWrites (ws : List Word) : ∀ (m : List (Nat × Word)) (a : Nat), Memory.wf m = true → Memory.wf (memWrites m a ws) = true := by
  induction ws with
  | nil => intro m a h; exact h
  | cons w r ih => intro m a h; exact ih _ _ (memoryWf_memWrite m a w h)

theorem memoryWf_fold (f : Nat → Nat) (g : Nat → Word) (l : List Nat) :
    ∀ (m : List (Nat × Word)), Memory.wf m = true → Memory.wf (l.foldl (fun (m : List (Nat × Word)) i => memWrite m (f i) (g i)) m) = true := by
  induction l with
  | nil => intro m h; exact h
  | cons i r ih => intro m h; exact ih _ (memoryWf_memWrite m (f i) (g i) h)

/-- The memory after reset has the canonical form. -/
theorem memoryWf_reset : Memory.wf State.reset.extMem = true := rfl

end Sys2Proof.Machine
end

