-- ==== Sys2Proof/Laws/State.lean ====
section
/-! SUPPORT. What each update of one unit or one record leaves: the unit itself, every other unit of its kind, and every other field of State. -/
namespace Sys2Proof.Machine

/-! State.setPort. -/

@[simp] theorem State.setPort_port (s : State) (n : Nat) (x : Port) (j : Nat) : (s.setPort n x).port j = if j = n then x else s.port j := bankGet_bankSet _ _ _ _ _
@[simp] theorem State.setPort_variant (s : State) (n : Nat) (x : Port) : (s.setPort n x).variant = s.variant := rfl
@[simp] theorem State.setPort_time (s : State) (n : Nat) (x : Port) : (s.setPort n x).time = s.time := rfl
@[simp] theorem State.setPort_tu (s : State) (n : Nat) (x : Port) : (s.setPort n x).tu = s.tu := rfl
@[simp] theorem State.setPort_ctxs (s : State) (n : Nat) (x : Port) : (s.setPort n x).ctxs = s.ctxs := rfl
@[simp] theorem State.setPort_facets (s : State) (n : Nat) (x : Port) : (s.setPort n x).facets = s.facets := rfl
@[simp] theorem State.setPort_accords (s : State) (n : Nat) (x : Port) : (s.setPort n x).accords = s.accords := rfl
@[simp] theorem State.setPort_checks (s : State) (n : Nat) (x : Port) : (s.setPort n x).checks = s.checks := rfl
@[simp] theorem State.setPort_service (s : State) (n : Nat) (x : Port) : (s.setPort n x).service = s.service := rfl
@[simp] theorem State.setPort_bb (s : State) (n : Nat) (x : Port) : (s.setPort n x).bb = s.bb := rfl
@[simp] theorem State.setPort_ring (s : State) (n : Nat) (x : Port) : (s.setPort n x).ring = s.ring := rfl
@[simp] theorem State.setPort_ledger (s : State) (n : Nat) (x : Port) : (s.setPort n x).ledger = s.ledger := rfl
@[simp] theorem State.setPort_board (s : State) (n : Nat) (x : Port) : (s.setPort n x).board = s.board := rfl
@[simp] theorem State.setPort_sec (s : State) (n : Nat) (x : Port) : (s.setPort n x).sec = s.sec := rfl
@[simp] theorem State.setPort_rst (s : State) (n : Nat) (x : Port) : (s.setPort n x).rst = s.rst := rfl
@[simp] theorem State.setPort_host (s : State) (n : Nat) (x : Port) : (s.setPort n x).host = s.host := rfl
@[simp] theorem State.setPort_engines (s : State) (n : Nat) (x : Port) : (s.setPort n x).engines = s.engines := rfl
@[simp] theorem State.setPort_chans (s : State) (n : Nat) (x : Port) : (s.setPort n x).chans = s.chans := rfl
@[simp] theorem State.setPort_router (s : State) (n : Nat) (x : Port) : (s.setPort n x).router = s.router := rfl
@[simp] theorem State.setPort_log (s : State) (n : Nat) (x : Port) : (s.setPort n x).log = s.log := rfl
@[simp] theorem State.setPort_mail (s : State) (n : Nat) (x : Port) : (s.setPort n x).mail = s.mail := rfl
@[simp] theorem State.setPort_extMem (s : State) (n : Nat) (x : Port) : (s.setPort n x).extMem = s.extMem := rfl
@[simp] theorem State.setPort_errors (s : State) (n : Nat) (x : Port) : (s.setPort n x).errors = s.errors := rfl
@[simp] theorem State.setPort_freeCount (s : State) (n : Nat) (x : Port) : (s.setPort n x).freeCount = s.freeCount := rfl
@[simp] theorem State.setPort_pending (s : State) (n : Nat) (x : Port) : (s.setPort n x).pending = s.pending := rfl
@[simp] theorem State.setPort_ctx (s : State) (n : Nat) (x : Port) (j : Nat) : (s.setPort n x).ctx j = s.ctx j := rfl
@[simp] theorem State.setPort_facet (s : State) (n : Nat) (x : Port) (j : Nat) : (s.setPort n x).facet j = s.facet j := rfl
@[simp] theorem State.setPort_accord (s : State) (n : Nat) (x : Port) (j : Nat) : (s.setPort n x).accord j = s.accord j := rfl
@[simp] theorem State.setPort_check (s : State) (n : Nat) (x : Port) (j : Nat) : (s.setPort n x).check j = s.check j := rfl
@[simp] theorem State.setPort_bbp (s : State) (n : Nat) (x : Port) (j : Nat) : (s.setPort n x).bbp j = s.bbp j := rfl
@[simp] theorem State.setPort_stream (s : State) (n : Nat) (x : Port) (j : Nat) : (s.setPort n x).stream j = s.stream j := rfl
@[simp] theorem State.setPort_axis (s : State) (n : Nat) (x : Port) (j : Nat) : (s.setPort n x).axis j = s.axis j := rfl
@[simp] theorem State.setPort_mark (s : State) (n : Nat) (x : Port) (j : Nat) : (s.setPort n x).mark j = s.mark j := rfl
@[simp] theorem State.setPort_gate (s : State) (n : Nat) (x : Port) (j : Nat) : (s.setPort n x).gate j = s.gate j := rfl
@[simp] theorem State.setPort_cue (s : State) (n : Nat) (x : Port) (j : Nat) : (s.setPort n x).cue j = s.cue j := rfl
@[simp] theorem State.setPort_strobe (s : State) (n : Nat) (x : Port) (j : Nat) : (s.setPort n x).strobe j = s.strobe j := rfl
@[simp] theorem State.setPort_epochSet (s : State) (n : Nat) (x : Port) (j : Nat) : (s.setPort n x).epochSet j = s.epochSet j := rfl
@[simp] theorem State.setPort_engine (s : State) (n : Nat) (x : Port) (j : Nat) : (s.setPort n x).engine j = s.engine j := rfl
@[simp] theorem State.setPort_vector (s : State) (n : Nat) (x : Port) (j : Nat) : (s.setPort n x).vector j = s.vector j := rfl
@[simp] theorem State.setPort_gpio (s : State) (n : Nat) (x : Port) (j : Nat) : (s.setPort n x).gpio j = s.gpio j := rfl
@[simp] theorem State.setPort_supply (s : State) (n : Nat) (x : Port) (j : Nat) : (s.setPort n x).supply j = s.supply j := rfl
@[simp] theorem State.setPort_chan (s : State) (n : Nat) (x : Port) (j l : Nat) : (s.setPort n x).chan j l = s.chan j l := rfl
@[simp] theorem State.setPort_note (s : State) (n : Nat) (x : Port) (j l : Nat) : (s.setPort n x).note j l = s.note j l := rfl

/-! State.setCtx. -/

@[simp] theorem State.setCtx_ctx (s : State) (c : Nat) (x : Context) (j : Nat) : (s.setCtx c x).ctx j = if j = c then x else s.ctx j := bankGet_bankSet _ _ _ _ _
@[simp] theorem State.setCtx_variant (s : State) (c : Nat) (x : Context) : (s.setCtx c x).variant = s.variant := rfl
@[simp] theorem State.setCtx_time (s : State) (c : Nat) (x : Context) : (s.setCtx c x).time = s.time := rfl
@[simp] theorem State.setCtx_tu (s : State) (c : Nat) (x : Context) : (s.setCtx c x).tu = s.tu := rfl
@[simp] theorem State.setCtx_ports (s : State) (c : Nat) (x : Context) : (s.setCtx c x).ports = s.ports := rfl
@[simp] theorem State.setCtx_facets (s : State) (c : Nat) (x : Context) : (s.setCtx c x).facets = s.facets := rfl
@[simp] theorem State.setCtx_accords (s : State) (c : Nat) (x : Context) : (s.setCtx c x).accords = s.accords := rfl
@[simp] theorem State.setCtx_checks (s : State) (c : Nat) (x : Context) : (s.setCtx c x).checks = s.checks := rfl
@[simp] theorem State.setCtx_service (s : State) (c : Nat) (x : Context) : (s.setCtx c x).service = s.service := rfl
@[simp] theorem State.setCtx_bb (s : State) (c : Nat) (x : Context) : (s.setCtx c x).bb = s.bb := rfl
@[simp] theorem State.setCtx_ring (s : State) (c : Nat) (x : Context) : (s.setCtx c x).ring = s.ring := rfl
@[simp] theorem State.setCtx_ledger (s : State) (c : Nat) (x : Context) : (s.setCtx c x).ledger = s.ledger := rfl
@[simp] theorem State.setCtx_board (s : State) (c : Nat) (x : Context) : (s.setCtx c x).board = s.board := rfl
@[simp] theorem State.setCtx_sec (s : State) (c : Nat) (x : Context) : (s.setCtx c x).sec = s.sec := rfl
@[simp] theorem State.setCtx_rst (s : State) (c : Nat) (x : Context) : (s.setCtx c x).rst = s.rst := rfl
@[simp] theorem State.setCtx_host (s : State) (c : Nat) (x : Context) : (s.setCtx c x).host = s.host := rfl
@[simp] theorem State.setCtx_engines (s : State) (c : Nat) (x : Context) : (s.setCtx c x).engines = s.engines := rfl
@[simp] theorem State.setCtx_chans (s : State) (c : Nat) (x : Context) : (s.setCtx c x).chans = s.chans := rfl
@[simp] theorem State.setCtx_router (s : State) (c : Nat) (x : Context) : (s.setCtx c x).router = s.router := rfl
@[simp] theorem State.setCtx_log (s : State) (c : Nat) (x : Context) : (s.setCtx c x).log = s.log := rfl
@[simp] theorem State.setCtx_mail (s : State) (c : Nat) (x : Context) : (s.setCtx c x).mail = s.mail := rfl
@[simp] theorem State.setCtx_extMem (s : State) (c : Nat) (x : Context) : (s.setCtx c x).extMem = s.extMem := rfl
@[simp] theorem State.setCtx_errors (s : State) (c : Nat) (x : Context) : (s.setCtx c x).errors = s.errors := rfl
@[simp] theorem State.setCtx_freeCount (s : State) (c : Nat) (x : Context) : (s.setCtx c x).freeCount = s.freeCount := rfl
@[simp] theorem State.setCtx_pending (s : State) (c : Nat) (x : Context) : (s.setCtx c x).pending = s.pending := rfl
@[simp] theorem State.setCtx_port (s : State) (c : Nat) (x : Context) (j : Nat) : (s.setCtx c x).port j = s.port j := rfl
@[simp] theorem State.setCtx_facet (s : State) (c : Nat) (x : Context) (j : Nat) : (s.setCtx c x).facet j = s.facet j := rfl
@[simp] theorem State.setCtx_accord (s : State) (c : Nat) (x : Context) (j : Nat) : (s.setCtx c x).accord j = s.accord j := rfl
@[simp] theorem State.setCtx_check (s : State) (c : Nat) (x : Context) (j : Nat) : (s.setCtx c x).check j = s.check j := rfl
@[simp] theorem State.setCtx_bbp (s : State) (c : Nat) (x : Context) (j : Nat) : (s.setCtx c x).bbp j = s.bbp j := rfl
@[simp] theorem State.setCtx_stream (s : State) (c : Nat) (x : Context) (j : Nat) : (s.setCtx c x).stream j = s.stream j := rfl
@[simp] theorem State.setCtx_axis (s : State) (c : Nat) (x : Context) (j : Nat) : (s.setCtx c x).axis j = s.axis j := rfl
@[simp] theorem State.setCtx_mark (s : State) (c : Nat) (x : Context) (j : Nat) : (s.setCtx c x).mark j = s.mark j := rfl
@[simp] theorem State.setCtx_gate (s : State) (c : Nat) (x : Context) (j : Nat) : (s.setCtx c x).gate j = s.gate j := rfl
@[simp] theorem State.setCtx_cue (s : State) (c : Nat) (x : Context) (j : Nat) : (s.setCtx c x).cue j = s.cue j := rfl
@[simp] theorem State.setCtx_strobe (s : State) (c : Nat) (x : Context) (j : Nat) : (s.setCtx c x).strobe j = s.strobe j := rfl
@[simp] theorem State.setCtx_epochSet (s : State) (c : Nat) (x : Context) (j : Nat) : (s.setCtx c x).epochSet j = s.epochSet j := rfl
@[simp] theorem State.setCtx_engine (s : State) (c : Nat) (x : Context) (j : Nat) : (s.setCtx c x).engine j = s.engine j := rfl
@[simp] theorem State.setCtx_vector (s : State) (c : Nat) (x : Context) (j : Nat) : (s.setCtx c x).vector j = s.vector j := rfl
@[simp] theorem State.setCtx_gpio (s : State) (c : Nat) (x : Context) (j : Nat) : (s.setCtx c x).gpio j = s.gpio j := rfl
@[simp] theorem State.setCtx_supply (s : State) (c : Nat) (x : Context) (j : Nat) : (s.setCtx c x).supply j = s.supply j := rfl
@[simp] theorem State.setCtx_chan (s : State) (c : Nat) (x : Context) (j l : Nat) : (s.setCtx c x).chan j l = s.chan j l := rfl
@[simp] theorem State.setCtx_note (s : State) (c : Nat) (x : Context) (j l : Nat) : (s.setCtx c x).note j l = s.note j l := rfl

/-! State.setFacet. -/

@[simp] theorem State.setFacet_facet (s : State) (k : Nat) (x : Facet) (j : Nat) : (s.setFacet k x).facet j = if j = k then x else s.facet j := bankGet_bankSet _ _ _ _ _
@[simp] theorem State.setFacet_variant (s : State) (k : Nat) (x : Facet) : (s.setFacet k x).variant = s.variant := rfl
@[simp] theorem State.setFacet_time (s : State) (k : Nat) (x : Facet) : (s.setFacet k x).time = s.time := rfl
@[simp] theorem State.setFacet_tu (s : State) (k : Nat) (x : Facet) : (s.setFacet k x).tu = s.tu := rfl
@[simp] theorem State.setFacet_ports (s : State) (k : Nat) (x : Facet) : (s.setFacet k x).ports = s.ports := rfl
@[simp] theorem State.setFacet_ctxs (s : State) (k : Nat) (x : Facet) : (s.setFacet k x).ctxs = s.ctxs := rfl
@[simp] theorem State.setFacet_accords (s : State) (k : Nat) (x : Facet) : (s.setFacet k x).accords = s.accords := rfl
@[simp] theorem State.setFacet_checks (s : State) (k : Nat) (x : Facet) : (s.setFacet k x).checks = s.checks := rfl
@[simp] theorem State.setFacet_service (s : State) (k : Nat) (x : Facet) : (s.setFacet k x).service = s.service := rfl
@[simp] theorem State.setFacet_bb (s : State) (k : Nat) (x : Facet) : (s.setFacet k x).bb = s.bb := rfl
@[simp] theorem State.setFacet_ring (s : State) (k : Nat) (x : Facet) : (s.setFacet k x).ring = s.ring := rfl
@[simp] theorem State.setFacet_ledger (s : State) (k : Nat) (x : Facet) : (s.setFacet k x).ledger = s.ledger := rfl
@[simp] theorem State.setFacet_board (s : State) (k : Nat) (x : Facet) : (s.setFacet k x).board = s.board := rfl
@[simp] theorem State.setFacet_sec (s : State) (k : Nat) (x : Facet) : (s.setFacet k x).sec = s.sec := rfl
@[simp] theorem State.setFacet_rst (s : State) (k : Nat) (x : Facet) : (s.setFacet k x).rst = s.rst := rfl
@[simp] theorem State.setFacet_host (s : State) (k : Nat) (x : Facet) : (s.setFacet k x).host = s.host := rfl
@[simp] theorem State.setFacet_engines (s : State) (k : Nat) (x : Facet) : (s.setFacet k x).engines = s.engines := rfl
@[simp] theorem State.setFacet_chans (s : State) (k : Nat) (x : Facet) : (s.setFacet k x).chans = s.chans := rfl
@[simp] theorem State.setFacet_router (s : State) (k : Nat) (x : Facet) : (s.setFacet k x).router = s.router := rfl
@[simp] theorem State.setFacet_log (s : State) (k : Nat) (x : Facet) : (s.setFacet k x).log = s.log := rfl
@[simp] theorem State.setFacet_mail (s : State) (k : Nat) (x : Facet) : (s.setFacet k x).mail = s.mail := rfl
@[simp] theorem State.setFacet_extMem (s : State) (k : Nat) (x : Facet) : (s.setFacet k x).extMem = s.extMem := rfl
@[simp] theorem State.setFacet_errors (s : State) (k : Nat) (x : Facet) : (s.setFacet k x).errors = s.errors := rfl
@[simp] theorem State.setFacet_freeCount (s : State) (k : Nat) (x : Facet) : (s.setFacet k x).freeCount = s.freeCount := rfl
@[simp] theorem State.setFacet_pending (s : State) (k : Nat) (x : Facet) : (s.setFacet k x).pending = s.pending := rfl
@[simp] theorem State.setFacet_port (s : State) (k : Nat) (x : Facet) (j : Nat) : (s.setFacet k x).port j = s.port j := rfl
@[simp] theorem State.setFacet_ctx (s : State) (k : Nat) (x : Facet) (j : Nat) : (s.setFacet k x).ctx j = s.ctx j := rfl
@[simp] theorem State.setFacet_accord (s : State) (k : Nat) (x : Facet) (j : Nat) : (s.setFacet k x).accord j = s.accord j := rfl
@[simp] theorem State.setFacet_check (s : State) (k : Nat) (x : Facet) (j : Nat) : (s.setFacet k x).check j = s.check j := rfl
@[simp] theorem State.setFacet_bbp (s : State) (k : Nat) (x : Facet) (j : Nat) : (s.setFacet k x).bbp j = s.bbp j := rfl
@[simp] theorem State.setFacet_stream (s : State) (k : Nat) (x : Facet) (j : Nat) : (s.setFacet k x).stream j = s.stream j := rfl
@[simp] theorem State.setFacet_axis (s : State) (k : Nat) (x : Facet) (j : Nat) : (s.setFacet k x).axis j = s.axis j := rfl
@[simp] theorem State.setFacet_mark (s : State) (k : Nat) (x : Facet) (j : Nat) : (s.setFacet k x).mark j = s.mark j := rfl
@[simp] theorem State.setFacet_gate (s : State) (k : Nat) (x : Facet) (j : Nat) : (s.setFacet k x).gate j = s.gate j := rfl
@[simp] theorem State.setFacet_cue (s : State) (k : Nat) (x : Facet) (j : Nat) : (s.setFacet k x).cue j = s.cue j := rfl
@[simp] theorem State.setFacet_strobe (s : State) (k : Nat) (x : Facet) (j : Nat) : (s.setFacet k x).strobe j = s.strobe j := rfl
@[simp] theorem State.setFacet_epochSet (s : State) (k : Nat) (x : Facet) (j : Nat) : (s.setFacet k x).epochSet j = s.epochSet j := rfl
@[simp] theorem State.setFacet_engine (s : State) (k : Nat) (x : Facet) (j : Nat) : (s.setFacet k x).engine j = s.engine j := rfl
@[simp] theorem State.setFacet_vector (s : State) (k : Nat) (x : Facet) (j : Nat) : (s.setFacet k x).vector j = s.vector j := rfl
@[simp] theorem State.setFacet_gpio (s : State) (k : Nat) (x : Facet) (j : Nat) : (s.setFacet k x).gpio j = s.gpio j := rfl
@[simp] theorem State.setFacet_supply (s : State) (k : Nat) (x : Facet) (j : Nat) : (s.setFacet k x).supply j = s.supply j := rfl
@[simp] theorem State.setFacet_chan (s : State) (k : Nat) (x : Facet) (j l : Nat) : (s.setFacet k x).chan j l = s.chan j l := rfl
@[simp] theorem State.setFacet_note (s : State) (k : Nat) (x : Facet) (j l : Nat) : (s.setFacet k x).note j l = s.note j l := rfl

/-! State.setAccord. -/

@[simp] theorem State.setAccord_accord (s : State) (a : Nat) (x : Accord) (j : Nat) : (s.setAccord a x).accord j = if j = a then x else s.accord j := bankGet_bankSet _ _ _ _ _
@[simp] theorem State.setAccord_variant (s : State) (a : Nat) (x : Accord) : (s.setAccord a x).variant = s.variant := rfl
@[simp] theorem State.setAccord_time (s : State) (a : Nat) (x : Accord) : (s.setAccord a x).time = s.time := rfl
@[simp] theorem State.setAccord_tu (s : State) (a : Nat) (x : Accord) : (s.setAccord a x).tu = s.tu := rfl
@[simp] theorem State.setAccord_ports (s : State) (a : Nat) (x : Accord) : (s.setAccord a x).ports = s.ports := rfl
@[simp] theorem State.setAccord_ctxs (s : State) (a : Nat) (x : Accord) : (s.setAccord a x).ctxs = s.ctxs := rfl
@[simp] theorem State.setAccord_facets (s : State) (a : Nat) (x : Accord) : (s.setAccord a x).facets = s.facets := rfl
@[simp] theorem State.setAccord_checks (s : State) (a : Nat) (x : Accord) : (s.setAccord a x).checks = s.checks := rfl
@[simp] theorem State.setAccord_service (s : State) (a : Nat) (x : Accord) : (s.setAccord a x).service = s.service := rfl
@[simp] theorem State.setAccord_bb (s : State) (a : Nat) (x : Accord) : (s.setAccord a x).bb = s.bb := rfl
@[simp] theorem State.setAccord_ring (s : State) (a : Nat) (x : Accord) : (s.setAccord a x).ring = s.ring := rfl
@[simp] theorem State.setAccord_ledger (s : State) (a : Nat) (x : Accord) : (s.setAccord a x).ledger = s.ledger := rfl
@[simp] theorem State.setAccord_board (s : State) (a : Nat) (x : Accord) : (s.setAccord a x).board = s.board := rfl
@[simp] theorem State.setAccord_sec (s : State) (a : Nat) (x : Accord) : (s.setAccord a x).sec = s.sec := rfl
@[simp] theorem State.setAccord_rst (s : State) (a : Nat) (x : Accord) : (s.setAccord a x).rst = s.rst := rfl
@[simp] theorem State.setAccord_host (s : State) (a : Nat) (x : Accord) : (s.setAccord a x).host = s.host := rfl
@[simp] theorem State.setAccord_engines (s : State) (a : Nat) (x : Accord) : (s.setAccord a x).engines = s.engines := rfl
@[simp] theorem State.setAccord_chans (s : State) (a : Nat) (x : Accord) : (s.setAccord a x).chans = s.chans := rfl
@[simp] theorem State.setAccord_router (s : State) (a : Nat) (x : Accord) : (s.setAccord a x).router = s.router := rfl
@[simp] theorem State.setAccord_log (s : State) (a : Nat) (x : Accord) : (s.setAccord a x).log = s.log := rfl
@[simp] theorem State.setAccord_mail (s : State) (a : Nat) (x : Accord) : (s.setAccord a x).mail = s.mail := rfl
@[simp] theorem State.setAccord_extMem (s : State) (a : Nat) (x : Accord) : (s.setAccord a x).extMem = s.extMem := rfl
@[simp] theorem State.setAccord_errors (s : State) (a : Nat) (x : Accord) : (s.setAccord a x).errors = s.errors := rfl
@[simp] theorem State.setAccord_freeCount (s : State) (a : Nat) (x : Accord) : (s.setAccord a x).freeCount = s.freeCount := rfl
@[simp] theorem State.setAccord_pending (s : State) (a : Nat) (x : Accord) : (s.setAccord a x).pending = s.pending := rfl
@[simp] theorem State.setAccord_port (s : State) (a : Nat) (x : Accord) (j : Nat) : (s.setAccord a x).port j = s.port j := rfl
@[simp] theorem State.setAccord_ctx (s : State) (a : Nat) (x : Accord) (j : Nat) : (s.setAccord a x).ctx j = s.ctx j := rfl
@[simp] theorem State.setAccord_facet (s : State) (a : Nat) (x : Accord) (j : Nat) : (s.setAccord a x).facet j = s.facet j := rfl
@[simp] theorem State.setAccord_check (s : State) (a : Nat) (x : Accord) (j : Nat) : (s.setAccord a x).check j = s.check j := rfl
@[simp] theorem State.setAccord_bbp (s : State) (a : Nat) (x : Accord) (j : Nat) : (s.setAccord a x).bbp j = s.bbp j := rfl
@[simp] theorem State.setAccord_stream (s : State) (a : Nat) (x : Accord) (j : Nat) : (s.setAccord a x).stream j = s.stream j := rfl
@[simp] theorem State.setAccord_axis (s : State) (a : Nat) (x : Accord) (j : Nat) : (s.setAccord a x).axis j = s.axis j := rfl
@[simp] theorem State.setAccord_mark (s : State) (a : Nat) (x : Accord) (j : Nat) : (s.setAccord a x).mark j = s.mark j := rfl
@[simp] theorem State.setAccord_gate (s : State) (a : Nat) (x : Accord) (j : Nat) : (s.setAccord a x).gate j = s.gate j := rfl
@[simp] theorem State.setAccord_cue (s : State) (a : Nat) (x : Accord) (j : Nat) : (s.setAccord a x).cue j = s.cue j := rfl
@[simp] theorem State.setAccord_strobe (s : State) (a : Nat) (x : Accord) (j : Nat) : (s.setAccord a x).strobe j = s.strobe j := rfl
@[simp] theorem State.setAccord_epochSet (s : State) (a : Nat) (x : Accord) (j : Nat) : (s.setAccord a x).epochSet j = s.epochSet j := rfl
@[simp] theorem State.setAccord_engine (s : State) (a : Nat) (x : Accord) (j : Nat) : (s.setAccord a x).engine j = s.engine j := rfl
@[simp] theorem State.setAccord_vector (s : State) (a : Nat) (x : Accord) (j : Nat) : (s.setAccord a x).vector j = s.vector j := rfl
@[simp] theorem State.setAccord_gpio (s : State) (a : Nat) (x : Accord) (j : Nat) : (s.setAccord a x).gpio j = s.gpio j := rfl
@[simp] theorem State.setAccord_supply (s : State) (a : Nat) (x : Accord) (j : Nat) : (s.setAccord a x).supply j = s.supply j := rfl
@[simp] theorem State.setAccord_chan (s : State) (a : Nat) (x : Accord) (j l : Nat) : (s.setAccord a x).chan j l = s.chan j l := rfl
@[simp] theorem State.setAccord_note (s : State) (a : Nat) (x : Accord) (j l : Nat) : (s.setAccord a x).note j l = s.note j l := rfl

/-! State.setCheck. -/

@[simp] theorem State.setCheck_check (s : State) (k : Nat) (x : Check) (j : Nat) : (s.setCheck k x).check j = if j = k then x else s.check j := bankGet_bankSet _ _ _ _ _
@[simp] theorem State.setCheck_variant (s : State) (k : Nat) (x : Check) : (s.setCheck k x).variant = s.variant := rfl
@[simp] theorem State.setCheck_time (s : State) (k : Nat) (x : Check) : (s.setCheck k x).time = s.time := rfl
@[simp] theorem State.setCheck_tu (s : State) (k : Nat) (x : Check) : (s.setCheck k x).tu = s.tu := rfl
@[simp] theorem State.setCheck_ports (s : State) (k : Nat) (x : Check) : (s.setCheck k x).ports = s.ports := rfl
@[simp] theorem State.setCheck_ctxs (s : State) (k : Nat) (x : Check) : (s.setCheck k x).ctxs = s.ctxs := rfl
@[simp] theorem State.setCheck_facets (s : State) (k : Nat) (x : Check) : (s.setCheck k x).facets = s.facets := rfl
@[simp] theorem State.setCheck_accords (s : State) (k : Nat) (x : Check) : (s.setCheck k x).accords = s.accords := rfl
@[simp] theorem State.setCheck_service (s : State) (k : Nat) (x : Check) : (s.setCheck k x).service = s.service := rfl
@[simp] theorem State.setCheck_bb (s : State) (k : Nat) (x : Check) : (s.setCheck k x).bb = s.bb := rfl
@[simp] theorem State.setCheck_ring (s : State) (k : Nat) (x : Check) : (s.setCheck k x).ring = s.ring := rfl
@[simp] theorem State.setCheck_ledger (s : State) (k : Nat) (x : Check) : (s.setCheck k x).ledger = s.ledger := rfl
@[simp] theorem State.setCheck_board (s : State) (k : Nat) (x : Check) : (s.setCheck k x).board = s.board := rfl
@[simp] theorem State.setCheck_sec (s : State) (k : Nat) (x : Check) : (s.setCheck k x).sec = s.sec := rfl
@[simp] theorem State.setCheck_rst (s : State) (k : Nat) (x : Check) : (s.setCheck k x).rst = s.rst := rfl
@[simp] theorem State.setCheck_host (s : State) (k : Nat) (x : Check) : (s.setCheck k x).host = s.host := rfl
@[simp] theorem State.setCheck_engines (s : State) (k : Nat) (x : Check) : (s.setCheck k x).engines = s.engines := rfl
@[simp] theorem State.setCheck_chans (s : State) (k : Nat) (x : Check) : (s.setCheck k x).chans = s.chans := rfl
@[simp] theorem State.setCheck_router (s : State) (k : Nat) (x : Check) : (s.setCheck k x).router = s.router := rfl
@[simp] theorem State.setCheck_log (s : State) (k : Nat) (x : Check) : (s.setCheck k x).log = s.log := rfl
@[simp] theorem State.setCheck_mail (s : State) (k : Nat) (x : Check) : (s.setCheck k x).mail = s.mail := rfl
@[simp] theorem State.setCheck_extMem (s : State) (k : Nat) (x : Check) : (s.setCheck k x).extMem = s.extMem := rfl
@[simp] theorem State.setCheck_errors (s : State) (k : Nat) (x : Check) : (s.setCheck k x).errors = s.errors := rfl
@[simp] theorem State.setCheck_freeCount (s : State) (k : Nat) (x : Check) : (s.setCheck k x).freeCount = s.freeCount := rfl
@[simp] theorem State.setCheck_pending (s : State) (k : Nat) (x : Check) : (s.setCheck k x).pending = s.pending := rfl
@[simp] theorem State.setCheck_port (s : State) (k : Nat) (x : Check) (j : Nat) : (s.setCheck k x).port j = s.port j := rfl
@[simp] theorem State.setCheck_ctx (s : State) (k : Nat) (x : Check) (j : Nat) : (s.setCheck k x).ctx j = s.ctx j := rfl
@[simp] theorem State.setCheck_facet (s : State) (k : Nat) (x : Check) (j : Nat) : (s.setCheck k x).facet j = s.facet j := rfl
@[simp] theorem State.setCheck_accord (s : State) (k : Nat) (x : Check) (j : Nat) : (s.setCheck k x).accord j = s.accord j := rfl
@[simp] theorem State.setCheck_bbp (s : State) (k : Nat) (x : Check) (j : Nat) : (s.setCheck k x).bbp j = s.bbp j := rfl
@[simp] theorem State.setCheck_stream (s : State) (k : Nat) (x : Check) (j : Nat) : (s.setCheck k x).stream j = s.stream j := rfl
@[simp] theorem State.setCheck_axis (s : State) (k : Nat) (x : Check) (j : Nat) : (s.setCheck k x).axis j = s.axis j := rfl
@[simp] theorem State.setCheck_mark (s : State) (k : Nat) (x : Check) (j : Nat) : (s.setCheck k x).mark j = s.mark j := rfl
@[simp] theorem State.setCheck_gate (s : State) (k : Nat) (x : Check) (j : Nat) : (s.setCheck k x).gate j = s.gate j := rfl
@[simp] theorem State.setCheck_cue (s : State) (k : Nat) (x : Check) (j : Nat) : (s.setCheck k x).cue j = s.cue j := rfl
@[simp] theorem State.setCheck_strobe (s : State) (k : Nat) (x : Check) (j : Nat) : (s.setCheck k x).strobe j = s.strobe j := rfl
@[simp] theorem State.setCheck_epochSet (s : State) (k : Nat) (x : Check) (j : Nat) : (s.setCheck k x).epochSet j = s.epochSet j := rfl
@[simp] theorem State.setCheck_engine (s : State) (k : Nat) (x : Check) (j : Nat) : (s.setCheck k x).engine j = s.engine j := rfl
@[simp] theorem State.setCheck_vector (s : State) (k : Nat) (x : Check) (j : Nat) : (s.setCheck k x).vector j = s.vector j := rfl
@[simp] theorem State.setCheck_gpio (s : State) (k : Nat) (x : Check) (j : Nat) : (s.setCheck k x).gpio j = s.gpio j := rfl
@[simp] theorem State.setCheck_supply (s : State) (k : Nat) (x : Check) (j : Nat) : (s.setCheck k x).supply j = s.supply j := rfl
@[simp] theorem State.setCheck_chan (s : State) (k : Nat) (x : Check) (j l : Nat) : (s.setCheck k x).chan j l = s.chan j l := rfl
@[simp] theorem State.setCheck_note (s : State) (k : Nat) (x : Check) (j l : Nat) : (s.setCheck k x).note j l = s.note j l := rfl

/-! State.setBb. -/

@[simp] theorem State.setBb_bbp (s : State) (p : Nat) (x : Bb) (j : Nat) : (s.setBb p x).bbp j = if j = p then x else s.bbp j := bankGet_bankSet _ _ _ _ _
@[simp] theorem State.setBb_variant (s : State) (p : Nat) (x : Bb) : (s.setBb p x).variant = s.variant := rfl
@[simp] theorem State.setBb_time (s : State) (p : Nat) (x : Bb) : (s.setBb p x).time = s.time := rfl
@[simp] theorem State.setBb_tu (s : State) (p : Nat) (x : Bb) : (s.setBb p x).tu = s.tu := rfl
@[simp] theorem State.setBb_ports (s : State) (p : Nat) (x : Bb) : (s.setBb p x).ports = s.ports := rfl
@[simp] theorem State.setBb_ctxs (s : State) (p : Nat) (x : Bb) : (s.setBb p x).ctxs = s.ctxs := rfl
@[simp] theorem State.setBb_facets (s : State) (p : Nat) (x : Bb) : (s.setBb p x).facets = s.facets := rfl
@[simp] theorem State.setBb_accords (s : State) (p : Nat) (x : Bb) : (s.setBb p x).accords = s.accords := rfl
@[simp] theorem State.setBb_checks (s : State) (p : Nat) (x : Bb) : (s.setBb p x).checks = s.checks := rfl
@[simp] theorem State.setBb_service (s : State) (p : Nat) (x : Bb) : (s.setBb p x).service = s.service := rfl
@[simp] theorem State.setBb_ring (s : State) (p : Nat) (x : Bb) : (s.setBb p x).ring = s.ring := rfl
@[simp] theorem State.setBb_ledger (s : State) (p : Nat) (x : Bb) : (s.setBb p x).ledger = s.ledger := rfl
@[simp] theorem State.setBb_board (s : State) (p : Nat) (x : Bb) : (s.setBb p x).board = s.board := rfl
@[simp] theorem State.setBb_sec (s : State) (p : Nat) (x : Bb) : (s.setBb p x).sec = s.sec := rfl
@[simp] theorem State.setBb_rst (s : State) (p : Nat) (x : Bb) : (s.setBb p x).rst = s.rst := rfl
@[simp] theorem State.setBb_host (s : State) (p : Nat) (x : Bb) : (s.setBb p x).host = s.host := rfl
@[simp] theorem State.setBb_engines (s : State) (p : Nat) (x : Bb) : (s.setBb p x).engines = s.engines := rfl
@[simp] theorem State.setBb_chans (s : State) (p : Nat) (x : Bb) : (s.setBb p x).chans = s.chans := rfl
@[simp] theorem State.setBb_router (s : State) (p : Nat) (x : Bb) : (s.setBb p x).router = s.router := rfl
@[simp] theorem State.setBb_log (s : State) (p : Nat) (x : Bb) : (s.setBb p x).log = s.log := rfl
@[simp] theorem State.setBb_mail (s : State) (p : Nat) (x : Bb) : (s.setBb p x).mail = s.mail := rfl
@[simp] theorem State.setBb_extMem (s : State) (p : Nat) (x : Bb) : (s.setBb p x).extMem = s.extMem := rfl
@[simp] theorem State.setBb_errors (s : State) (p : Nat) (x : Bb) : (s.setBb p x).errors = s.errors := rfl
@[simp] theorem State.setBb_freeCount (s : State) (p : Nat) (x : Bb) : (s.setBb p x).freeCount = s.freeCount := rfl
@[simp] theorem State.setBb_pending (s : State) (p : Nat) (x : Bb) : (s.setBb p x).pending = s.pending := rfl
@[simp] theorem State.setBb_port (s : State) (p : Nat) (x : Bb) (j : Nat) : (s.setBb p x).port j = s.port j := rfl
@[simp] theorem State.setBb_ctx (s : State) (p : Nat) (x : Bb) (j : Nat) : (s.setBb p x).ctx j = s.ctx j := rfl
@[simp] theorem State.setBb_facet (s : State) (p : Nat) (x : Bb) (j : Nat) : (s.setBb p x).facet j = s.facet j := rfl
@[simp] theorem State.setBb_accord (s : State) (p : Nat) (x : Bb) (j : Nat) : (s.setBb p x).accord j = s.accord j := rfl
@[simp] theorem State.setBb_check (s : State) (p : Nat) (x : Bb) (j : Nat) : (s.setBb p x).check j = s.check j := rfl
@[simp] theorem State.setBb_stream (s : State) (p : Nat) (x : Bb) (j : Nat) : (s.setBb p x).stream j = s.stream j := rfl
@[simp] theorem State.setBb_axis (s : State) (p : Nat) (x : Bb) (j : Nat) : (s.setBb p x).axis j = s.axis j := rfl
@[simp] theorem State.setBb_mark (s : State) (p : Nat) (x : Bb) (j : Nat) : (s.setBb p x).mark j = s.mark j := rfl
@[simp] theorem State.setBb_gate (s : State) (p : Nat) (x : Bb) (j : Nat) : (s.setBb p x).gate j = s.gate j := rfl
@[simp] theorem State.setBb_cue (s : State) (p : Nat) (x : Bb) (j : Nat) : (s.setBb p x).cue j = s.cue j := rfl
@[simp] theorem State.setBb_strobe (s : State) (p : Nat) (x : Bb) (j : Nat) : (s.setBb p x).strobe j = s.strobe j := rfl
@[simp] theorem State.setBb_epochSet (s : State) (p : Nat) (x : Bb) (j : Nat) : (s.setBb p x).epochSet j = s.epochSet j := rfl
@[simp] theorem State.setBb_engine (s : State) (p : Nat) (x : Bb) (j : Nat) : (s.setBb p x).engine j = s.engine j := rfl
@[simp] theorem State.setBb_vector (s : State) (p : Nat) (x : Bb) (j : Nat) : (s.setBb p x).vector j = s.vector j := rfl
@[simp] theorem State.setBb_gpio (s : State) (p : Nat) (x : Bb) (j : Nat) : (s.setBb p x).gpio j = s.gpio j := rfl
@[simp] theorem State.setBb_supply (s : State) (p : Nat) (x : Bb) (j : Nat) : (s.setBb p x).supply j = s.supply j := rfl
@[simp] theorem State.setBb_chan (s : State) (p : Nat) (x : Bb) (j l : Nat) : (s.setBb p x).chan j l = s.chan j l := rfl
@[simp] theorem State.setBb_note (s : State) (p : Nat) (x : Bb) (j l : Nat) : (s.setBb p x).note j l = s.note j l := rfl

/-! State.setStream. -/

@[simp] theorem State.setStream_stream (s : State) (k : Nat) (x : Stream) (j : Nat) : (s.setStream k x).stream j = if j = k then x else s.stream j := bankGet_bankSet _ _ _ _ _
@[simp] theorem State.setStream_variant (s : State) (k : Nat) (x : Stream) : (s.setStream k x).variant = s.variant := rfl
@[simp] theorem State.setStream_time (s : State) (k : Nat) (x : Stream) : (s.setStream k x).time = s.time := rfl
@[simp] theorem State.setStream_tu (s : State) (k : Nat) (x : Stream) : (s.setStream k x).tu = s.tu := rfl
@[simp] theorem State.setStream_ports (s : State) (k : Nat) (x : Stream) : (s.setStream k x).ports = s.ports := rfl
@[simp] theorem State.setStream_ctxs (s : State) (k : Nat) (x : Stream) : (s.setStream k x).ctxs = s.ctxs := rfl
@[simp] theorem State.setStream_facets (s : State) (k : Nat) (x : Stream) : (s.setStream k x).facets = s.facets := rfl
@[simp] theorem State.setStream_accords (s : State) (k : Nat) (x : Stream) : (s.setStream k x).accords = s.accords := rfl
@[simp] theorem State.setStream_checks (s : State) (k : Nat) (x : Stream) : (s.setStream k x).checks = s.checks := rfl
@[simp] theorem State.setStream_service (s : State) (k : Nat) (x : Stream) : (s.setStream k x).service = s.service := rfl
@[simp] theorem State.setStream_ring (s : State) (k : Nat) (x : Stream) : (s.setStream k x).ring = s.ring := rfl
@[simp] theorem State.setStream_ledger (s : State) (k : Nat) (x : Stream) : (s.setStream k x).ledger = s.ledger := rfl
@[simp] theorem State.setStream_board (s : State) (k : Nat) (x : Stream) : (s.setStream k x).board = s.board := rfl
@[simp] theorem State.setStream_sec (s : State) (k : Nat) (x : Stream) : (s.setStream k x).sec = s.sec := rfl
@[simp] theorem State.setStream_rst (s : State) (k : Nat) (x : Stream) : (s.setStream k x).rst = s.rst := rfl
@[simp] theorem State.setStream_host (s : State) (k : Nat) (x : Stream) : (s.setStream k x).host = s.host := rfl
@[simp] theorem State.setStream_engines (s : State) (k : Nat) (x : Stream) : (s.setStream k x).engines = s.engines := rfl
@[simp] theorem State.setStream_chans (s : State) (k : Nat) (x : Stream) : (s.setStream k x).chans = s.chans := rfl
@[simp] theorem State.setStream_router (s : State) (k : Nat) (x : Stream) : (s.setStream k x).router = s.router := rfl
@[simp] theorem State.setStream_log (s : State) (k : Nat) (x : Stream) : (s.setStream k x).log = s.log := rfl
@[simp] theorem State.setStream_mail (s : State) (k : Nat) (x : Stream) : (s.setStream k x).mail = s.mail := rfl
@[simp] theorem State.setStream_extMem (s : State) (k : Nat) (x : Stream) : (s.setStream k x).extMem = s.extMem := rfl
@[simp] theorem State.setStream_errors (s : State) (k : Nat) (x : Stream) : (s.setStream k x).errors = s.errors := rfl
@[simp] theorem State.setStream_freeCount (s : State) (k : Nat) (x : Stream) : (s.setStream k x).freeCount = s.freeCount := rfl
@[simp] theorem State.setStream_pending (s : State) (k : Nat) (x : Stream) : (s.setStream k x).pending = s.pending := rfl
@[simp] theorem State.setStream_port (s : State) (k : Nat) (x : Stream) (j : Nat) : (s.setStream k x).port j = s.port j := rfl
@[simp] theorem State.setStream_ctx (s : State) (k : Nat) (x : Stream) (j : Nat) : (s.setStream k x).ctx j = s.ctx j := rfl
@[simp] theorem State.setStream_facet (s : State) (k : Nat) (x : Stream) (j : Nat) : (s.setStream k x).facet j = s.facet j := rfl
@[simp] theorem State.setStream_accord (s : State) (k : Nat) (x : Stream) (j : Nat) : (s.setStream k x).accord j = s.accord j := rfl
@[simp] theorem State.setStream_check (s : State) (k : Nat) (x : Stream) (j : Nat) : (s.setStream k x).check j = s.check j := rfl
@[simp] theorem State.setStream_bbp (s : State) (k : Nat) (x : Stream) (j : Nat) : (s.setStream k x).bbp j = s.bbp j := rfl
@[simp] theorem State.setStream_axis (s : State) (k : Nat) (x : Stream) (j : Nat) : (s.setStream k x).axis j = s.axis j := rfl
@[simp] theorem State.setStream_mark (s : State) (k : Nat) (x : Stream) (j : Nat) : (s.setStream k x).mark j = s.mark j := rfl
@[simp] theorem State.setStream_gate (s : State) (k : Nat) (x : Stream) (j : Nat) : (s.setStream k x).gate j = s.gate j := rfl
@[simp] theorem State.setStream_cue (s : State) (k : Nat) (x : Stream) (j : Nat) : (s.setStream k x).cue j = s.cue j := rfl
@[simp] theorem State.setStream_strobe (s : State) (k : Nat) (x : Stream) (j : Nat) : (s.setStream k x).strobe j = s.strobe j := rfl
@[simp] theorem State.setStream_epochSet (s : State) (k : Nat) (x : Stream) (j : Nat) : (s.setStream k x).epochSet j = s.epochSet j := rfl
@[simp] theorem State.setStream_engine (s : State) (k : Nat) (x : Stream) (j : Nat) : (s.setStream k x).engine j = s.engine j := rfl
@[simp] theorem State.setStream_vector (s : State) (k : Nat) (x : Stream) (j : Nat) : (s.setStream k x).vector j = s.vector j := rfl
@[simp] theorem State.setStream_gpio (s : State) (k : Nat) (x : Stream) (j : Nat) : (s.setStream k x).gpio j = s.gpio j := rfl
@[simp] theorem State.setStream_supply (s : State) (k : Nat) (x : Stream) (j : Nat) : (s.setStream k x).supply j = s.supply j := rfl
@[simp] theorem State.setStream_chan (s : State) (k : Nat) (x : Stream) (j l : Nat) : (s.setStream k x).chan j l = s.chan j l := rfl
@[simp] theorem State.setStream_note (s : State) (k : Nat) (x : Stream) (j l : Nat) : (s.setStream k x).note j l = s.note j l := rfl

/-! State.setAxis. -/

@[simp] theorem State.setAxis_axis (s : State) (a : Nat) (x : Axis) (j : Nat) : (s.setAxis a x).axis j = if j = a then x else s.axis j := bankGet_bankSet _ _ _ _ _
@[simp] theorem State.setAxis_variant (s : State) (a : Nat) (x : Axis) : (s.setAxis a x).variant = s.variant := rfl
@[simp] theorem State.setAxis_time (s : State) (a : Nat) (x : Axis) : (s.setAxis a x).time = s.time := rfl
@[simp] theorem State.setAxis_ports (s : State) (a : Nat) (x : Axis) : (s.setAxis a x).ports = s.ports := rfl
@[simp] theorem State.setAxis_ctxs (s : State) (a : Nat) (x : Axis) : (s.setAxis a x).ctxs = s.ctxs := rfl
@[simp] theorem State.setAxis_facets (s : State) (a : Nat) (x : Axis) : (s.setAxis a x).facets = s.facets := rfl
@[simp] theorem State.setAxis_accords (s : State) (a : Nat) (x : Axis) : (s.setAxis a x).accords = s.accords := rfl
@[simp] theorem State.setAxis_checks (s : State) (a : Nat) (x : Axis) : (s.setAxis a x).checks = s.checks := rfl
@[simp] theorem State.setAxis_service (s : State) (a : Nat) (x : Axis) : (s.setAxis a x).service = s.service := rfl
@[simp] theorem State.setAxis_bb (s : State) (a : Nat) (x : Axis) : (s.setAxis a x).bb = s.bb := rfl
@[simp] theorem State.setAxis_ring (s : State) (a : Nat) (x : Axis) : (s.setAxis a x).ring = s.ring := rfl
@[simp] theorem State.setAxis_ledger (s : State) (a : Nat) (x : Axis) : (s.setAxis a x).ledger = s.ledger := rfl
@[simp] theorem State.setAxis_board (s : State) (a : Nat) (x : Axis) : (s.setAxis a x).board = s.board := rfl
@[simp] theorem State.setAxis_sec (s : State) (a : Nat) (x : Axis) : (s.setAxis a x).sec = s.sec := rfl
@[simp] theorem State.setAxis_rst (s : State) (a : Nat) (x : Axis) : (s.setAxis a x).rst = s.rst := rfl
@[simp] theorem State.setAxis_host (s : State) (a : Nat) (x : Axis) : (s.setAxis a x).host = s.host := rfl
@[simp] theorem State.setAxis_engines (s : State) (a : Nat) (x : Axis) : (s.setAxis a x).engines = s.engines := rfl
@[simp] theorem State.setAxis_chans (s : State) (a : Nat) (x : Axis) : (s.setAxis a x).chans = s.chans := rfl
@[simp] theorem State.setAxis_router (s : State) (a : Nat) (x : Axis) : (s.setAxis a x).router = s.router := rfl
@[simp] theorem State.setAxis_log (s : State) (a : Nat) (x : Axis) : (s.setAxis a x).log = s.log := rfl
@[simp] theorem State.setAxis_mail (s : State) (a : Nat) (x : Axis) : (s.setAxis a x).mail = s.mail := rfl
@[simp] theorem State.setAxis_extMem (s : State) (a : Nat) (x : Axis) : (s.setAxis a x).extMem = s.extMem := rfl
@[simp] theorem State.setAxis_errors (s : State) (a : Nat) (x : Axis) : (s.setAxis a x).errors = s.errors := rfl
@[simp] theorem State.setAxis_freeCount (s : State) (a : Nat) (x : Axis) : (s.setAxis a x).freeCount = s.freeCount := rfl
@[simp] theorem State.setAxis_pending (s : State) (a : Nat) (x : Axis) : (s.setAxis a x).pending = s.pending := rfl
@[simp] theorem State.setAxis_port (s : State) (a : Nat) (x : Axis) (j : Nat) : (s.setAxis a x).port j = s.port j := rfl
@[simp] theorem State.setAxis_ctx (s : State) (a : Nat) (x : Axis) (j : Nat) : (s.setAxis a x).ctx j = s.ctx j := rfl
@[simp] theorem State.setAxis_facet (s : State) (a : Nat) (x : Axis) (j : Nat) : (s.setAxis a x).facet j = s.facet j := rfl
@[simp] theorem State.setAxis_accord (s : State) (a : Nat) (x : Axis) (j : Nat) : (s.setAxis a x).accord j = s.accord j := rfl
@[simp] theorem State.setAxis_check (s : State) (a : Nat) (x : Axis) (j : Nat) : (s.setAxis a x).check j = s.check j := rfl
@[simp] theorem State.setAxis_bbp (s : State) (a : Nat) (x : Axis) (j : Nat) : (s.setAxis a x).bbp j = s.bbp j := rfl
@[simp] theorem State.setAxis_stream (s : State) (a : Nat) (x : Axis) (j : Nat) : (s.setAxis a x).stream j = s.stream j := rfl
@[simp] theorem State.setAxis_mark (s : State) (a : Nat) (x : Axis) (j : Nat) : (s.setAxis a x).mark j = s.mark j := rfl
@[simp] theorem State.setAxis_gate (s : State) (a : Nat) (x : Axis) (j : Nat) : (s.setAxis a x).gate j = s.gate j := rfl
@[simp] theorem State.setAxis_cue (s : State) (a : Nat) (x : Axis) (j : Nat) : (s.setAxis a x).cue j = s.cue j := rfl
@[simp] theorem State.setAxis_strobe (s : State) (a : Nat) (x : Axis) (j : Nat) : (s.setAxis a x).strobe j = s.strobe j := rfl
@[simp] theorem State.setAxis_epochSet (s : State) (a : Nat) (x : Axis) (j : Nat) : (s.setAxis a x).epochSet j = s.epochSet j := rfl
@[simp] theorem State.setAxis_engine (s : State) (a : Nat) (x : Axis) (j : Nat) : (s.setAxis a x).engine j = s.engine j := rfl
@[simp] theorem State.setAxis_vector (s : State) (a : Nat) (x : Axis) (j : Nat) : (s.setAxis a x).vector j = s.vector j := rfl
@[simp] theorem State.setAxis_gpio (s : State) (a : Nat) (x : Axis) (j : Nat) : (s.setAxis a x).gpio j = s.gpio j := rfl
@[simp] theorem State.setAxis_supply (s : State) (a : Nat) (x : Axis) (j : Nat) : (s.setAxis a x).supply j = s.supply j := rfl
@[simp] theorem State.setAxis_chan (s : State) (a : Nat) (x : Axis) (j l : Nat) : (s.setAxis a x).chan j l = s.chan j l := rfl
@[simp] theorem State.setAxis_note (s : State) (a : Nat) (x : Axis) (j l : Nat) : (s.setAxis a x).note j l = s.note j l := rfl

/-! State.setMark. -/

@[simp] theorem State.setMark_mark (s : State) (k : Nat) (x : Mark) (j : Nat) : (s.setMark k x).mark j = if j = k then x else s.mark j := bankGet_bankSet _ _ _ _ _
@[simp] theorem State.setMark_variant (s : State) (k : Nat) (x : Mark) : (s.setMark k x).variant = s.variant := rfl
@[simp] theorem State.setMark_time (s : State) (k : Nat) (x : Mark) : (s.setMark k x).time = s.time := rfl
@[simp] theorem State.setMark_ports (s : State) (k : Nat) (x : Mark) : (s.setMark k x).ports = s.ports := rfl
@[simp] theorem State.setMark_ctxs (s : State) (k : Nat) (x : Mark) : (s.setMark k x).ctxs = s.ctxs := rfl
@[simp] theorem State.setMark_facets (s : State) (k : Nat) (x : Mark) : (s.setMark k x).facets = s.facets := rfl
@[simp] theorem State.setMark_accords (s : State) (k : Nat) (x : Mark) : (s.setMark k x).accords = s.accords := rfl
@[simp] theorem State.setMark_checks (s : State) (k : Nat) (x : Mark) : (s.setMark k x).checks = s.checks := rfl
@[simp] theorem State.setMark_service (s : State) (k : Nat) (x : Mark) : (s.setMark k x).service = s.service := rfl
@[simp] theorem State.setMark_bb (s : State) (k : Nat) (x : Mark) : (s.setMark k x).bb = s.bb := rfl
@[simp] theorem State.setMark_ring (s : State) (k : Nat) (x : Mark) : (s.setMark k x).ring = s.ring := rfl
@[simp] theorem State.setMark_ledger (s : State) (k : Nat) (x : Mark) : (s.setMark k x).ledger = s.ledger := rfl
@[simp] theorem State.setMark_board (s : State) (k : Nat) (x : Mark) : (s.setMark k x).board = s.board := rfl
@[simp] theorem State.setMark_sec (s : State) (k : Nat) (x : Mark) : (s.setMark k x).sec = s.sec := rfl
@[simp] theorem State.setMark_rst (s : State) (k : Nat) (x : Mark) : (s.setMark k x).rst = s.rst := rfl
@[simp] theorem State.setMark_host (s : State) (k : Nat) (x : Mark) : (s.setMark k x).host = s.host := rfl
@[simp] theorem State.setMark_engines (s : State) (k : Nat) (x : Mark) : (s.setMark k x).engines = s.engines := rfl
@[simp] theorem State.setMark_chans (s : State) (k : Nat) (x : Mark) : (s.setMark k x).chans = s.chans := rfl
@[simp] theorem State.setMark_router (s : State) (k : Nat) (x : Mark) : (s.setMark k x).router = s.router := rfl
@[simp] theorem State.setMark_log (s : State) (k : Nat) (x : Mark) : (s.setMark k x).log = s.log := rfl
@[simp] theorem State.setMark_mail (s : State) (k : Nat) (x : Mark) : (s.setMark k x).mail = s.mail := rfl
@[simp] theorem State.setMark_extMem (s : State) (k : Nat) (x : Mark) : (s.setMark k x).extMem = s.extMem := rfl
@[simp] theorem State.setMark_errors (s : State) (k : Nat) (x : Mark) : (s.setMark k x).errors = s.errors := rfl
@[simp] theorem State.setMark_freeCount (s : State) (k : Nat) (x : Mark) : (s.setMark k x).freeCount = s.freeCount := rfl
@[simp] theorem State.setMark_pending (s : State) (k : Nat) (x : Mark) : (s.setMark k x).pending = s.pending := rfl
@[simp] theorem State.setMark_port (s : State) (k : Nat) (x : Mark) (j : Nat) : (s.setMark k x).port j = s.port j := rfl
@[simp] theorem State.setMark_ctx (s : State) (k : Nat) (x : Mark) (j : Nat) : (s.setMark k x).ctx j = s.ctx j := rfl
@[simp] theorem State.setMark_facet (s : State) (k : Nat) (x : Mark) (j : Nat) : (s.setMark k x).facet j = s.facet j := rfl
@[simp] theorem State.setMark_accord (s : State) (k : Nat) (x : Mark) (j : Nat) : (s.setMark k x).accord j = s.accord j := rfl
@[simp] theorem State.setMark_check (s : State) (k : Nat) (x : Mark) (j : Nat) : (s.setMark k x).check j = s.check j := rfl
@[simp] theorem State.setMark_bbp (s : State) (k : Nat) (x : Mark) (j : Nat) : (s.setMark k x).bbp j = s.bbp j := rfl
@[simp] theorem State.setMark_stream (s : State) (k : Nat) (x : Mark) (j : Nat) : (s.setMark k x).stream j = s.stream j := rfl
@[simp] theorem State.setMark_axis (s : State) (k : Nat) (x : Mark) (j : Nat) : (s.setMark k x).axis j = s.axis j := rfl
@[simp] theorem State.setMark_gate (s : State) (k : Nat) (x : Mark) (j : Nat) : (s.setMark k x).gate j = s.gate j := rfl
@[simp] theorem State.setMark_cue (s : State) (k : Nat) (x : Mark) (j : Nat) : (s.setMark k x).cue j = s.cue j := rfl
@[simp] theorem State.setMark_strobe (s : State) (k : Nat) (x : Mark) (j : Nat) : (s.setMark k x).strobe j = s.strobe j := rfl
@[simp] theorem State.setMark_epochSet (s : State) (k : Nat) (x : Mark) (j : Nat) : (s.setMark k x).epochSet j = s.epochSet j := rfl
@[simp] theorem State.setMark_engine (s : State) (k : Nat) (x : Mark) (j : Nat) : (s.setMark k x).engine j = s.engine j := rfl
@[simp] theorem State.setMark_vector (s : State) (k : Nat) (x : Mark) (j : Nat) : (s.setMark k x).vector j = s.vector j := rfl
@[simp] theorem State.setMark_gpio (s : State) (k : Nat) (x : Mark) (j : Nat) : (s.setMark k x).gpio j = s.gpio j := rfl
@[simp] theorem State.setMark_supply (s : State) (k : Nat) (x : Mark) (j : Nat) : (s.setMark k x).supply j = s.supply j := rfl
@[simp] theorem State.setMark_chan (s : State) (k : Nat) (x : Mark) (j l : Nat) : (s.setMark k x).chan j l = s.chan j l := rfl
@[simp] theorem State.setMark_note (s : State) (k : Nat) (x : Mark) (j l : Nat) : (s.setMark k x).note j l = s.note j l := rfl

/-! State.setGate. -/

@[simp] theorem State.setGate_gate (s : State) (g : Nat) (x : Gate) (j : Nat) : (s.setGate g x).gate j = if j = g then x else s.gate j := bankGet_bankSet _ _ _ _ _
@[simp] theorem State.setGate_variant (s : State) (g : Nat) (x : Gate) : (s.setGate g x).variant = s.variant := rfl
@[simp] theorem State.setGate_time (s : State) (g : Nat) (x : Gate) : (s.setGate g x).time = s.time := rfl
@[simp] theorem State.setGate_ports (s : State) (g : Nat) (x : Gate) : (s.setGate g x).ports = s.ports := rfl
@[simp] theorem State.setGate_ctxs (s : State) (g : Nat) (x : Gate) : (s.setGate g x).ctxs = s.ctxs := rfl
@[simp] theorem State.setGate_facets (s : State) (g : Nat) (x : Gate) : (s.setGate g x).facets = s.facets := rfl
@[simp] theorem State.setGate_accords (s : State) (g : Nat) (x : Gate) : (s.setGate g x).accords = s.accords := rfl
@[simp] theorem State.setGate_checks (s : State) (g : Nat) (x : Gate) : (s.setGate g x).checks = s.checks := rfl
@[simp] theorem State.setGate_service (s : State) (g : Nat) (x : Gate) : (s.setGate g x).service = s.service := rfl
@[simp] theorem State.setGate_bb (s : State) (g : Nat) (x : Gate) : (s.setGate g x).bb = s.bb := rfl
@[simp] theorem State.setGate_ring (s : State) (g : Nat) (x : Gate) : (s.setGate g x).ring = s.ring := rfl
@[simp] theorem State.setGate_ledger (s : State) (g : Nat) (x : Gate) : (s.setGate g x).ledger = s.ledger := rfl
@[simp] theorem State.setGate_board (s : State) (g : Nat) (x : Gate) : (s.setGate g x).board = s.board := rfl
@[simp] theorem State.setGate_sec (s : State) (g : Nat) (x : Gate) : (s.setGate g x).sec = s.sec := rfl
@[simp] theorem State.setGate_rst (s : State) (g : Nat) (x : Gate) : (s.setGate g x).rst = s.rst := rfl
@[simp] theorem State.setGate_host (s : State) (g : Nat) (x : Gate) : (s.setGate g x).host = s.host := rfl
@[simp] theorem State.setGate_engines (s : State) (g : Nat) (x : Gate) : (s.setGate g x).engines = s.engines := rfl
@[simp] theorem State.setGate_chans (s : State) (g : Nat) (x : Gate) : (s.setGate g x).chans = s.chans := rfl
@[simp] theorem State.setGate_router (s : State) (g : Nat) (x : Gate) : (s.setGate g x).router = s.router := rfl
@[simp] theorem State.setGate_log (s : State) (g : Nat) (x : Gate) : (s.setGate g x).log = s.log := rfl
@[simp] theorem State.setGate_mail (s : State) (g : Nat) (x : Gate) : (s.setGate g x).mail = s.mail := rfl
@[simp] theorem State.setGate_extMem (s : State) (g : Nat) (x : Gate) : (s.setGate g x).extMem = s.extMem := rfl
@[simp] theorem State.setGate_errors (s : State) (g : Nat) (x : Gate) : (s.setGate g x).errors = s.errors := rfl
@[simp] theorem State.setGate_freeCount (s : State) (g : Nat) (x : Gate) : (s.setGate g x).freeCount = s.freeCount := rfl
@[simp] theorem State.setGate_pending (s : State) (g : Nat) (x : Gate) : (s.setGate g x).pending = s.pending := rfl
@[simp] theorem State.setGate_port (s : State) (g : Nat) (x : Gate) (j : Nat) : (s.setGate g x).port j = s.port j := rfl
@[simp] theorem State.setGate_ctx (s : State) (g : Nat) (x : Gate) (j : Nat) : (s.setGate g x).ctx j = s.ctx j := rfl
@[simp] theorem State.setGate_facet (s : State) (g : Nat) (x : Gate) (j : Nat) : (s.setGate g x).facet j = s.facet j := rfl
@[simp] theorem State.setGate_accord (s : State) (g : Nat) (x : Gate) (j : Nat) : (s.setGate g x).accord j = s.accord j := rfl
@[simp] theorem State.setGate_check (s : State) (g : Nat) (x : Gate) (j : Nat) : (s.setGate g x).check j = s.check j := rfl
@[simp] theorem State.setGate_bbp (s : State) (g : Nat) (x : Gate) (j : Nat) : (s.setGate g x).bbp j = s.bbp j := rfl
@[simp] theorem State.setGate_stream (s : State) (g : Nat) (x : Gate) (j : Nat) : (s.setGate g x).stream j = s.stream j := rfl
@[simp] theorem State.setGate_axis (s : State) (g : Nat) (x : Gate) (j : Nat) : (s.setGate g x).axis j = s.axis j := rfl
@[simp] theorem State.setGate_mark (s : State) (g : Nat) (x : Gate) (j : Nat) : (s.setGate g x).mark j = s.mark j := rfl
@[simp] theorem State.setGate_cue (s : State) (g : Nat) (x : Gate) (j : Nat) : (s.setGate g x).cue j = s.cue j := rfl
@[simp] theorem State.setGate_strobe (s : State) (g : Nat) (x : Gate) (j : Nat) : (s.setGate g x).strobe j = s.strobe j := rfl
@[simp] theorem State.setGate_epochSet (s : State) (g : Nat) (x : Gate) (j : Nat) : (s.setGate g x).epochSet j = s.epochSet j := rfl
@[simp] theorem State.setGate_engine (s : State) (g : Nat) (x : Gate) (j : Nat) : (s.setGate g x).engine j = s.engine j := rfl
@[simp] theorem State.setGate_vector (s : State) (g : Nat) (x : Gate) (j : Nat) : (s.setGate g x).vector j = s.vector j := rfl
@[simp] theorem State.setGate_gpio (s : State) (g : Nat) (x : Gate) (j : Nat) : (s.setGate g x).gpio j = s.gpio j := rfl
@[simp] theorem State.setGate_supply (s : State) (g : Nat) (x : Gate) (j : Nat) : (s.setGate g x).supply j = s.supply j := rfl
@[simp] theorem State.setGate_chan (s : State) (g : Nat) (x : Gate) (j l : Nat) : (s.setGate g x).chan j l = s.chan j l := rfl
@[simp] theorem State.setGate_note (s : State) (g : Nat) (x : Gate) (j l : Nat) : (s.setGate g x).note j l = s.note j l := rfl

/-! State.setCue. -/

@[simp] theorem State.setCue_cue (s : State) (c : Nat) (x : Cue) (j : Nat) : (s.setCue c x).cue j = if j = c then x else s.cue j := bankGet_bankSet _ _ _ _ _
@[simp] theorem State.setCue_variant (s : State) (c : Nat) (x : Cue) : (s.setCue c x).variant = s.variant := rfl
@[simp] theorem State.setCue_time (s : State) (c : Nat) (x : Cue) : (s.setCue c x).time = s.time := rfl
@[simp] theorem State.setCue_ports (s : State) (c : Nat) (x : Cue) : (s.setCue c x).ports = s.ports := rfl
@[simp] theorem State.setCue_ctxs (s : State) (c : Nat) (x : Cue) : (s.setCue c x).ctxs = s.ctxs := rfl
@[simp] theorem State.setCue_facets (s : State) (c : Nat) (x : Cue) : (s.setCue c x).facets = s.facets := rfl
@[simp] theorem State.setCue_accords (s : State) (c : Nat) (x : Cue) : (s.setCue c x).accords = s.accords := rfl
@[simp] theorem State.setCue_checks (s : State) (c : Nat) (x : Cue) : (s.setCue c x).checks = s.checks := rfl
@[simp] theorem State.setCue_service (s : State) (c : Nat) (x : Cue) : (s.setCue c x).service = s.service := rfl
@[simp] theorem State.setCue_bb (s : State) (c : Nat) (x : Cue) : (s.setCue c x).bb = s.bb := rfl
@[simp] theorem State.setCue_ring (s : State) (c : Nat) (x : Cue) : (s.setCue c x).ring = s.ring := rfl
@[simp] theorem State.setCue_ledger (s : State) (c : Nat) (x : Cue) : (s.setCue c x).ledger = s.ledger := rfl
@[simp] theorem State.setCue_board (s : State) (c : Nat) (x : Cue) : (s.setCue c x).board = s.board := rfl
@[simp] theorem State.setCue_sec (s : State) (c : Nat) (x : Cue) : (s.setCue c x).sec = s.sec := rfl
@[simp] theorem State.setCue_rst (s : State) (c : Nat) (x : Cue) : (s.setCue c x).rst = s.rst := rfl
@[simp] theorem State.setCue_host (s : State) (c : Nat) (x : Cue) : (s.setCue c x).host = s.host := rfl
@[simp] theorem State.setCue_engines (s : State) (c : Nat) (x : Cue) : (s.setCue c x).engines = s.engines := rfl
@[simp] theorem State.setCue_chans (s : State) (c : Nat) (x : Cue) : (s.setCue c x).chans = s.chans := rfl
@[simp] theorem State.setCue_router (s : State) (c : Nat) (x : Cue) : (s.setCue c x).router = s.router := rfl
@[simp] theorem State.setCue_log (s : State) (c : Nat) (x : Cue) : (s.setCue c x).log = s.log := rfl
@[simp] theorem State.setCue_mail (s : State) (c : Nat) (x : Cue) : (s.setCue c x).mail = s.mail := rfl
@[simp] theorem State.setCue_extMem (s : State) (c : Nat) (x : Cue) : (s.setCue c x).extMem = s.extMem := rfl
@[simp] theorem State.setCue_errors (s : State) (c : Nat) (x : Cue) : (s.setCue c x).errors = s.errors := rfl
@[simp] theorem State.setCue_freeCount (s : State) (c : Nat) (x : Cue) : (s.setCue c x).freeCount = s.freeCount := rfl
@[simp] theorem State.setCue_pending (s : State) (c : Nat) (x : Cue) : (s.setCue c x).pending = s.pending := rfl
@[simp] theorem State.setCue_port (s : State) (c : Nat) (x : Cue) (j : Nat) : (s.setCue c x).port j = s.port j := rfl
@[simp] theorem State.setCue_ctx (s : State) (c : Nat) (x : Cue) (j : Nat) : (s.setCue c x).ctx j = s.ctx j := rfl
@[simp] theorem State.setCue_facet (s : State) (c : Nat) (x : Cue) (j : Nat) : (s.setCue c x).facet j = s.facet j := rfl
@[simp] theorem State.setCue_accord (s : State) (c : Nat) (x : Cue) (j : Nat) : (s.setCue c x).accord j = s.accord j := rfl
@[simp] theorem State.setCue_check (s : State) (c : Nat) (x : Cue) (j : Nat) : (s.setCue c x).check j = s.check j := rfl
@[simp] theorem State.setCue_bbp (s : State) (c : Nat) (x : Cue) (j : Nat) : (s.setCue c x).bbp j = s.bbp j := rfl
@[simp] theorem State.setCue_stream (s : State) (c : Nat) (x : Cue) (j : Nat) : (s.setCue c x).stream j = s.stream j := rfl
@[simp] theorem State.setCue_axis (s : State) (c : Nat) (x : Cue) (j : Nat) : (s.setCue c x).axis j = s.axis j := rfl
@[simp] theorem State.setCue_mark (s : State) (c : Nat) (x : Cue) (j : Nat) : (s.setCue c x).mark j = s.mark j := rfl
@[simp] theorem State.setCue_gate (s : State) (c : Nat) (x : Cue) (j : Nat) : (s.setCue c x).gate j = s.gate j := rfl
@[simp] theorem State.setCue_strobe (s : State) (c : Nat) (x : Cue) (j : Nat) : (s.setCue c x).strobe j = s.strobe j := rfl
@[simp] theorem State.setCue_epochSet (s : State) (c : Nat) (x : Cue) (j : Nat) : (s.setCue c x).epochSet j = s.epochSet j := rfl
@[simp] theorem State.setCue_engine (s : State) (c : Nat) (x : Cue) (j : Nat) : (s.setCue c x).engine j = s.engine j := rfl
@[simp] theorem State.setCue_vector (s : State) (c : Nat) (x : Cue) (j : Nat) : (s.setCue c x).vector j = s.vector j := rfl
@[simp] theorem State.setCue_gpio (s : State) (c : Nat) (x : Cue) (j : Nat) : (s.setCue c x).gpio j = s.gpio j := rfl
@[simp] theorem State.setCue_supply (s : State) (c : Nat) (x : Cue) (j : Nat) : (s.setCue c x).supply j = s.supply j := rfl
@[simp] theorem State.setCue_chan (s : State) (c : Nat) (x : Cue) (j l : Nat) : (s.setCue c x).chan j l = s.chan j l := rfl
@[simp] theorem State.setCue_note (s : State) (c : Nat) (x : Cue) (j l : Nat) : (s.setCue c x).note j l = s.note j l := rfl

/-! State.setStrobe. -/

@[simp] theorem State.setStrobe_strobe (s : State) (k : Nat) (x : Strobe) (j : Nat) : (s.setStrobe k x).strobe j = if j = k then x else s.strobe j := bankGet_bankSet _ _ _ _ _
@[simp] theorem State.setStrobe_variant (s : State) (k : Nat) (x : Strobe) : (s.setStrobe k x).variant = s.variant := rfl
@[simp] theorem State.setStrobe_time (s : State) (k : Nat) (x : Strobe) : (s.setStrobe k x).time = s.time := rfl
@[simp] theorem State.setStrobe_ports (s : State) (k : Nat) (x : Strobe) : (s.setStrobe k x).ports = s.ports := rfl
@[simp] theorem State.setStrobe_ctxs (s : State) (k : Nat) (x : Strobe) : (s.setStrobe k x).ctxs = s.ctxs := rfl
@[simp] theorem State.setStrobe_facets (s : State) (k : Nat) (x : Strobe) : (s.setStrobe k x).facets = s.facets := rfl
@[simp] theorem State.setStrobe_accords (s : State) (k : Nat) (x : Strobe) : (s.setStrobe k x).accords = s.accords := rfl
@[simp] theorem State.setStrobe_checks (s : State) (k : Nat) (x : Strobe) : (s.setStrobe k x).checks = s.checks := rfl
@[simp] theorem State.setStrobe_service (s : State) (k : Nat) (x : Strobe) : (s.setStrobe k x).service = s.service := rfl
@[simp] theorem State.setStrobe_bb (s : State) (k : Nat) (x : Strobe) : (s.setStrobe k x).bb = s.bb := rfl
@[simp] theorem State.setStrobe_ring (s : State) (k : Nat) (x : Strobe) : (s.setStrobe k x).ring = s.ring := rfl
@[simp] theorem State.setStrobe_ledger (s : State) (k : Nat) (x : Strobe) : (s.setStrobe k x).ledger = s.ledger := rfl
@[simp] theorem State.setStrobe_board (s : State) (k : Nat) (x : Strobe) : (s.setStrobe k x).board = s.board := rfl
@[simp] theorem State.setStrobe_sec (s : State) (k : Nat) (x : Strobe) : (s.setStrobe k x).sec = s.sec := rfl
@[simp] theorem State.setStrobe_rst (s : State) (k : Nat) (x : Strobe) : (s.setStrobe k x).rst = s.rst := rfl
@[simp] theorem State.setStrobe_host (s : State) (k : Nat) (x : Strobe) : (s.setStrobe k x).host = s.host := rfl
@[simp] theorem State.setStrobe_engines (s : State) (k : Nat) (x : Strobe) : (s.setStrobe k x).engines = s.engines := rfl
@[simp] theorem State.setStrobe_chans (s : State) (k : Nat) (x : Strobe) : (s.setStrobe k x).chans = s.chans := rfl
@[simp] theorem State.setStrobe_router (s : State) (k : Nat) (x : Strobe) : (s.setStrobe k x).router = s.router := rfl
@[simp] theorem State.setStrobe_log (s : State) (k : Nat) (x : Strobe) : (s.setStrobe k x).log = s.log := rfl
@[simp] theorem State.setStrobe_mail (s : State) (k : Nat) (x : Strobe) : (s.setStrobe k x).mail = s.mail := rfl
@[simp] theorem State.setStrobe_extMem (s : State) (k : Nat) (x : Strobe) : (s.setStrobe k x).extMem = s.extMem := rfl
@[simp] theorem State.setStrobe_errors (s : State) (k : Nat) (x : Strobe) : (s.setStrobe k x).errors = s.errors := rfl
@[simp] theorem State.setStrobe_freeCount (s : State) (k : Nat) (x : Strobe) : (s.setStrobe k x).freeCount = s.freeCount := rfl
@[simp] theorem State.setStrobe_pending (s : State) (k : Nat) (x : Strobe) : (s.setStrobe k x).pending = s.pending := rfl
@[simp] theorem State.setStrobe_port (s : State) (k : Nat) (x : Strobe) (j : Nat) : (s.setStrobe k x).port j = s.port j := rfl
@[simp] theorem State.setStrobe_ctx (s : State) (k : Nat) (x : Strobe) (j : Nat) : (s.setStrobe k x).ctx j = s.ctx j := rfl
@[simp] theorem State.setStrobe_facet (s : State) (k : Nat) (x : Strobe) (j : Nat) : (s.setStrobe k x).facet j = s.facet j := rfl
@[simp] theorem State.setStrobe_accord (s : State) (k : Nat) (x : Strobe) (j : Nat) : (s.setStrobe k x).accord j = s.accord j := rfl
@[simp] theorem State.setStrobe_check (s : State) (k : Nat) (x : Strobe) (j : Nat) : (s.setStrobe k x).check j = s.check j := rfl
@[simp] theorem State.setStrobe_bbp (s : State) (k : Nat) (x : Strobe) (j : Nat) : (s.setStrobe k x).bbp j = s.bbp j := rfl
@[simp] theorem State.setStrobe_stream (s : State) (k : Nat) (x : Strobe) (j : Nat) : (s.setStrobe k x).stream j = s.stream j := rfl
@[simp] theorem State.setStrobe_axis (s : State) (k : Nat) (x : Strobe) (j : Nat) : (s.setStrobe k x).axis j = s.axis j := rfl
@[simp] theorem State.setStrobe_mark (s : State) (k : Nat) (x : Strobe) (j : Nat) : (s.setStrobe k x).mark j = s.mark j := rfl
@[simp] theorem State.setStrobe_gate (s : State) (k : Nat) (x : Strobe) (j : Nat) : (s.setStrobe k x).gate j = s.gate j := rfl
@[simp] theorem State.setStrobe_cue (s : State) (k : Nat) (x : Strobe) (j : Nat) : (s.setStrobe k x).cue j = s.cue j := rfl
@[simp] theorem State.setStrobe_epochSet (s : State) (k : Nat) (x : Strobe) (j : Nat) : (s.setStrobe k x).epochSet j = s.epochSet j := rfl
@[simp] theorem State.setStrobe_engine (s : State) (k : Nat) (x : Strobe) (j : Nat) : (s.setStrobe k x).engine j = s.engine j := rfl
@[simp] theorem State.setStrobe_vector (s : State) (k : Nat) (x : Strobe) (j : Nat) : (s.setStrobe k x).vector j = s.vector j := rfl
@[simp] theorem State.setStrobe_gpio (s : State) (k : Nat) (x : Strobe) (j : Nat) : (s.setStrobe k x).gpio j = s.gpio j := rfl
@[simp] theorem State.setStrobe_supply (s : State) (k : Nat) (x : Strobe) (j : Nat) : (s.setStrobe k x).supply j = s.supply j := rfl
@[simp] theorem State.setStrobe_chan (s : State) (k : Nat) (x : Strobe) (j l : Nat) : (s.setStrobe k x).chan j l = s.chan j l := rfl
@[simp] theorem State.setStrobe_note (s : State) (k : Nat) (x : Strobe) (j l : Nat) : (s.setStrobe k x).note j l = s.note j l := rfl

/-! State.setEpochSet. -/

@[simp] theorem State.setEpochSet_epochSet (s : State) (k : Nat) (x : EpochSet) (j : Nat) : (s.setEpochSet k x).epochSet j = if j = k then x else s.epochSet j := bankGet_bankSet _ _ _ _ _
@[simp] theorem State.setEpochSet_variant (s : State) (k : Nat) (x : EpochSet) : (s.setEpochSet k x).variant = s.variant := rfl
@[simp] theorem State.setEpochSet_time (s : State) (k : Nat) (x : EpochSet) : (s.setEpochSet k x).time = s.time := rfl
@[simp] theorem State.setEpochSet_ports (s : State) (k : Nat) (x : EpochSet) : (s.setEpochSet k x).ports = s.ports := rfl
@[simp] theorem State.setEpochSet_ctxs (s : State) (k : Nat) (x : EpochSet) : (s.setEpochSet k x).ctxs = s.ctxs := rfl
@[simp] theorem State.setEpochSet_facets (s : State) (k : Nat) (x : EpochSet) : (s.setEpochSet k x).facets = s.facets := rfl
@[simp] theorem State.setEpochSet_accords (s : State) (k : Nat) (x : EpochSet) : (s.setEpochSet k x).accords = s.accords := rfl
@[simp] theorem State.setEpochSet_checks (s : State) (k : Nat) (x : EpochSet) : (s.setEpochSet k x).checks = s.checks := rfl
@[simp] theorem State.setEpochSet_service (s : State) (k : Nat) (x : EpochSet) : (s.setEpochSet k x).service = s.service := rfl
@[simp] theorem State.setEpochSet_bb (s : State) (k : Nat) (x : EpochSet) : (s.setEpochSet k x).bb = s.bb := rfl
@[simp] theorem State.setEpochSet_ring (s : State) (k : Nat) (x : EpochSet) : (s.setEpochSet k x).ring = s.ring := rfl
@[simp] theorem State.setEpochSet_ledger (s : State) (k : Nat) (x : EpochSet) : (s.setEpochSet k x).ledger = s.ledger := rfl
@[simp] theorem State.setEpochSet_board (s : State) (k : Nat) (x : EpochSet) : (s.setEpochSet k x).board = s.board := rfl
@[simp] theorem State.setEpochSet_sec (s : State) (k : Nat) (x : EpochSet) : (s.setEpochSet k x).sec = s.sec := rfl
@[simp] theorem State.setEpochSet_rst (s : State) (k : Nat) (x : EpochSet) : (s.setEpochSet k x).rst = s.rst := rfl
@[simp] theorem State.setEpochSet_host (s : State) (k : Nat) (x : EpochSet) : (s.setEpochSet k x).host = s.host := rfl
@[simp] theorem State.setEpochSet_engines (s : State) (k : Nat) (x : EpochSet) : (s.setEpochSet k x).engines = s.engines := rfl
@[simp] theorem State.setEpochSet_chans (s : State) (k : Nat) (x : EpochSet) : (s.setEpochSet k x).chans = s.chans := rfl
@[simp] theorem State.setEpochSet_router (s : State) (k : Nat) (x : EpochSet) : (s.setEpochSet k x).router = s.router := rfl
@[simp] theorem State.setEpochSet_log (s : State) (k : Nat) (x : EpochSet) : (s.setEpochSet k x).log = s.log := rfl
@[simp] theorem State.setEpochSet_mail (s : State) (k : Nat) (x : EpochSet) : (s.setEpochSet k x).mail = s.mail := rfl
@[simp] theorem State.setEpochSet_extMem (s : State) (k : Nat) (x : EpochSet) : (s.setEpochSet k x).extMem = s.extMem := rfl
@[simp] theorem State.setEpochSet_errors (s : State) (k : Nat) (x : EpochSet) : (s.setEpochSet k x).errors = s.errors := rfl
@[simp] theorem State.setEpochSet_freeCount (s : State) (k : Nat) (x : EpochSet) : (s.setEpochSet k x).freeCount = s.freeCount := rfl
@[simp] theorem State.setEpochSet_pending (s : State) (k : Nat) (x : EpochSet) : (s.setEpochSet k x).pending = s.pending := rfl
@[simp] theorem State.setEpochSet_port (s : State) (k : Nat) (x : EpochSet) (j : Nat) : (s.setEpochSet k x).port j = s.port j := rfl
@[simp] theorem State.setEpochSet_ctx (s : State) (k : Nat) (x : EpochSet) (j : Nat) : (s.setEpochSet k x).ctx j = s.ctx j := rfl
@[simp] theorem State.setEpochSet_facet (s : State) (k : Nat) (x : EpochSet) (j : Nat) : (s.setEpochSet k x).facet j = s.facet j := rfl
@[simp] theorem State.setEpochSet_accord (s : State) (k : Nat) (x : EpochSet) (j : Nat) : (s.setEpochSet k x).accord j = s.accord j := rfl
@[simp] theorem State.setEpochSet_check (s : State) (k : Nat) (x : EpochSet) (j : Nat) : (s.setEpochSet k x).check j = s.check j := rfl
@[simp] theorem State.setEpochSet_bbp (s : State) (k : Nat) (x : EpochSet) (j : Nat) : (s.setEpochSet k x).bbp j = s.bbp j := rfl
@[simp] theorem State.setEpochSet_stream (s : State) (k : Nat) (x : EpochSet) (j : Nat) : (s.setEpochSet k x).stream j = s.stream j := rfl
@[simp] theorem State.setEpochSet_axis (s : State) (k : Nat) (x : EpochSet) (j : Nat) : (s.setEpochSet k x).axis j = s.axis j := rfl
@[simp] theorem State.setEpochSet_mark (s : State) (k : Nat) (x : EpochSet) (j : Nat) : (s.setEpochSet k x).mark j = s.mark j := rfl
@[simp] theorem State.setEpochSet_gate (s : State) (k : Nat) (x : EpochSet) (j : Nat) : (s.setEpochSet k x).gate j = s.gate j := rfl
@[simp] theorem State.setEpochSet_cue (s : State) (k : Nat) (x : EpochSet) (j : Nat) : (s.setEpochSet k x).cue j = s.cue j := rfl
@[simp] theorem State.setEpochSet_strobe (s : State) (k : Nat) (x : EpochSet) (j : Nat) : (s.setEpochSet k x).strobe j = s.strobe j := rfl
@[simp] theorem State.setEpochSet_engine (s : State) (k : Nat) (x : EpochSet) (j : Nat) : (s.setEpochSet k x).engine j = s.engine j := rfl
@[simp] theorem State.setEpochSet_vector (s : State) (k : Nat) (x : EpochSet) (j : Nat) : (s.setEpochSet k x).vector j = s.vector j := rfl
@[simp] theorem State.setEpochSet_gpio (s : State) (k : Nat) (x : EpochSet) (j : Nat) : (s.setEpochSet k x).gpio j = s.gpio j := rfl
@[simp] theorem State.setEpochSet_supply (s : State) (k : Nat) (x : EpochSet) (j : Nat) : (s.setEpochSet k x).supply j = s.supply j := rfl
@[simp] theorem State.setEpochSet_chan (s : State) (k : Nat) (x : EpochSet) (j l : Nat) : (s.setEpochSet k x).chan j l = s.chan j l := rfl
@[simp] theorem State.setEpochSet_note (s : State) (k : Nat) (x : EpochSet) (j l : Nat) : (s.setEpochSet k x).note j l = s.note j l := rfl

/-! State.setEngine. -/

@[simp] theorem State.setEngine_engine (s : State) (e : Nat) (x : Engine) (j : Nat) : (s.setEngine e x).engine j = if j = e then x else s.engine j := bankGet_bankSet _ _ _ _ _
@[simp] theorem State.setEngine_variant (s : State) (e : Nat) (x : Engine) : (s.setEngine e x).variant = s.variant := rfl
@[simp] theorem State.setEngine_time (s : State) (e : Nat) (x : Engine) : (s.setEngine e x).time = s.time := rfl
@[simp] theorem State.setEngine_tu (s : State) (e : Nat) (x : Engine) : (s.setEngine e x).tu = s.tu := rfl
@[simp] theorem State.setEngine_ports (s : State) (e : Nat) (x : Engine) : (s.setEngine e x).ports = s.ports := rfl
@[simp] theorem State.setEngine_ctxs (s : State) (e : Nat) (x : Engine) : (s.setEngine e x).ctxs = s.ctxs := rfl
@[simp] theorem State.setEngine_facets (s : State) (e : Nat) (x : Engine) : (s.setEngine e x).facets = s.facets := rfl
@[simp] theorem State.setEngine_accords (s : State) (e : Nat) (x : Engine) : (s.setEngine e x).accords = s.accords := rfl
@[simp] theorem State.setEngine_checks (s : State) (e : Nat) (x : Engine) : (s.setEngine e x).checks = s.checks := rfl
@[simp] theorem State.setEngine_service (s : State) (e : Nat) (x : Engine) : (s.setEngine e x).service = s.service := rfl
@[simp] theorem State.setEngine_bb (s : State) (e : Nat) (x : Engine) : (s.setEngine e x).bb = s.bb := rfl
@[simp] theorem State.setEngine_ring (s : State) (e : Nat) (x : Engine) : (s.setEngine e x).ring = s.ring := rfl
@[simp] theorem State.setEngine_ledger (s : State) (e : Nat) (x : Engine) : (s.setEngine e x).ledger = s.ledger := rfl
@[simp] theorem State.setEngine_board (s : State) (e : Nat) (x : Engine) : (s.setEngine e x).board = s.board := rfl
@[simp] theorem State.setEngine_sec (s : State) (e : Nat) (x : Engine) : (s.setEngine e x).sec = s.sec := rfl
@[simp] theorem State.setEngine_rst (s : State) (e : Nat) (x : Engine) : (s.setEngine e x).rst = s.rst := rfl
@[simp] theorem State.setEngine_host (s : State) (e : Nat) (x : Engine) : (s.setEngine e x).host = s.host := rfl
@[simp] theorem State.setEngine_chans (s : State) (e : Nat) (x : Engine) : (s.setEngine e x).chans = s.chans := rfl
@[simp] theorem State.setEngine_router (s : State) (e : Nat) (x : Engine) : (s.setEngine e x).router = s.router := rfl
@[simp] theorem State.setEngine_log (s : State) (e : Nat) (x : Engine) : (s.setEngine e x).log = s.log := rfl
@[simp] theorem State.setEngine_mail (s : State) (e : Nat) (x : Engine) : (s.setEngine e x).mail = s.mail := rfl
@[simp] theorem State.setEngine_extMem (s : State) (e : Nat) (x : Engine) : (s.setEngine e x).extMem = s.extMem := rfl
@[simp] theorem State.setEngine_errors (s : State) (e : Nat) (x : Engine) : (s.setEngine e x).errors = s.errors := rfl
@[simp] theorem State.setEngine_freeCount (s : State) (e : Nat) (x : Engine) : (s.setEngine e x).freeCount = s.freeCount := rfl
@[simp] theorem State.setEngine_pending (s : State) (e : Nat) (x : Engine) : (s.setEngine e x).pending = s.pending := rfl
@[simp] theorem State.setEngine_port (s : State) (e : Nat) (x : Engine) (j : Nat) : (s.setEngine e x).port j = s.port j := rfl
@[simp] theorem State.setEngine_ctx (s : State) (e : Nat) (x : Engine) (j : Nat) : (s.setEngine e x).ctx j = s.ctx j := rfl
@[simp] theorem State.setEngine_facet (s : State) (e : Nat) (x : Engine) (j : Nat) : (s.setEngine e x).facet j = s.facet j := rfl
@[simp] theorem State.setEngine_accord (s : State) (e : Nat) (x : Engine) (j : Nat) : (s.setEngine e x).accord j = s.accord j := rfl
@[simp] theorem State.setEngine_check (s : State) (e : Nat) (x : Engine) (j : Nat) : (s.setEngine e x).check j = s.check j := rfl
@[simp] theorem State.setEngine_bbp (s : State) (e : Nat) (x : Engine) (j : Nat) : (s.setEngine e x).bbp j = s.bbp j := rfl
@[simp] theorem State.setEngine_stream (s : State) (e : Nat) (x : Engine) (j : Nat) : (s.setEngine e x).stream j = s.stream j := rfl
@[simp] theorem State.setEngine_axis (s : State) (e : Nat) (x : Engine) (j : Nat) : (s.setEngine e x).axis j = s.axis j := rfl
@[simp] theorem State.setEngine_mark (s : State) (e : Nat) (x : Engine) (j : Nat) : (s.setEngine e x).mark j = s.mark j := rfl
@[simp] theorem State.setEngine_gate (s : State) (e : Nat) (x : Engine) (j : Nat) : (s.setEngine e x).gate j = s.gate j := rfl
@[simp] theorem State.setEngine_cue (s : State) (e : Nat) (x : Engine) (j : Nat) : (s.setEngine e x).cue j = s.cue j := rfl
@[simp] theorem State.setEngine_strobe (s : State) (e : Nat) (x : Engine) (j : Nat) : (s.setEngine e x).strobe j = s.strobe j := rfl
@[simp] theorem State.setEngine_epochSet (s : State) (e : Nat) (x : Engine) (j : Nat) : (s.setEngine e x).epochSet j = s.epochSet j := rfl
@[simp] theorem State.setEngine_vector (s : State) (e : Nat) (x : Engine) (j : Nat) : (s.setEngine e x).vector j = s.vector j := rfl
@[simp] theorem State.setEngine_gpio (s : State) (e : Nat) (x : Engine) (j : Nat) : (s.setEngine e x).gpio j = s.gpio j := rfl
@[simp] theorem State.setEngine_supply (s : State) (e : Nat) (x : Engine) (j : Nat) : (s.setEngine e x).supply j = s.supply j := rfl
@[simp] theorem State.setEngine_chan (s : State) (e : Nat) (x : Engine) (j l : Nat) : (s.setEngine e x).chan j l = s.chan j l := rfl
@[simp] theorem State.setEngine_note (s : State) (e : Nat) (x : Engine) (j l : Nat) : (s.setEngine e x).note j l = s.note j l := rfl

/-! State.setVector. -/

@[simp] theorem State.setVector_vector (s : State) (v : Nat) (x : Vector) (j : Nat) : (s.setVector v x).vector j = if j = v then x else s.vector j := bankGet_bankSet _ _ _ _ _
@[simp] theorem State.setVector_variant (s : State) (v : Nat) (x : Vector) : (s.setVector v x).variant = s.variant := rfl
@[simp] theorem State.setVector_time (s : State) (v : Nat) (x : Vector) : (s.setVector v x).time = s.time := rfl
@[simp] theorem State.setVector_tu (s : State) (v : Nat) (x : Vector) : (s.setVector v x).tu = s.tu := rfl
@[simp] theorem State.setVector_ports (s : State) (v : Nat) (x : Vector) : (s.setVector v x).ports = s.ports := rfl
@[simp] theorem State.setVector_ctxs (s : State) (v : Nat) (x : Vector) : (s.setVector v x).ctxs = s.ctxs := rfl
@[simp] theorem State.setVector_facets (s : State) (v : Nat) (x : Vector) : (s.setVector v x).facets = s.facets := rfl
@[simp] theorem State.setVector_accords (s : State) (v : Nat) (x : Vector) : (s.setVector v x).accords = s.accords := rfl
@[simp] theorem State.setVector_checks (s : State) (v : Nat) (x : Vector) : (s.setVector v x).checks = s.checks := rfl
@[simp] theorem State.setVector_service (s : State) (v : Nat) (x : Vector) : (s.setVector v x).service = s.service := rfl
@[simp] theorem State.setVector_bb (s : State) (v : Nat) (x : Vector) : (s.setVector v x).bb = s.bb := rfl
@[simp] theorem State.setVector_ring (s : State) (v : Nat) (x : Vector) : (s.setVector v x).ring = s.ring := rfl
@[simp] theorem State.setVector_ledger (s : State) (v : Nat) (x : Vector) : (s.setVector v x).ledger = s.ledger := rfl
@[simp] theorem State.setVector_board (s : State) (v : Nat) (x : Vector) : (s.setVector v x).board = s.board := rfl
@[simp] theorem State.setVector_sec (s : State) (v : Nat) (x : Vector) : (s.setVector v x).sec = s.sec := rfl
@[simp] theorem State.setVector_rst (s : State) (v : Nat) (x : Vector) : (s.setVector v x).rst = s.rst := rfl
@[simp] theorem State.setVector_host (s : State) (v : Nat) (x : Vector) : (s.setVector v x).host = s.host := rfl
@[simp] theorem State.setVector_engines (s : State) (v : Nat) (x : Vector) : (s.setVector v x).engines = s.engines := rfl
@[simp] theorem State.setVector_chans (s : State) (v : Nat) (x : Vector) : (s.setVector v x).chans = s.chans := rfl
@[simp] theorem State.setVector_log (s : State) (v : Nat) (x : Vector) : (s.setVector v x).log = s.log := rfl
@[simp] theorem State.setVector_mail (s : State) (v : Nat) (x : Vector) : (s.setVector v x).mail = s.mail := rfl
@[simp] theorem State.setVector_extMem (s : State) (v : Nat) (x : Vector) : (s.setVector v x).extMem = s.extMem := rfl
@[simp] theorem State.setVector_errors (s : State) (v : Nat) (x : Vector) : (s.setVector v x).errors = s.errors := rfl
@[simp] theorem State.setVector_freeCount (s : State) (v : Nat) (x : Vector) : (s.setVector v x).freeCount = s.freeCount := rfl
@[simp] theorem State.setVector_pending (s : State) (v : Nat) (x : Vector) : (s.setVector v x).pending = s.pending := rfl
@[simp] theorem State.setVector_port (s : State) (v : Nat) (x : Vector) (j : Nat) : (s.setVector v x).port j = s.port j := rfl
@[simp] theorem State.setVector_ctx (s : State) (v : Nat) (x : Vector) (j : Nat) : (s.setVector v x).ctx j = s.ctx j := rfl
@[simp] theorem State.setVector_facet (s : State) (v : Nat) (x : Vector) (j : Nat) : (s.setVector v x).facet j = s.facet j := rfl
@[simp] theorem State.setVector_accord (s : State) (v : Nat) (x : Vector) (j : Nat) : (s.setVector v x).accord j = s.accord j := rfl
@[simp] theorem State.setVector_check (s : State) (v : Nat) (x : Vector) (j : Nat) : (s.setVector v x).check j = s.check j := rfl
@[simp] theorem State.setVector_bbp (s : State) (v : Nat) (x : Vector) (j : Nat) : (s.setVector v x).bbp j = s.bbp j := rfl
@[simp] theorem State.setVector_stream (s : State) (v : Nat) (x : Vector) (j : Nat) : (s.setVector v x).stream j = s.stream j := rfl
@[simp] theorem State.setVector_axis (s : State) (v : Nat) (x : Vector) (j : Nat) : (s.setVector v x).axis j = s.axis j := rfl
@[simp] theorem State.setVector_mark (s : State) (v : Nat) (x : Vector) (j : Nat) : (s.setVector v x).mark j = s.mark j := rfl
@[simp] theorem State.setVector_gate (s : State) (v : Nat) (x : Vector) (j : Nat) : (s.setVector v x).gate j = s.gate j := rfl
@[simp] theorem State.setVector_cue (s : State) (v : Nat) (x : Vector) (j : Nat) : (s.setVector v x).cue j = s.cue j := rfl
@[simp] theorem State.setVector_strobe (s : State) (v : Nat) (x : Vector) (j : Nat) : (s.setVector v x).strobe j = s.strobe j := rfl
@[simp] theorem State.setVector_epochSet (s : State) (v : Nat) (x : Vector) (j : Nat) : (s.setVector v x).epochSet j = s.epochSet j := rfl
@[simp] theorem State.setVector_engine (s : State) (v : Nat) (x : Vector) (j : Nat) : (s.setVector v x).engine j = s.engine j := rfl
@[simp] theorem State.setVector_gpio (s : State) (v : Nat) (x : Vector) (j : Nat) : (s.setVector v x).gpio j = s.gpio j := rfl
@[simp] theorem State.setVector_supply (s : State) (v : Nat) (x : Vector) (j : Nat) : (s.setVector v x).supply j = s.supply j := rfl
@[simp] theorem State.setVector_chan (s : State) (v : Nat) (x : Vector) (j l : Nat) : (s.setVector v x).chan j l = s.chan j l := rfl
@[simp] theorem State.setVector_note (s : State) (v : Nat) (x : Vector) (j l : Nat) : (s.setVector v x).note j l = s.note j l := rfl

/-! State.setGpio. -/

@[simp] theorem State.setGpio_gpio (s : State) (k : Nat) (x : Gpio) (j : Nat) : (s.setGpio k x).gpio j = if j = k then x else s.gpio j := bankGet_bankSet _ _ _ _ _
@[simp] theorem State.setGpio_variant (s : State) (k : Nat) (x : Gpio) : (s.setGpio k x).variant = s.variant := rfl
@[simp] theorem State.setGpio_time (s : State) (k : Nat) (x : Gpio) : (s.setGpio k x).time = s.time := rfl
@[simp] theorem State.setGpio_tu (s : State) (k : Nat) (x : Gpio) : (s.setGpio k x).tu = s.tu := rfl
@[simp] theorem State.setGpio_ports (s : State) (k : Nat) (x : Gpio) : (s.setGpio k x).ports = s.ports := rfl
@[simp] theorem State.setGpio_ctxs (s : State) (k : Nat) (x : Gpio) : (s.setGpio k x).ctxs = s.ctxs := rfl
@[simp] theorem State.setGpio_facets (s : State) (k : Nat) (x : Gpio) : (s.setGpio k x).facets = s.facets := rfl
@[simp] theorem State.setGpio_accords (s : State) (k : Nat) (x : Gpio) : (s.setGpio k x).accords = s.accords := rfl
@[simp] theorem State.setGpio_checks (s : State) (k : Nat) (x : Gpio) : (s.setGpio k x).checks = s.checks := rfl
@[simp] theorem State.setGpio_service (s : State) (k : Nat) (x : Gpio) : (s.setGpio k x).service = s.service := rfl
@[simp] theorem State.setGpio_bb (s : State) (k : Nat) (x : Gpio) : (s.setGpio k x).bb = s.bb := rfl
@[simp] theorem State.setGpio_ring (s : State) (k : Nat) (x : Gpio) : (s.setGpio k x).ring = s.ring := rfl
@[simp] theorem State.setGpio_ledger (s : State) (k : Nat) (x : Gpio) : (s.setGpio k x).ledger = s.ledger := rfl
@[simp] theorem State.setGpio_sec (s : State) (k : Nat) (x : Gpio) : (s.setGpio k x).sec = s.sec := rfl
@[simp] theorem State.setGpio_rst (s : State) (k : Nat) (x : Gpio) : (s.setGpio k x).rst = s.rst := rfl
@[simp] theorem State.setGpio_host (s : State) (k : Nat) (x : Gpio) : (s.setGpio k x).host = s.host := rfl
@[simp] theorem State.setGpio_engines (s : State) (k : Nat) (x : Gpio) : (s.setGpio k x).engines = s.engines := rfl
@[simp] theorem State.setGpio_chans (s : State) (k : Nat) (x : Gpio) : (s.setGpio k x).chans = s.chans := rfl
@[simp] theorem State.setGpio_router (s : State) (k : Nat) (x : Gpio) : (s.setGpio k x).router = s.router := rfl
@[simp] theorem State.setGpio_log (s : State) (k : Nat) (x : Gpio) : (s.setGpio k x).log = s.log := rfl
@[simp] theorem State.setGpio_mail (s : State) (k : Nat) (x : Gpio) : (s.setGpio k x).mail = s.mail := rfl
@[simp] theorem State.setGpio_extMem (s : State) (k : Nat) (x : Gpio) : (s.setGpio k x).extMem = s.extMem := rfl
@[simp] theorem State.setGpio_errors (s : State) (k : Nat) (x : Gpio) : (s.setGpio k x).errors = s.errors := rfl
@[simp] theorem State.setGpio_freeCount (s : State) (k : Nat) (x : Gpio) : (s.setGpio k x).freeCount = s.freeCount := rfl
@[simp] theorem State.setGpio_pending (s : State) (k : Nat) (x : Gpio) : (s.setGpio k x).pending = s.pending := rfl
@[simp] theorem State.setGpio_port (s : State) (k : Nat) (x : Gpio) (j : Nat) : (s.setGpio k x).port j = s.port j := rfl
@[simp] theorem State.setGpio_ctx (s : State) (k : Nat) (x : Gpio) (j : Nat) : (s.setGpio k x).ctx j = s.ctx j := rfl
@[simp] theorem State.setGpio_facet (s : State) (k : Nat) (x : Gpio) (j : Nat) : (s.setGpio k x).facet j = s.facet j := rfl
@[simp] theorem State.setGpio_accord (s : State) (k : Nat) (x : Gpio) (j : Nat) : (s.setGpio k x).accord j = s.accord j := rfl
@[simp] theorem State.setGpio_check (s : State) (k : Nat) (x : Gpio) (j : Nat) : (s.setGpio k x).check j = s.check j := rfl
@[simp] theorem State.setGpio_bbp (s : State) (k : Nat) (x : Gpio) (j : Nat) : (s.setGpio k x).bbp j = s.bbp j := rfl
@[simp] theorem State.setGpio_stream (s : State) (k : Nat) (x : Gpio) (j : Nat) : (s.setGpio k x).stream j = s.stream j := rfl
@[simp] theorem State.setGpio_axis (s : State) (k : Nat) (x : Gpio) (j : Nat) : (s.setGpio k x).axis j = s.axis j := rfl
@[simp] theorem State.setGpio_mark (s : State) (k : Nat) (x : Gpio) (j : Nat) : (s.setGpio k x).mark j = s.mark j := rfl
@[simp] theorem State.setGpio_gate (s : State) (k : Nat) (x : Gpio) (j : Nat) : (s.setGpio k x).gate j = s.gate j := rfl
@[simp] theorem State.setGpio_cue (s : State) (k : Nat) (x : Gpio) (j : Nat) : (s.setGpio k x).cue j = s.cue j := rfl
@[simp] theorem State.setGpio_strobe (s : State) (k : Nat) (x : Gpio) (j : Nat) : (s.setGpio k x).strobe j = s.strobe j := rfl
@[simp] theorem State.setGpio_epochSet (s : State) (k : Nat) (x : Gpio) (j : Nat) : (s.setGpio k x).epochSet j = s.epochSet j := rfl
@[simp] theorem State.setGpio_engine (s : State) (k : Nat) (x : Gpio) (j : Nat) : (s.setGpio k x).engine j = s.engine j := rfl
@[simp] theorem State.setGpio_vector (s : State) (k : Nat) (x : Gpio) (j : Nat) : (s.setGpio k x).vector j = s.vector j := rfl
@[simp] theorem State.setGpio_supply (s : State) (k : Nat) (x : Gpio) (j : Nat) : (s.setGpio k x).supply j = s.supply j := rfl
@[simp] theorem State.setGpio_chan (s : State) (k : Nat) (x : Gpio) (j l : Nat) : (s.setGpio k x).chan j l = s.chan j l := rfl
@[simp] theorem State.setGpio_note (s : State) (k : Nat) (x : Gpio) (j l : Nat) : (s.setGpio k x).note j l = s.note j l := rfl

/-! State.setSupply. -/

@[simp] theorem State.setSupply_supply (s : State) (n : Nat) (x : Supply) (j : Nat) : (s.setSupply n x).supply j = if j = n then x else s.supply j := bankGet_bankSet _ _ _ _ _
@[simp] theorem State.setSupply_variant (s : State) (n : Nat) (x : Supply) : (s.setSupply n x).variant = s.variant := rfl
@[simp] theorem State.setSupply_time (s : State) (n : Nat) (x : Supply) : (s.setSupply n x).time = s.time := rfl
@[simp] theorem State.setSupply_tu (s : State) (n : Nat) (x : Supply) : (s.setSupply n x).tu = s.tu := rfl
@[simp] theorem State.setSupply_ports (s : State) (n : Nat) (x : Supply) : (s.setSupply n x).ports = s.ports := rfl
@[simp] theorem State.setSupply_ctxs (s : State) (n : Nat) (x : Supply) : (s.setSupply n x).ctxs = s.ctxs := rfl
@[simp] theorem State.setSupply_facets (s : State) (n : Nat) (x : Supply) : (s.setSupply n x).facets = s.facets := rfl
@[simp] theorem State.setSupply_accords (s : State) (n : Nat) (x : Supply) : (s.setSupply n x).accords = s.accords := rfl
@[simp] theorem State.setSupply_checks (s : State) (n : Nat) (x : Supply) : (s.setSupply n x).checks = s.checks := rfl
@[simp] theorem State.setSupply_service (s : State) (n : Nat) (x : Supply) : (s.setSupply n x).service = s.service := rfl
@[simp] theorem State.setSupply_bb (s : State) (n : Nat) (x : Supply) : (s.setSupply n x).bb = s.bb := rfl
@[simp] theorem State.setSupply_ring (s : State) (n : Nat) (x : Supply) : (s.setSupply n x).ring = s.ring := rfl
@[simp] theorem State.setSupply_ledger (s : State) (n : Nat) (x : Supply) : (s.setSupply n x).ledger = s.ledger := rfl
@[simp] theorem State.setSupply_sec (s : State) (n : Nat) (x : Supply) : (s.setSupply n x).sec = s.sec := rfl
@[simp] theorem State.setSupply_rst (s : State) (n : Nat) (x : Supply) : (s.setSupply n x).rst = s.rst := rfl
@[simp] theorem State.setSupply_host (s : State) (n : Nat) (x : Supply) : (s.setSupply n x).host = s.host := rfl
@[simp] theorem State.setSupply_engines (s : State) (n : Nat) (x : Supply) : (s.setSupply n x).engines = s.engines := rfl
@[simp] theorem State.setSupply_chans (s : State) (n : Nat) (x : Supply) : (s.setSupply n x).chans = s.chans := rfl
@[simp] theorem State.setSupply_router (s : State) (n : Nat) (x : Supply) : (s.setSupply n x).router = s.router := rfl
@[simp] theorem State.setSupply_log (s : State) (n : Nat) (x : Supply) : (s.setSupply n x).log = s.log := rfl
@[simp] theorem State.setSupply_mail (s : State) (n : Nat) (x : Supply) : (s.setSupply n x).mail = s.mail := rfl
@[simp] theorem State.setSupply_extMem (s : State) (n : Nat) (x : Supply) : (s.setSupply n x).extMem = s.extMem := rfl
@[simp] theorem State.setSupply_errors (s : State) (n : Nat) (x : Supply) : (s.setSupply n x).errors = s.errors := rfl
@[simp] theorem State.setSupply_freeCount (s : State) (n : Nat) (x : Supply) : (s.setSupply n x).freeCount = s.freeCount := rfl
@[simp] theorem State.setSupply_pending (s : State) (n : Nat) (x : Supply) : (s.setSupply n x).pending = s.pending := rfl
@[simp] theorem State.setSupply_port (s : State) (n : Nat) (x : Supply) (j : Nat) : (s.setSupply n x).port j = s.port j := rfl
@[simp] theorem State.setSupply_ctx (s : State) (n : Nat) (x : Supply) (j : Nat) : (s.setSupply n x).ctx j = s.ctx j := rfl
@[simp] theorem State.setSupply_facet (s : State) (n : Nat) (x : Supply) (j : Nat) : (s.setSupply n x).facet j = s.facet j := rfl
@[simp] theorem State.setSupply_accord (s : State) (n : Nat) (x : Supply) (j : Nat) : (s.setSupply n x).accord j = s.accord j := rfl
@[simp] theorem State.setSupply_check (s : State) (n : Nat) (x : Supply) (j : Nat) : (s.setSupply n x).check j = s.check j := rfl
@[simp] theorem State.setSupply_bbp (s : State) (n : Nat) (x : Supply) (j : Nat) : (s.setSupply n x).bbp j = s.bbp j := rfl
@[simp] theorem State.setSupply_stream (s : State) (n : Nat) (x : Supply) (j : Nat) : (s.setSupply n x).stream j = s.stream j := rfl
@[simp] theorem State.setSupply_axis (s : State) (n : Nat) (x : Supply) (j : Nat) : (s.setSupply n x).axis j = s.axis j := rfl
@[simp] theorem State.setSupply_mark (s : State) (n : Nat) (x : Supply) (j : Nat) : (s.setSupply n x).mark j = s.mark j := rfl
@[simp] theorem State.setSupply_gate (s : State) (n : Nat) (x : Supply) (j : Nat) : (s.setSupply n x).gate j = s.gate j := rfl
@[simp] theorem State.setSupply_cue (s : State) (n : Nat) (x : Supply) (j : Nat) : (s.setSupply n x).cue j = s.cue j := rfl
@[simp] theorem State.setSupply_strobe (s : State) (n : Nat) (x : Supply) (j : Nat) : (s.setSupply n x).strobe j = s.strobe j := rfl
@[simp] theorem State.setSupply_epochSet (s : State) (n : Nat) (x : Supply) (j : Nat) : (s.setSupply n x).epochSet j = s.epochSet j := rfl
@[simp] theorem State.setSupply_engine (s : State) (n : Nat) (x : Supply) (j : Nat) : (s.setSupply n x).engine j = s.engine j := rfl
@[simp] theorem State.setSupply_vector (s : State) (n : Nat) (x : Supply) (j : Nat) : (s.setSupply n x).vector j = s.vector j := rfl
@[simp] theorem State.setSupply_gpio (s : State) (n : Nat) (x : Supply) (j : Nat) : (s.setSupply n x).gpio j = s.gpio j := rfl
@[simp] theorem State.setSupply_chan (s : State) (n : Nat) (x : Supply) (j l : Nat) : (s.setSupply n x).chan j l = s.chan j l := rfl
@[simp] theorem State.setSupply_note (s : State) (n : Nat) (x : Supply) (j l : Nat) : (s.setSupply n x).note j l = s.note j l := rfl

/-! State.setChan. -/

@[simp] theorem State.setChan_chan (s : State) (e ch : Nat) (x : Channel) : (s.setChan e ch x).chan e ch = x := by unfold State.chan State.setChan; simp
@[simp] theorem State.setChan_variant (s : State) (e ch : Nat) (x : Channel) : (s.setChan e ch x).variant = s.variant := rfl
@[simp] theorem State.setChan_time (s : State) (e ch : Nat) (x : Channel) : (s.setChan e ch x).time = s.time := rfl
@[simp] theorem State.setChan_tu (s : State) (e ch : Nat) (x : Channel) : (s.setChan e ch x).tu = s.tu := rfl
@[simp] theorem State.setChan_ports (s : State) (e ch : Nat) (x : Channel) : (s.setChan e ch x).ports = s.ports := rfl
@[simp] theorem State.setChan_ctxs (s : State) (e ch : Nat) (x : Channel) : (s.setChan e ch x).ctxs = s.ctxs := rfl
@[simp] theorem State.setChan_facets (s : State) (e ch : Nat) (x : Channel) : (s.setChan e ch x).facets = s.facets := rfl
@[simp] theorem State.setChan_accords (s : State) (e ch : Nat) (x : Channel) : (s.setChan e ch x).accords = s.accords := rfl
@[simp] theorem State.setChan_checks (s : State) (e ch : Nat) (x : Channel) : (s.setChan e ch x).checks = s.checks := rfl
@[simp] theorem State.setChan_service (s : State) (e ch : Nat) (x : Channel) : (s.setChan e ch x).service = s.service := rfl
@[simp] theorem State.setChan_bb (s : State) (e ch : Nat) (x : Channel) : (s.setChan e ch x).bb = s.bb := rfl
@[simp] theorem State.setChan_ring (s : State) (e ch : Nat) (x : Channel) : (s.setChan e ch x).ring = s.ring := rfl
@[simp] theorem State.setChan_ledger (s : State) (e ch : Nat) (x : Channel) : (s.setChan e ch x).ledger = s.ledger := rfl
@[simp] theorem State.setChan_board (s : State) (e ch : Nat) (x : Channel) : (s.setChan e ch x).board = s.board := rfl
@[simp] theorem State.setChan_sec (s : State) (e ch : Nat) (x : Channel) : (s.setChan e ch x).sec = s.sec := rfl
@[simp] theorem State.setChan_rst (s : State) (e ch : Nat) (x : Channel) : (s.setChan e ch x).rst = s.rst := rfl
@[simp] theorem State.setChan_host (s : State) (e ch : Nat) (x : Channel) : (s.setChan e ch x).host = s.host := rfl
@[simp] theorem State.setChan_engines (s : State) (e ch : Nat) (x : Channel) : (s.setChan e ch x).engines = s.engines := rfl
@[simp] theorem State.setChan_router (s : State) (e ch : Nat) (x : Channel) : (s.setChan e ch x).router = s.router := rfl
@[simp] theorem State.setChan_log (s : State) (e ch : Nat) (x : Channel) : (s.setChan e ch x).log = s.log := rfl
@[simp] theorem State.setChan_mail (s : State) (e ch : Nat) (x : Channel) : (s.setChan e ch x).mail = s.mail := rfl
@[simp] theorem State.setChan_extMem (s : State) (e ch : Nat) (x : Channel) : (s.setChan e ch x).extMem = s.extMem := rfl
@[simp] theorem State.setChan_errors (s : State) (e ch : Nat) (x : Channel) : (s.setChan e ch x).errors = s.errors := rfl
@[simp] theorem State.setChan_freeCount (s : State) (e ch : Nat) (x : Channel) : (s.setChan e ch x).freeCount = s.freeCount := rfl
@[simp] theorem State.setChan_pending (s : State) (e ch : Nat) (x : Channel) : (s.setChan e ch x).pending = s.pending := rfl
@[simp] theorem State.setChan_port (s : State) (e ch : Nat) (x : Channel) (j : Nat) : (s.setChan e ch x).port j = s.port j := rfl
@[simp] theorem State.setChan_ctx (s : State) (e ch : Nat) (x : Channel) (j : Nat) : (s.setChan e ch x).ctx j = s.ctx j := rfl
@[simp] theorem State.setChan_facet (s : State) (e ch : Nat) (x : Channel) (j : Nat) : (s.setChan e ch x).facet j = s.facet j := rfl
@[simp] theorem State.setChan_accord (s : State) (e ch : Nat) (x : Channel) (j : Nat) : (s.setChan e ch x).accord j = s.accord j := rfl
@[simp] theorem State.setChan_check (s : State) (e ch : Nat) (x : Channel) (j : Nat) : (s.setChan e ch x).check j = s.check j := rfl
@[simp] theorem State.setChan_bbp (s : State) (e ch : Nat) (x : Channel) (j : Nat) : (s.setChan e ch x).bbp j = s.bbp j := rfl
@[simp] theorem State.setChan_stream (s : State) (e ch : Nat) (x : Channel) (j : Nat) : (s.setChan e ch x).stream j = s.stream j := rfl
@[simp] theorem State.setChan_axis (s : State) (e ch : Nat) (x : Channel) (j : Nat) : (s.setChan e ch x).axis j = s.axis j := rfl
@[simp] theorem State.setChan_mark (s : State) (e ch : Nat) (x : Channel) (j : Nat) : (s.setChan e ch x).mark j = s.mark j := rfl
@[simp] theorem State.setChan_gate (s : State) (e ch : Nat) (x : Channel) (j : Nat) : (s.setChan e ch x).gate j = s.gate j := rfl
@[simp] theorem State.setChan_cue (s : State) (e ch : Nat) (x : Channel) (j : Nat) : (s.setChan e ch x).cue j = s.cue j := rfl
@[simp] theorem State.setChan_strobe (s : State) (e ch : Nat) (x : Channel) (j : Nat) : (s.setChan e ch x).strobe j = s.strobe j := rfl
@[simp] theorem State.setChan_epochSet (s : State) (e ch : Nat) (x : Channel) (j : Nat) : (s.setChan e ch x).epochSet j = s.epochSet j := rfl
@[simp] theorem State.setChan_engine (s : State) (e ch : Nat) (x : Channel) (j : Nat) : (s.setChan e ch x).engine j = s.engine j := rfl
@[simp] theorem State.setChan_vector (s : State) (e ch : Nat) (x : Channel) (j : Nat) : (s.setChan e ch x).vector j = s.vector j := rfl
@[simp] theorem State.setChan_gpio (s : State) (e ch : Nat) (x : Channel) (j : Nat) : (s.setChan e ch x).gpio j = s.gpio j := rfl
@[simp] theorem State.setChan_supply (s : State) (e ch : Nat) (x : Channel) (j : Nat) : (s.setChan e ch x).supply j = s.supply j := rfl
@[simp] theorem State.setChan_note (s : State) (e ch : Nat) (x : Channel) (j l : Nat) : (s.setChan e ch x).note j l = s.note j l := rfl

/-! State.setNote. -/

@[simp] theorem State.setNote_note (s : State) (d k : Nat) (x : Note) : (s.setNote d k x).note d k = x := by unfold State.note State.setNote; simp
@[simp] theorem State.setNote_variant (s : State) (d k : Nat) (x : Note) : (s.setNote d k x).variant = s.variant := rfl
@[simp] theorem State.setNote_time (s : State) (d k : Nat) (x : Note) : (s.setNote d k x).time = s.time := rfl
@[simp] theorem State.setNote_tu (s : State) (d k : Nat) (x : Note) : (s.setNote d k x).tu = s.tu := rfl
@[simp] theorem State.setNote_ports (s : State) (d k : Nat) (x : Note) : (s.setNote d k x).ports = s.ports := rfl
@[simp] theorem State.setNote_ctxs (s : State) (d k : Nat) (x : Note) : (s.setNote d k x).ctxs = s.ctxs := rfl
@[simp] theorem State.setNote_facets (s : State) (d k : Nat) (x : Note) : (s.setNote d k x).facets = s.facets := rfl
@[simp] theorem State.setNote_accords (s : State) (d k : Nat) (x : Note) : (s.setNote d k x).accords = s.accords := rfl
@[simp] theorem State.setNote_checks (s : State) (d k : Nat) (x : Note) : (s.setNote d k x).checks = s.checks := rfl
@[simp] theorem State.setNote_service (s : State) (d k : Nat) (x : Note) : (s.setNote d k x).service = s.service := rfl
@[simp] theorem State.setNote_bb (s : State) (d k : Nat) (x : Note) : (s.setNote d k x).bb = s.bb := rfl
@[simp] theorem State.setNote_ring (s : State) (d k : Nat) (x : Note) : (s.setNote d k x).ring = s.ring := rfl
@[simp] theorem State.setNote_ledger (s : State) (d k : Nat) (x : Note) : (s.setNote d k x).ledger = s.ledger := rfl
@[simp] theorem State.setNote_board (s : State) (d k : Nat) (x : Note) : (s.setNote d k x).board = s.board := rfl
@[simp] theorem State.setNote_sec (s : State) (d k : Nat) (x : Note) : (s.setNote d k x).sec = s.sec := rfl
@[simp] theorem State.setNote_rst (s : State) (d k : Nat) (x : Note) : (s.setNote d k x).rst = s.rst := rfl
@[simp] theorem State.setNote_host (s : State) (d k : Nat) (x : Note) : (s.setNote d k x).host = s.host := rfl
@[simp] theorem State.setNote_engines (s : State) (d k : Nat) (x : Note) : (s.setNote d k x).engines = s.engines := rfl
@[simp] theorem State.setNote_chans (s : State) (d k : Nat) (x : Note) : (s.setNote d k x).chans = s.chans := rfl
@[simp] theorem State.setNote_router (s : State) (d k : Nat) (x : Note) : (s.setNote d k x).router = s.router := rfl
@[simp] theorem State.setNote_log (s : State) (d k : Nat) (x : Note) : (s.setNote d k x).log = s.log := rfl
@[simp] theorem State.setNote_extMem (s : State) (d k : Nat) (x : Note) : (s.setNote d k x).extMem = s.extMem := rfl
@[simp] theorem State.setNote_errors (s : State) (d k : Nat) (x : Note) : (s.setNote d k x).errors = s.errors := rfl
@[simp] theorem State.setNote_freeCount (s : State) (d k : Nat) (x : Note) : (s.setNote d k x).freeCount = s.freeCount := rfl
@[simp] theorem State.setNote_pending (s : State) (d k : Nat) (x : Note) : (s.setNote d k x).pending = s.pending := rfl
@[simp] theorem State.setNote_port (s : State) (d k : Nat) (x : Note) (j : Nat) : (s.setNote d k x).port j = s.port j := rfl
@[simp] theorem State.setNote_ctx (s : State) (d k : Nat) (x : Note) (j : Nat) : (s.setNote d k x).ctx j = s.ctx j := rfl
@[simp] theorem State.setNote_facet (s : State) (d k : Nat) (x : Note) (j : Nat) : (s.setNote d k x).facet j = s.facet j := rfl
@[simp] theorem State.setNote_accord (s : State) (d k : Nat) (x : Note) (j : Nat) : (s.setNote d k x).accord j = s.accord j := rfl
@[simp] theorem State.setNote_check (s : State) (d k : Nat) (x : Note) (j : Nat) : (s.setNote d k x).check j = s.check j := rfl
@[simp] theorem State.setNote_bbp (s : State) (d k : Nat) (x : Note) (j : Nat) : (s.setNote d k x).bbp j = s.bbp j := rfl
@[simp] theorem State.setNote_stream (s : State) (d k : Nat) (x : Note) (j : Nat) : (s.setNote d k x).stream j = s.stream j := rfl
@[simp] theorem State.setNote_axis (s : State) (d k : Nat) (x : Note) (j : Nat) : (s.setNote d k x).axis j = s.axis j := rfl
@[simp] theorem State.setNote_mark (s : State) (d k : Nat) (x : Note) (j : Nat) : (s.setNote d k x).mark j = s.mark j := rfl
@[simp] theorem State.setNote_gate (s : State) (d k : Nat) (x : Note) (j : Nat) : (s.setNote d k x).gate j = s.gate j := rfl
@[simp] theorem State.setNote_cue (s : State) (d k : Nat) (x : Note) (j : Nat) : (s.setNote d k x).cue j = s.cue j := rfl
@[simp] theorem State.setNote_strobe (s : State) (d k : Nat) (x : Note) (j : Nat) : (s.setNote d k x).strobe j = s.strobe j := rfl
@[simp] theorem State.setNote_epochSet (s : State) (d k : Nat) (x : Note) (j : Nat) : (s.setNote d k x).epochSet j = s.epochSet j := rfl
@[simp] theorem State.setNote_engine (s : State) (d k : Nat) (x : Note) (j : Nat) : (s.setNote d k x).engine j = s.engine j := rfl
@[simp] theorem State.setNote_vector (s : State) (d k : Nat) (x : Note) (j : Nat) : (s.setNote d k x).vector j = s.vector j := rfl
@[simp] theorem State.setNote_gpio (s : State) (d k : Nat) (x : Note) (j : Nat) : (s.setNote d k x).gpio j = s.gpio j := rfl
@[simp] theorem State.setNote_supply (s : State) (d k : Nat) (x : Note) (j : Nat) : (s.setNote d k x).supply j = s.supply j := rfl
@[simp] theorem State.setNote_chan (s : State) (d k : Nat) (x : Note) (j l : Nat) : (s.setNote d k x).chan j l = s.chan j l := rfl

/-! Updates of a whole record. -/

@[simp] theorem State.modTime_time (s : State) (f : TimeBase → TimeBase) : (s.modTime f).time = f s.time := rfl
@[simp] theorem State.modTime_variant (s : State) (f : TimeBase → TimeBase) : (s.modTime f).variant = s.variant := rfl
@[simp] theorem State.modTime_tu (s : State) (f : TimeBase → TimeBase) : (s.modTime f).tu = s.tu := rfl
@[simp] theorem State.modTime_ports (s : State) (f : TimeBase → TimeBase) : (s.modTime f).ports = s.ports := rfl
@[simp] theorem State.modTime_ctxs (s : State) (f : TimeBase → TimeBase) : (s.modTime f).ctxs = s.ctxs := rfl
@[simp] theorem State.modTime_facets (s : State) (f : TimeBase → TimeBase) : (s.modTime f).facets = s.facets := rfl
@[simp] theorem State.modTime_accords (s : State) (f : TimeBase → TimeBase) : (s.modTime f).accords = s.accords := rfl
@[simp] theorem State.modTime_checks (s : State) (f : TimeBase → TimeBase) : (s.modTime f).checks = s.checks := rfl
@[simp] theorem State.modTime_service (s : State) (f : TimeBase → TimeBase) : (s.modTime f).service = s.service := rfl
@[simp] theorem State.modTime_bb (s : State) (f : TimeBase → TimeBase) : (s.modTime f).bb = s.bb := rfl
@[simp] theorem State.modTime_ring (s : State) (f : TimeBase → TimeBase) : (s.modTime f).ring = s.ring := rfl
@[simp] theorem State.modTime_ledger (s : State) (f : TimeBase → TimeBase) : (s.modTime f).ledger = s.ledger := rfl
@[simp] theorem State.modTime_board (s : State) (f : TimeBase → TimeBase) : (s.modTime f).board = s.board := rfl
@[simp] theorem State.modTime_sec (s : State) (f : TimeBase → TimeBase) : (s.modTime f).sec = s.sec := rfl
@[simp] theorem State.modTime_rst (s : State) (f : TimeBase → TimeBase) : (s.modTime f).rst = s.rst := rfl
@[simp] theorem State.modTime_host (s : State) (f : TimeBase → TimeBase) : (s.modTime f).host = s.host := rfl
@[simp] theorem State.modTime_engines (s : State) (f : TimeBase → TimeBase) : (s.modTime f).engines = s.engines := rfl
@[simp] theorem State.modTime_chans (s : State) (f : TimeBase → TimeBase) : (s.modTime f).chans = s.chans := rfl
@[simp] theorem State.modTime_router (s : State) (f : TimeBase → TimeBase) : (s.modTime f).router = s.router := rfl
@[simp] theorem State.modTime_log (s : State) (f : TimeBase → TimeBase) : (s.modTime f).log = s.log := rfl
@[simp] theorem State.modTime_mail (s : State) (f : TimeBase → TimeBase) : (s.modTime f).mail = s.mail := rfl
@[simp] theorem State.modTime_extMem (s : State) (f : TimeBase → TimeBase) : (s.modTime f).extMem = s.extMem := rfl
@[simp] theorem State.modTime_errors (s : State) (f : TimeBase → TimeBase) : (s.modTime f).errors = s.errors := rfl
@[simp] theorem State.modTime_freeCount (s : State) (f : TimeBase → TimeBase) : (s.modTime f).freeCount = s.freeCount := rfl
@[simp] theorem State.modTime_pending (s : State) (f : TimeBase → TimeBase) : (s.modTime f).pending = s.pending := rfl
@[simp] theorem State.modTime_port (s : State) (f : TimeBase → TimeBase) (j : Nat) : (s.modTime f).port j = s.port j := rfl
@[simp] theorem State.modTime_ctx (s : State) (f : TimeBase → TimeBase) (j : Nat) : (s.modTime f).ctx j = s.ctx j := rfl
@[simp] theorem State.modTime_facet (s : State) (f : TimeBase → TimeBase) (j : Nat) : (s.modTime f).facet j = s.facet j := rfl
@[simp] theorem State.modTime_accord (s : State) (f : TimeBase → TimeBase) (j : Nat) : (s.modTime f).accord j = s.accord j := rfl
@[simp] theorem State.modTime_check (s : State) (f : TimeBase → TimeBase) (j : Nat) : (s.modTime f).check j = s.check j := rfl
@[simp] theorem State.modTime_bbp (s : State) (f : TimeBase → TimeBase) (j : Nat) : (s.modTime f).bbp j = s.bbp j := rfl
@[simp] theorem State.modTime_stream (s : State) (f : TimeBase → TimeBase) (j : Nat) : (s.modTime f).stream j = s.stream j := rfl
@[simp] theorem State.modTime_axis (s : State) (f : TimeBase → TimeBase) (j : Nat) : (s.modTime f).axis j = s.axis j := rfl
@[simp] theorem State.modTime_mark (s : State) (f : TimeBase → TimeBase) (j : Nat) : (s.modTime f).mark j = s.mark j := rfl
@[simp] theorem State.modTime_gate (s : State) (f : TimeBase → TimeBase) (j : Nat) : (s.modTime f).gate j = s.gate j := rfl
@[simp] theorem State.modTime_cue (s : State) (f : TimeBase → TimeBase) (j : Nat) : (s.modTime f).cue j = s.cue j := rfl
@[simp] theorem State.modTime_strobe (s : State) (f : TimeBase → TimeBase) (j : Nat) : (s.modTime f).strobe j = s.strobe j := rfl
@[simp] theorem State.modTime_epochSet (s : State) (f : TimeBase → TimeBase) (j : Nat) : (s.modTime f).epochSet j = s.epochSet j := rfl
@[simp] theorem State.modTime_engine (s : State) (f : TimeBase → TimeBase) (j : Nat) : (s.modTime f).engine j = s.engine j := rfl
@[simp] theorem State.modTime_vector (s : State) (f : TimeBase → TimeBase) (j : Nat) : (s.modTime f).vector j = s.vector j := rfl
@[simp] theorem State.modTime_gpio (s : State) (f : TimeBase → TimeBase) (j : Nat) : (s.modTime f).gpio j = s.gpio j := rfl
@[simp] theorem State.modTime_supply (s : State) (f : TimeBase → TimeBase) (j : Nat) : (s.modTime f).supply j = s.supply j := rfl
@[simp] theorem State.modTime_chan (s : State) (f : TimeBase → TimeBase) (j l : Nat) : (s.modTime f).chan j l = s.chan j l := rfl
@[simp] theorem State.modTime_note (s : State) (f : TimeBase → TimeBase) (j l : Nat) : (s.modTime f).note j l = s.note j l := rfl

@[simp] theorem State.modRing_ring (s : State) (f : Ring → Ring) : (s.modRing f).ring = f s.ring := rfl
@[simp] theorem State.modRing_variant (s : State) (f : Ring → Ring) : (s.modRing f).variant = s.variant := rfl
@[simp] theorem State.modRing_time (s : State) (f : Ring → Ring) : (s.modRing f).time = s.time := rfl
@[simp] theorem State.modRing_tu (s : State) (f : Ring → Ring) : (s.modRing f).tu = s.tu := rfl
@[simp] theorem State.modRing_ports (s : State) (f : Ring → Ring) : (s.modRing f).ports = s.ports := rfl
@[simp] theorem State.modRing_ctxs (s : State) (f : Ring → Ring) : (s.modRing f).ctxs = s.ctxs := rfl
@[simp] theorem State.modRing_facets (s : State) (f : Ring → Ring) : (s.modRing f).facets = s.facets := rfl
@[simp] theorem State.modRing_accords (s : State) (f : Ring → Ring) : (s.modRing f).accords = s.accords := rfl
@[simp] theorem State.modRing_checks (s : State) (f : Ring → Ring) : (s.modRing f).checks = s.checks := rfl
@[simp] theorem State.modRing_service (s : State) (f : Ring → Ring) : (s.modRing f).service = s.service := rfl
@[simp] theorem State.modRing_bb (s : State) (f : Ring → Ring) : (s.modRing f).bb = s.bb := rfl
@[simp] theorem State.modRing_ledger (s : State) (f : Ring → Ring) : (s.modRing f).ledger = s.ledger := rfl
@[simp] theorem State.modRing_board (s : State) (f : Ring → Ring) : (s.modRing f).board = s.board := rfl
@[simp] theorem State.modRing_sec (s : State) (f : Ring → Ring) : (s.modRing f).sec = s.sec := rfl
@[simp] theorem State.modRing_rst (s : State) (f : Ring → Ring) : (s.modRing f).rst = s.rst := rfl
@[simp] theorem State.modRing_host (s : State) (f : Ring → Ring) : (s.modRing f).host = s.host := rfl
@[simp] theorem State.modRing_engines (s : State) (f : Ring → Ring) : (s.modRing f).engines = s.engines := rfl
@[simp] theorem State.modRing_chans (s : State) (f : Ring → Ring) : (s.modRing f).chans = s.chans := rfl
@[simp] theorem State.modRing_router (s : State) (f : Ring → Ring) : (s.modRing f).router = s.router := rfl
@[simp] theorem State.modRing_log (s : State) (f : Ring → Ring) : (s.modRing f).log = s.log := rfl
@[simp] theorem State.modRing_mail (s : State) (f : Ring → Ring) : (s.modRing f).mail = s.mail := rfl
@[simp] theorem State.modRing_extMem (s : State) (f : Ring → Ring) : (s.modRing f).extMem = s.extMem := rfl
@[simp] theorem State.modRing_errors (s : State) (f : Ring → Ring) : (s.modRing f).errors = s.errors := rfl
@[simp] theorem State.modRing_freeCount (s : State) (f : Ring → Ring) : (s.modRing f).freeCount = s.freeCount := rfl
@[simp] theorem State.modRing_pending (s : State) (f : Ring → Ring) : (s.modRing f).pending = s.pending := rfl
@[simp] theorem State.modRing_port (s : State) (f : Ring → Ring) (j : Nat) : (s.modRing f).port j = s.port j := rfl
@[simp] theorem State.modRing_ctx (s : State) (f : Ring → Ring) (j : Nat) : (s.modRing f).ctx j = s.ctx j := rfl
@[simp] theorem State.modRing_facet (s : State) (f : Ring → Ring) (j : Nat) : (s.modRing f).facet j = s.facet j := rfl
@[simp] theorem State.modRing_accord (s : State) (f : Ring → Ring) (j : Nat) : (s.modRing f).accord j = s.accord j := rfl
@[simp] theorem State.modRing_check (s : State) (f : Ring → Ring) (j : Nat) : (s.modRing f).check j = s.check j := rfl
@[simp] theorem State.modRing_bbp (s : State) (f : Ring → Ring) (j : Nat) : (s.modRing f).bbp j = s.bbp j := rfl
@[simp] theorem State.modRing_stream (s : State) (f : Ring → Ring) (j : Nat) : (s.modRing f).stream j = s.stream j := rfl
@[simp] theorem State.modRing_axis (s : State) (f : Ring → Ring) (j : Nat) : (s.modRing f).axis j = s.axis j := rfl
@[simp] theorem State.modRing_mark (s : State) (f : Ring → Ring) (j : Nat) : (s.modRing f).mark j = s.mark j := rfl
@[simp] theorem State.modRing_gate (s : State) (f : Ring → Ring) (j : Nat) : (s.modRing f).gate j = s.gate j := rfl
@[simp] theorem State.modRing_cue (s : State) (f : Ring → Ring) (j : Nat) : (s.modRing f).cue j = s.cue j := rfl
@[simp] theorem State.modRing_strobe (s : State) (f : Ring → Ring) (j : Nat) : (s.modRing f).strobe j = s.strobe j := rfl
@[simp] theorem State.modRing_epochSet (s : State) (f : Ring → Ring) (j : Nat) : (s.modRing f).epochSet j = s.epochSet j := rfl
@[simp] theorem State.modRing_engine (s : State) (f : Ring → Ring) (j : Nat) : (s.modRing f).engine j = s.engine j := rfl
@[simp] theorem State.modRing_vector (s : State) (f : Ring → Ring) (j : Nat) : (s.modRing f).vector j = s.vector j := rfl
@[simp] theorem State.modRing_gpio (s : State) (f : Ring → Ring) (j : Nat) : (s.modRing f).gpio j = s.gpio j := rfl
@[simp] theorem State.modRing_supply (s : State) (f : Ring → Ring) (j : Nat) : (s.modRing f).supply j = s.supply j := rfl
@[simp] theorem State.modRing_chan (s : State) (f : Ring → Ring) (j l : Nat) : (s.modRing f).chan j l = s.chan j l := rfl
@[simp] theorem State.modRing_note (s : State) (f : Ring → Ring) (j l : Nat) : (s.modRing f).note j l = s.note j l := rfl

@[simp] theorem State.modHost_host (s : State) (f : HostLink → HostLink) : (s.modHost f).host = f s.host := rfl
@[simp] theorem State.modHost_variant (s : State) (f : HostLink → HostLink) : (s.modHost f).variant = s.variant := rfl
@[simp] theorem State.modHost_time (s : State) (f : HostLink → HostLink) : (s.modHost f).time = s.time := rfl
@[simp] theorem State.modHost_tu (s : State) (f : HostLink → HostLink) : (s.modHost f).tu = s.tu := rfl
@[simp] theorem State.modHost_ports (s : State) (f : HostLink → HostLink) : (s.modHost f).ports = s.ports := rfl
@[simp] theorem State.modHost_ctxs (s : State) (f : HostLink → HostLink) : (s.modHost f).ctxs = s.ctxs := rfl
@[simp] theorem State.modHost_facets (s : State) (f : HostLink → HostLink) : (s.modHost f).facets = s.facets := rfl
@[simp] theorem State.modHost_accords (s : State) (f : HostLink → HostLink) : (s.modHost f).accords = s.accords := rfl
@[simp] theorem State.modHost_checks (s : State) (f : HostLink → HostLink) : (s.modHost f).checks = s.checks := rfl
@[simp] theorem State.modHost_service (s : State) (f : HostLink → HostLink) : (s.modHost f).service = s.service := rfl
@[simp] theorem State.modHost_bb (s : State) (f : HostLink → HostLink) : (s.modHost f).bb = s.bb := rfl
@[simp] theorem State.modHost_ring (s : State) (f : HostLink → HostLink) : (s.modHost f).ring = s.ring := rfl
@[simp] theorem State.modHost_ledger (s : State) (f : HostLink → HostLink) : (s.modHost f).ledger = s.ledger := rfl
@[simp] theorem State.modHost_board (s : State) (f : HostLink → HostLink) : (s.modHost f).board = s.board := rfl
@[simp] theorem State.modHost_sec (s : State) (f : HostLink → HostLink) : (s.modHost f).sec = s.sec := rfl
@[simp] theorem State.modHost_rst (s : State) (f : HostLink → HostLink) : (s.modHost f).rst = s.rst := rfl
@[simp] theorem State.modHost_engines (s : State) (f : HostLink → HostLink) : (s.modHost f).engines = s.engines := rfl
@[simp] theorem State.modHost_chans (s : State) (f : HostLink → HostLink) : (s.modHost f).chans = s.chans := rfl
@[simp] theorem State.modHost_router (s : State) (f : HostLink → HostLink) : (s.modHost f).router = s.router := rfl
@[simp] theorem State.modHost_log (s : State) (f : HostLink → HostLink) : (s.modHost f).log = s.log := rfl
@[simp] theorem State.modHost_mail (s : State) (f : HostLink → HostLink) : (s.modHost f).mail = s.mail := rfl
@[simp] theorem State.modHost_extMem (s : State) (f : HostLink → HostLink) : (s.modHost f).extMem = s.extMem := rfl
@[simp] theorem State.modHost_errors (s : State) (f : HostLink → HostLink) : (s.modHost f).errors = s.errors := rfl
@[simp] theorem State.modHost_freeCount (s : State) (f : HostLink → HostLink) : (s.modHost f).freeCount = s.freeCount := rfl
@[simp] theorem State.modHost_pending (s : State) (f : HostLink → HostLink) : (s.modHost f).pending = s.pending := rfl
@[simp] theorem State.modHost_port (s : State) (f : HostLink → HostLink) (j : Nat) : (s.modHost f).port j = s.port j := rfl
@[simp] theorem State.modHost_ctx (s : State) (f : HostLink → HostLink) (j : Nat) : (s.modHost f).ctx j = s.ctx j := rfl
@[simp] theorem State.modHost_facet (s : State) (f : HostLink → HostLink) (j : Nat) : (s.modHost f).facet j = s.facet j := rfl
@[simp] theorem State.modHost_accord (s : State) (f : HostLink → HostLink) (j : Nat) : (s.modHost f).accord j = s.accord j := rfl
@[simp] theorem State.modHost_check (s : State) (f : HostLink → HostLink) (j : Nat) : (s.modHost f).check j = s.check j := rfl
@[simp] theorem State.modHost_bbp (s : State) (f : HostLink → HostLink) (j : Nat) : (s.modHost f).bbp j = s.bbp j := rfl
@[simp] theorem State.modHost_stream (s : State) (f : HostLink → HostLink) (j : Nat) : (s.modHost f).stream j = s.stream j := rfl
@[simp] theorem State.modHost_axis (s : State) (f : HostLink → HostLink) (j : Nat) : (s.modHost f).axis j = s.axis j := rfl
@[simp] theorem State.modHost_mark (s : State) (f : HostLink → HostLink) (j : Nat) : (s.modHost f).mark j = s.mark j := rfl
@[simp] theorem State.modHost_gate (s : State) (f : HostLink → HostLink) (j : Nat) : (s.modHost f).gate j = s.gate j := rfl
@[simp] theorem State.modHost_cue (s : State) (f : HostLink → HostLink) (j : Nat) : (s.modHost f).cue j = s.cue j := rfl
@[simp] theorem State.modHost_strobe (s : State) (f : HostLink → HostLink) (j : Nat) : (s.modHost f).strobe j = s.strobe j := rfl
@[simp] theorem State.modHost_epochSet (s : State) (f : HostLink → HostLink) (j : Nat) : (s.modHost f).epochSet j = s.epochSet j := rfl
@[simp] theorem State.modHost_engine (s : State) (f : HostLink → HostLink) (j : Nat) : (s.modHost f).engine j = s.engine j := rfl
@[simp] theorem State.modHost_vector (s : State) (f : HostLink → HostLink) (j : Nat) : (s.modHost f).vector j = s.vector j := rfl
@[simp] theorem State.modHost_gpio (s : State) (f : HostLink → HostLink) (j : Nat) : (s.modHost f).gpio j = s.gpio j := rfl
@[simp] theorem State.modHost_supply (s : State) (f : HostLink → HostLink) (j : Nat) : (s.modHost f).supply j = s.supply j := rfl
@[simp] theorem State.modHost_chan (s : State) (f : HostLink → HostLink) (j l : Nat) : (s.modHost f).chan j l = s.chan j l := rfl
@[simp] theorem State.modHost_note (s : State) (f : HostLink → HostLink) (j l : Nat) : (s.modHost f).note j l = s.note j l := rfl

@[simp] theorem State.modBoard_board (s : State) (f : Board → Board) : (s.modBoard f).board = f s.board := rfl
@[simp] theorem State.modBoard_variant (s : State) (f : Board → Board) : (s.modBoard f).variant = s.variant := rfl
@[simp] theorem State.modBoard_time (s : State) (f : Board → Board) : (s.modBoard f).time = s.time := rfl
@[simp] theorem State.modBoard_tu (s : State) (f : Board → Board) : (s.modBoard f).tu = s.tu := rfl
@[simp] theorem State.modBoard_ports (s : State) (f : Board → Board) : (s.modBoard f).ports = s.ports := rfl
@[simp] theorem State.modBoard_ctxs (s : State) (f : Board → Board) : (s.modBoard f).ctxs = s.ctxs := rfl
@[simp] theorem State.modBoard_facets (s : State) (f : Board → Board) : (s.modBoard f).facets = s.facets := rfl
@[simp] theorem State.modBoard_accords (s : State) (f : Board → Board) : (s.modBoard f).accords = s.accords := rfl
@[simp] theorem State.modBoard_checks (s : State) (f : Board → Board) : (s.modBoard f).checks = s.checks := rfl
@[simp] theorem State.modBoard_service (s : State) (f : Board → Board) : (s.modBoard f).service = s.service := rfl
@[simp] theorem State.modBoard_bb (s : State) (f : Board → Board) : (s.modBoard f).bb = s.bb := rfl
@[simp] theorem State.modBoard_ring (s : State) (f : Board → Board) : (s.modBoard f).ring = s.ring := rfl
@[simp] theorem State.modBoard_ledger (s : State) (f : Board → Board) : (s.modBoard f).ledger = s.ledger := rfl
@[simp] theorem State.modBoard_sec (s : State) (f : Board → Board) : (s.modBoard f).sec = s.sec := rfl
@[simp] theorem State.modBoard_rst (s : State) (f : Board → Board) : (s.modBoard f).rst = s.rst := rfl
@[simp] theorem State.modBoard_host (s : State) (f : Board → Board) : (s.modBoard f).host = s.host := rfl
@[simp] theorem State.modBoard_engines (s : State) (f : Board → Board) : (s.modBoard f).engines = s.engines := rfl
@[simp] theorem State.modBoard_chans (s : State) (f : Board → Board) : (s.modBoard f).chans = s.chans := rfl
@[simp] theorem State.modBoard_router (s : State) (f : Board → Board) : (s.modBoard f).router = s.router := rfl
@[simp] theorem State.modBoard_log (s : State) (f : Board → Board) : (s.modBoard f).log = s.log := rfl
@[simp] theorem State.modBoard_mail (s : State) (f : Board → Board) : (s.modBoard f).mail = s.mail := rfl
@[simp] theorem State.modBoard_extMem (s : State) (f : Board → Board) : (s.modBoard f).extMem = s.extMem := rfl
@[simp] theorem State.modBoard_errors (s : State) (f : Board → Board) : (s.modBoard f).errors = s.errors := rfl
@[simp] theorem State.modBoard_freeCount (s : State) (f : Board → Board) : (s.modBoard f).freeCount = s.freeCount := rfl
@[simp] theorem State.modBoard_pending (s : State) (f : Board → Board) : (s.modBoard f).pending = s.pending := rfl
@[simp] theorem State.modBoard_port (s : State) (f : Board → Board) (j : Nat) : (s.modBoard f).port j = s.port j := rfl
@[simp] theorem State.modBoard_ctx (s : State) (f : Board → Board) (j : Nat) : (s.modBoard f).ctx j = s.ctx j := rfl
@[simp] theorem State.modBoard_facet (s : State) (f : Board → Board) (j : Nat) : (s.modBoard f).facet j = s.facet j := rfl
@[simp] theorem State.modBoard_accord (s : State) (f : Board → Board) (j : Nat) : (s.modBoard f).accord j = s.accord j := rfl
@[simp] theorem State.modBoard_check (s : State) (f : Board → Board) (j : Nat) : (s.modBoard f).check j = s.check j := rfl
@[simp] theorem State.modBoard_bbp (s : State) (f : Board → Board) (j : Nat) : (s.modBoard f).bbp j = s.bbp j := rfl
@[simp] theorem State.modBoard_stream (s : State) (f : Board → Board) (j : Nat) : (s.modBoard f).stream j = s.stream j := rfl
@[simp] theorem State.modBoard_axis (s : State) (f : Board → Board) (j : Nat) : (s.modBoard f).axis j = s.axis j := rfl
@[simp] theorem State.modBoard_mark (s : State) (f : Board → Board) (j : Nat) : (s.modBoard f).mark j = s.mark j := rfl
@[simp] theorem State.modBoard_gate (s : State) (f : Board → Board) (j : Nat) : (s.modBoard f).gate j = s.gate j := rfl
@[simp] theorem State.modBoard_cue (s : State) (f : Board → Board) (j : Nat) : (s.modBoard f).cue j = s.cue j := rfl
@[simp] theorem State.modBoard_strobe (s : State) (f : Board → Board) (j : Nat) : (s.modBoard f).strobe j = s.strobe j := rfl
@[simp] theorem State.modBoard_epochSet (s : State) (f : Board → Board) (j : Nat) : (s.modBoard f).epochSet j = s.epochSet j := rfl
@[simp] theorem State.modBoard_engine (s : State) (f : Board → Board) (j : Nat) : (s.modBoard f).engine j = s.engine j := rfl
@[simp] theorem State.modBoard_vector (s : State) (f : Board → Board) (j : Nat) : (s.modBoard f).vector j = s.vector j := rfl
@[simp] theorem State.modBoard_chan (s : State) (f : Board → Board) (j l : Nat) : (s.modBoard f).chan j l = s.chan j l := rfl
@[simp] theorem State.modBoard_note (s : State) (f : Board → Board) (j l : Nat) : (s.modBoard f).note j l = s.note j l := rfl

@[simp] theorem State.modSec_sec (s : State) (f : Security → Security) : (s.modSec f).sec = f s.sec := rfl
@[simp] theorem State.modSec_variant (s : State) (f : Security → Security) : (s.modSec f).variant = s.variant := rfl
@[simp] theorem State.modSec_time (s : State) (f : Security → Security) : (s.modSec f).time = s.time := rfl
@[simp] theorem State.modSec_tu (s : State) (f : Security → Security) : (s.modSec f).tu = s.tu := rfl
@[simp] theorem State.modSec_ports (s : State) (f : Security → Security) : (s.modSec f).ports = s.ports := rfl
@[simp] theorem State.modSec_ctxs (s : State) (f : Security → Security) : (s.modSec f).ctxs = s.ctxs := rfl
@[simp] theorem State.modSec_facets (s : State) (f : Security → Security) : (s.modSec f).facets = s.facets := rfl
@[simp] theorem State.modSec_accords (s : State) (f : Security → Security) : (s.modSec f).accords = s.accords := rfl
@[simp] theorem State.modSec_checks (s : State) (f : Security → Security) : (s.modSec f).checks = s.checks := rfl
@[simp] theorem State.modSec_service (s : State) (f : Security → Security) : (s.modSec f).service = s.service := rfl
@[simp] theorem State.modSec_bb (s : State) (f : Security → Security) : (s.modSec f).bb = s.bb := rfl
@[simp] theorem State.modSec_ring (s : State) (f : Security → Security) : (s.modSec f).ring = s.ring := rfl
@[simp] theorem State.modSec_ledger (s : State) (f : Security → Security) : (s.modSec f).ledger = s.ledger := rfl
@[simp] theorem State.modSec_board (s : State) (f : Security → Security) : (s.modSec f).board = s.board := rfl
@[simp] theorem State.modSec_rst (s : State) (f : Security → Security) : (s.modSec f).rst = s.rst := rfl
@[simp] theorem State.modSec_host (s : State) (f : Security → Security) : (s.modSec f).host = s.host := rfl
@[simp] theorem State.modSec_engines (s : State) (f : Security → Security) : (s.modSec f).engines = s.engines := rfl
@[simp] theorem State.modSec_chans (s : State) (f : Security → Security) : (s.modSec f).chans = s.chans := rfl
@[simp] theorem State.modSec_router (s : State) (f : Security → Security) : (s.modSec f).router = s.router := rfl
@[simp] theorem State.modSec_log (s : State) (f : Security → Security) : (s.modSec f).log = s.log := rfl
@[simp] theorem State.modSec_mail (s : State) (f : Security → Security) : (s.modSec f).mail = s.mail := rfl
@[simp] theorem State.modSec_extMem (s : State) (f : Security → Security) : (s.modSec f).extMem = s.extMem := rfl
@[simp] theorem State.modSec_errors (s : State) (f : Security → Security) : (s.modSec f).errors = s.errors := rfl
@[simp] theorem State.modSec_freeCount (s : State) (f : Security → Security) : (s.modSec f).freeCount = s.freeCount := rfl
@[simp] theorem State.modSec_pending (s : State) (f : Security → Security) : (s.modSec f).pending = s.pending := rfl
@[simp] theorem State.modSec_port (s : State) (f : Security → Security) (j : Nat) : (s.modSec f).port j = s.port j := rfl
@[simp] theorem State.modSec_ctx (s : State) (f : Security → Security) (j : Nat) : (s.modSec f).ctx j = s.ctx j := rfl
@[simp] theorem State.modSec_facet (s : State) (f : Security → Security) (j : Nat) : (s.modSec f).facet j = s.facet j := rfl
@[simp] theorem State.modSec_accord (s : State) (f : Security → Security) (j : Nat) : (s.modSec f).accord j = s.accord j := rfl
@[simp] theorem State.modSec_check (s : State) (f : Security → Security) (j : Nat) : (s.modSec f).check j = s.check j := rfl
@[simp] theorem State.modSec_bbp (s : State) (f : Security → Security) (j : Nat) : (s.modSec f).bbp j = s.bbp j := rfl
@[simp] theorem State.modSec_stream (s : State) (f : Security → Security) (j : Nat) : (s.modSec f).stream j = s.stream j := rfl
@[simp] theorem State.modSec_axis (s : State) (f : Security → Security) (j : Nat) : (s.modSec f).axis j = s.axis j := rfl
@[simp] theorem State.modSec_mark (s : State) (f : Security → Security) (j : Nat) : (s.modSec f).mark j = s.mark j := rfl
@[simp] theorem State.modSec_gate (s : State) (f : Security → Security) (j : Nat) : (s.modSec f).gate j = s.gate j := rfl
@[simp] theorem State.modSec_cue (s : State) (f : Security → Security) (j : Nat) : (s.modSec f).cue j = s.cue j := rfl
@[simp] theorem State.modSec_strobe (s : State) (f : Security → Security) (j : Nat) : (s.modSec f).strobe j = s.strobe j := rfl
@[simp] theorem State.modSec_epochSet (s : State) (f : Security → Security) (j : Nat) : (s.modSec f).epochSet j = s.epochSet j := rfl
@[simp] theorem State.modSec_engine (s : State) (f : Security → Security) (j : Nat) : (s.modSec f).engine j = s.engine j := rfl
@[simp] theorem State.modSec_vector (s : State) (f : Security → Security) (j : Nat) : (s.modSec f).vector j = s.vector j := rfl
@[simp] theorem State.modSec_gpio (s : State) (f : Security → Security) (j : Nat) : (s.modSec f).gpio j = s.gpio j := rfl
@[simp] theorem State.modSec_supply (s : State) (f : Security → Security) (j : Nat) : (s.modSec f).supply j = s.supply j := rfl
@[simp] theorem State.modSec_chan (s : State) (f : Security → Security) (j l : Nat) : (s.modSec f).chan j l = s.chan j l := rfl
@[simp] theorem State.modSec_note (s : State) (f : Security → Security) (j l : Nat) : (s.modSec f).note j l = s.note j l := rfl

@[simp] theorem State.modLedger_ledger (s : State) (f : Ledger → Ledger) : (s.modLedger f).ledger = f s.ledger := rfl
@[simp] theorem State.modLedger_variant (s : State) (f : Ledger → Ledger) : (s.modLedger f).variant = s.variant := rfl
@[simp] theorem State.modLedger_time (s : State) (f : Ledger → Ledger) : (s.modLedger f).time = s.time := rfl
@[simp] theorem State.modLedger_tu (s : State) (f : Ledger → Ledger) : (s.modLedger f).tu = s.tu := rfl
@[simp] theorem State.modLedger_ports (s : State) (f : Ledger → Ledger) : (s.modLedger f).ports = s.ports := rfl
@[simp] theorem State.modLedger_ctxs (s : State) (f : Ledger → Ledger) : (s.modLedger f).ctxs = s.ctxs := rfl
@[simp] theorem State.modLedger_facets (s : State) (f : Ledger → Ledger) : (s.modLedger f).facets = s.facets := rfl
@[simp] theorem State.modLedger_accords (s : State) (f : Ledger → Ledger) : (s.modLedger f).accords = s.accords := rfl
@[simp] theorem State.modLedger_checks (s : State) (f : Ledger → Ledger) : (s.modLedger f).checks = s.checks := rfl
@[simp] theorem State.modLedger_service (s : State) (f : Ledger → Ledger) : (s.modLedger f).service = s.service := rfl
@[simp] theorem State.modLedger_bb (s : State) (f : Ledger → Ledger) : (s.modLedger f).bb = s.bb := rfl
@[simp] theorem State.modLedger_ring (s : State) (f : Ledger → Ledger) : (s.modLedger f).ring = s.ring := rfl
@[simp] theorem State.modLedger_board (s : State) (f : Ledger → Ledger) : (s.modLedger f).board = s.board := rfl
@[simp] theorem State.modLedger_sec (s : State) (f : Ledger → Ledger) : (s.modLedger f).sec = s.sec := rfl
@[simp] theorem State.modLedger_rst (s : State) (f : Ledger → Ledger) : (s.modLedger f).rst = s.rst := rfl
@[simp] theorem State.modLedger_host (s : State) (f : Ledger → Ledger) : (s.modLedger f).host = s.host := rfl
@[simp] theorem State.modLedger_engines (s : State) (f : Ledger → Ledger) : (s.modLedger f).engines = s.engines := rfl
@[simp] theorem State.modLedger_chans (s : State) (f : Ledger → Ledger) : (s.modLedger f).chans = s.chans := rfl
@[simp] theorem State.modLedger_router (s : State) (f : Ledger → Ledger) : (s.modLedger f).router = s.router := rfl
@[simp] theorem State.modLedger_log (s : State) (f : Ledger → Ledger) : (s.modLedger f).log = s.log := rfl
@[simp] theorem State.modLedger_mail (s : State) (f : Ledger → Ledger) : (s.modLedger f).mail = s.mail := rfl
@[simp] theorem State.modLedger_extMem (s : State) (f : Ledger → Ledger) : (s.modLedger f).extMem = s.extMem := rfl
@[simp] theorem State.modLedger_errors (s : State) (f : Ledger → Ledger) : (s.modLedger f).errors = s.errors := rfl
@[simp] theorem State.modLedger_freeCount (s : State) (f : Ledger → Ledger) : (s.modLedger f).freeCount = s.freeCount := rfl
@[simp] theorem State.modLedger_pending (s : State) (f : Ledger → Ledger) : (s.modLedger f).pending = s.pending := rfl
@[simp] theorem State.modLedger_port (s : State) (f : Ledger → Ledger) (j : Nat) : (s.modLedger f).port j = s.port j := rfl
@[simp] theorem State.modLedger_ctx (s : State) (f : Ledger → Ledger) (j : Nat) : (s.modLedger f).ctx j = s.ctx j := rfl
@[simp] theorem State.modLedger_facet (s : State) (f : Ledger → Ledger) (j : Nat) : (s.modLedger f).facet j = s.facet j := rfl
@[simp] theorem State.modLedger_accord (s : State) (f : Ledger → Ledger) (j : Nat) : (s.modLedger f).accord j = s.accord j := rfl
@[simp] theorem State.modLedger_check (s : State) (f : Ledger → Ledger) (j : Nat) : (s.modLedger f).check j = s.check j := rfl
@[simp] theorem State.modLedger_bbp (s : State) (f : Ledger → Ledger) (j : Nat) : (s.modLedger f).bbp j = s.bbp j := rfl
@[simp] theorem State.modLedger_stream (s : State) (f : Ledger → Ledger) (j : Nat) : (s.modLedger f).stream j = s.stream j := rfl
@[simp] theorem State.modLedger_axis (s : State) (f : Ledger → Ledger) (j : Nat) : (s.modLedger f).axis j = s.axis j := rfl
@[simp] theorem State.modLedger_mark (s : State) (f : Ledger → Ledger) (j : Nat) : (s.modLedger f).mark j = s.mark j := rfl
@[simp] theorem State.modLedger_gate (s : State) (f : Ledger → Ledger) (j : Nat) : (s.modLedger f).gate j = s.gate j := rfl
@[simp] theorem State.modLedger_cue (s : State) (f : Ledger → Ledger) (j : Nat) : (s.modLedger f).cue j = s.cue j := rfl
@[simp] theorem State.modLedger_strobe (s : State) (f : Ledger → Ledger) (j : Nat) : (s.modLedger f).strobe j = s.strobe j := rfl
@[simp] theorem State.modLedger_epochSet (s : State) (f : Ledger → Ledger) (j : Nat) : (s.modLedger f).epochSet j = s.epochSet j := rfl
@[simp] theorem State.modLedger_engine (s : State) (f : Ledger → Ledger) (j : Nat) : (s.modLedger f).engine j = s.engine j := rfl
@[simp] theorem State.modLedger_vector (s : State) (f : Ledger → Ledger) (j : Nat) : (s.modLedger f).vector j = s.vector j := rfl
@[simp] theorem State.modLedger_gpio (s : State) (f : Ledger → Ledger) (j : Nat) : (s.modLedger f).gpio j = s.gpio j := rfl
@[simp] theorem State.modLedger_supply (s : State) (f : Ledger → Ledger) (j : Nat) : (s.modLedger f).supply j = s.supply j := rfl
@[simp] theorem State.modLedger_chan (s : State) (f : Ledger → Ledger) (j l : Nat) : (s.modLedger f).chan j l = s.chan j l := rfl
@[simp] theorem State.modLedger_note (s : State) (f : Ledger → Ledger) (j l : Nat) : (s.modLedger f).note j l = s.note j l := rfl

@[simp] theorem State.modRst_rst (s : State) (f : ResetCtl → ResetCtl) : (s.modRst f).rst = f s.rst := rfl
@[simp] theorem State.modRst_variant (s : State) (f : ResetCtl → ResetCtl) : (s.modRst f).variant = s.variant := rfl
@[simp] theorem State.modRst_time (s : State) (f : ResetCtl → ResetCtl) : (s.modRst f).time = s.time := rfl
@[simp] theorem State.modRst_tu (s : State) (f : ResetCtl → ResetCtl) : (s.modRst f).tu = s.tu := rfl
@[simp] theorem State.modRst_ports (s : State) (f : ResetCtl → ResetCtl) : (s.modRst f).ports = s.ports := rfl
@[simp] theorem State.modRst_ctxs (s : State) (f : ResetCtl → ResetCtl) : (s.modRst f).ctxs = s.ctxs := rfl
@[simp] theorem State.modRst_facets (s : State) (f : ResetCtl → ResetCtl) : (s.modRst f).facets = s.facets := rfl
@[simp] theorem State.modRst_accords (s : State) (f : ResetCtl → ResetCtl) : (s.modRst f).accords = s.accords := rfl
@[simp] theorem State.modRst_checks (s : State) (f : ResetCtl → ResetCtl) : (s.modRst f).checks = s.checks := rfl
@[simp] theorem State.modRst_service (s : State) (f : ResetCtl → ResetCtl) : (s.modRst f).service = s.service := rfl
@[simp] theorem State.modRst_bb (s : State) (f : ResetCtl → ResetCtl) : (s.modRst f).bb = s.bb := rfl
@[simp] theorem State.modRst_ring (s : State) (f : ResetCtl → ResetCtl) : (s.modRst f).ring = s.ring := rfl
@[simp] theorem State.modRst_ledger (s : State) (f : ResetCtl → ResetCtl) : (s.modRst f).ledger = s.ledger := rfl
@[simp] theorem State.modRst_board (s : State) (f : ResetCtl → ResetCtl) : (s.modRst f).board = s.board := rfl
@[simp] theorem State.modRst_sec (s : State) (f : ResetCtl → ResetCtl) : (s.modRst f).sec = s.sec := rfl
@[simp] theorem State.modRst_host (s : State) (f : ResetCtl → ResetCtl) : (s.modRst f).host = s.host := rfl
@[simp] theorem State.modRst_engines (s : State) (f : ResetCtl → ResetCtl) : (s.modRst f).engines = s.engines := rfl
@[simp] theorem State.modRst_chans (s : State) (f : ResetCtl → ResetCtl) : (s.modRst f).chans = s.chans := rfl
@[simp] theorem State.modRst_router (s : State) (f : ResetCtl → ResetCtl) : (s.modRst f).router = s.router := rfl
@[simp] theorem State.modRst_log (s : State) (f : ResetCtl → ResetCtl) : (s.modRst f).log = s.log := rfl
@[simp] theorem State.modRst_mail (s : State) (f : ResetCtl → ResetCtl) : (s.modRst f).mail = s.mail := rfl
@[simp] theorem State.modRst_extMem (s : State) (f : ResetCtl → ResetCtl) : (s.modRst f).extMem = s.extMem := rfl
@[simp] theorem State.modRst_errors (s : State) (f : ResetCtl → ResetCtl) : (s.modRst f).errors = s.errors := rfl
@[simp] theorem State.modRst_freeCount (s : State) (f : ResetCtl → ResetCtl) : (s.modRst f).freeCount = s.freeCount := rfl
@[simp] theorem State.modRst_pending (s : State) (f : ResetCtl → ResetCtl) : (s.modRst f).pending = s.pending := rfl
@[simp] theorem State.modRst_port (s : State) (f : ResetCtl → ResetCtl) (j : Nat) : (s.modRst f).port j = s.port j := rfl
@[simp] theorem State.modRst_ctx (s : State) (f : ResetCtl → ResetCtl) (j : Nat) : (s.modRst f).ctx j = s.ctx j := rfl
@[simp] theorem State.modRst_facet (s : State) (f : ResetCtl → ResetCtl) (j : Nat) : (s.modRst f).facet j = s.facet j := rfl
@[simp] theorem State.modRst_accord (s : State) (f : ResetCtl → ResetCtl) (j : Nat) : (s.modRst f).accord j = s.accord j := rfl
@[simp] theorem State.modRst_check (s : State) (f : ResetCtl → ResetCtl) (j : Nat) : (s.modRst f).check j = s.check j := rfl
@[simp] theorem State.modRst_bbp (s : State) (f : ResetCtl → ResetCtl) (j : Nat) : (s.modRst f).bbp j = s.bbp j := rfl
@[simp] theorem State.modRst_stream (s : State) (f : ResetCtl → ResetCtl) (j : Nat) : (s.modRst f).stream j = s.stream j := rfl
@[simp] theorem State.modRst_axis (s : State) (f : ResetCtl → ResetCtl) (j : Nat) : (s.modRst f).axis j = s.axis j := rfl
@[simp] theorem State.modRst_mark (s : State) (f : ResetCtl → ResetCtl) (j : Nat) : (s.modRst f).mark j = s.mark j := rfl
@[simp] theorem State.modRst_gate (s : State) (f : ResetCtl → ResetCtl) (j : Nat) : (s.modRst f).gate j = s.gate j := rfl
@[simp] theorem State.modRst_cue (s : State) (f : ResetCtl → ResetCtl) (j : Nat) : (s.modRst f).cue j = s.cue j := rfl
@[simp] theorem State.modRst_strobe (s : State) (f : ResetCtl → ResetCtl) (j : Nat) : (s.modRst f).strobe j = s.strobe j := rfl
@[simp] theorem State.modRst_epochSet (s : State) (f : ResetCtl → ResetCtl) (j : Nat) : (s.modRst f).epochSet j = s.epochSet j := rfl
@[simp] theorem State.modRst_engine (s : State) (f : ResetCtl → ResetCtl) (j : Nat) : (s.modRst f).engine j = s.engine j := rfl
@[simp] theorem State.modRst_vector (s : State) (f : ResetCtl → ResetCtl) (j : Nat) : (s.modRst f).vector j = s.vector j := rfl
@[simp] theorem State.modRst_gpio (s : State) (f : ResetCtl → ResetCtl) (j : Nat) : (s.modRst f).gpio j = s.gpio j := rfl
@[simp] theorem State.modRst_supply (s : State) (f : ResetCtl → ResetCtl) (j : Nat) : (s.modRst f).supply j = s.supply j := rfl
@[simp] theorem State.modRst_chan (s : State) (f : ResetCtl → ResetCtl) (j l : Nat) : (s.modRst f).chan j l = s.chan j l := rfl
@[simp] theorem State.modRst_note (s : State) (f : ResetCtl → ResetCtl) (j l : Nat) : (s.modRst f).note j l = s.note j l := rfl

@[simp] theorem State.modMail_mail (s : State) (f : Mailbox → Mailbox) : (s.modMail f).mail = f s.mail := rfl
@[simp] theorem State.modMail_variant (s : State) (f : Mailbox → Mailbox) : (s.modMail f).variant = s.variant := rfl
@[simp] theorem State.modMail_time (s : State) (f : Mailbox → Mailbox) : (s.modMail f).time = s.time := rfl
@[simp] theorem State.modMail_tu (s : State) (f : Mailbox → Mailbox) : (s.modMail f).tu = s.tu := rfl
@[simp] theorem State.modMail_ports (s : State) (f : Mailbox → Mailbox) : (s.modMail f).ports = s.ports := rfl
@[simp] theorem State.modMail_ctxs (s : State) (f : Mailbox → Mailbox) : (s.modMail f).ctxs = s.ctxs := rfl
@[simp] theorem State.modMail_facets (s : State) (f : Mailbox → Mailbox) : (s.modMail f).facets = s.facets := rfl
@[simp] theorem State.modMail_accords (s : State) (f : Mailbox → Mailbox) : (s.modMail f).accords = s.accords := rfl
@[simp] theorem State.modMail_checks (s : State) (f : Mailbox → Mailbox) : (s.modMail f).checks = s.checks := rfl
@[simp] theorem State.modMail_service (s : State) (f : Mailbox → Mailbox) : (s.modMail f).service = s.service := rfl
@[simp] theorem State.modMail_bb (s : State) (f : Mailbox → Mailbox) : (s.modMail f).bb = s.bb := rfl
@[simp] theorem State.modMail_ring (s : State) (f : Mailbox → Mailbox) : (s.modMail f).ring = s.ring := rfl
@[simp] theorem State.modMail_ledger (s : State) (f : Mailbox → Mailbox) : (s.modMail f).ledger = s.ledger := rfl
@[simp] theorem State.modMail_board (s : State) (f : Mailbox → Mailbox) : (s.modMail f).board = s.board := rfl
@[simp] theorem State.modMail_sec (s : State) (f : Mailbox → Mailbox) : (s.modMail f).sec = s.sec := rfl
@[simp] theorem State.modMail_rst (s : State) (f : Mailbox → Mailbox) : (s.modMail f).rst = s.rst := rfl
@[simp] theorem State.modMail_host (s : State) (f : Mailbox → Mailbox) : (s.modMail f).host = s.host := rfl
@[simp] theorem State.modMail_engines (s : State) (f : Mailbox → Mailbox) : (s.modMail f).engines = s.engines := rfl
@[simp] theorem State.modMail_chans (s : State) (f : Mailbox → Mailbox) : (s.modMail f).chans = s.chans := rfl
@[simp] theorem State.modMail_router (s : State) (f : Mailbox → Mailbox) : (s.modMail f).router = s.router := rfl
@[simp] theorem State.modMail_log (s : State) (f : Mailbox → Mailbox) : (s.modMail f).log = s.log := rfl
@[simp] theorem State.modMail_extMem (s : State) (f : Mailbox → Mailbox) : (s.modMail f).extMem = s.extMem := rfl
@[simp] theorem State.modMail_errors (s : State) (f : Mailbox → Mailbox) : (s.modMail f).errors = s.errors := rfl
@[simp] theorem State.modMail_freeCount (s : State) (f : Mailbox → Mailbox) : (s.modMail f).freeCount = s.freeCount := rfl
@[simp] theorem State.modMail_pending (s : State) (f : Mailbox → Mailbox) : (s.modMail f).pending = s.pending := rfl
@[simp] theorem State.modMail_port (s : State) (f : Mailbox → Mailbox) (j : Nat) : (s.modMail f).port j = s.port j := rfl
@[simp] theorem State.modMail_ctx (s : State) (f : Mailbox → Mailbox) (j : Nat) : (s.modMail f).ctx j = s.ctx j := rfl
@[simp] theorem State.modMail_facet (s : State) (f : Mailbox → Mailbox) (j : Nat) : (s.modMail f).facet j = s.facet j := rfl
@[simp] theorem State.modMail_accord (s : State) (f : Mailbox → Mailbox) (j : Nat) : (s.modMail f).accord j = s.accord j := rfl
@[simp] theorem State.modMail_check (s : State) (f : Mailbox → Mailbox) (j : Nat) : (s.modMail f).check j = s.check j := rfl
@[simp] theorem State.modMail_bbp (s : State) (f : Mailbox → Mailbox) (j : Nat) : (s.modMail f).bbp j = s.bbp j := rfl
@[simp] theorem State.modMail_stream (s : State) (f : Mailbox → Mailbox) (j : Nat) : (s.modMail f).stream j = s.stream j := rfl
@[simp] theorem State.modMail_axis (s : State) (f : Mailbox → Mailbox) (j : Nat) : (s.modMail f).axis j = s.axis j := rfl
@[simp] theorem State.modMail_mark (s : State) (f : Mailbox → Mailbox) (j : Nat) : (s.modMail f).mark j = s.mark j := rfl
@[simp] theorem State.modMail_gate (s : State) (f : Mailbox → Mailbox) (j : Nat) : (s.modMail f).gate j = s.gate j := rfl
@[simp] theorem State.modMail_cue (s : State) (f : Mailbox → Mailbox) (j : Nat) : (s.modMail f).cue j = s.cue j := rfl
@[simp] theorem State.modMail_strobe (s : State) (f : Mailbox → Mailbox) (j : Nat) : (s.modMail f).strobe j = s.strobe j := rfl
@[simp] theorem State.modMail_epochSet (s : State) (f : Mailbox → Mailbox) (j : Nat) : (s.modMail f).epochSet j = s.epochSet j := rfl
@[simp] theorem State.modMail_engine (s : State) (f : Mailbox → Mailbox) (j : Nat) : (s.modMail f).engine j = s.engine j := rfl
@[simp] theorem State.modMail_vector (s : State) (f : Mailbox → Mailbox) (j : Nat) : (s.modMail f).vector j = s.vector j := rfl
@[simp] theorem State.modMail_gpio (s : State) (f : Mailbox → Mailbox) (j : Nat) : (s.modMail f).gpio j = s.gpio j := rfl
@[simp] theorem State.modMail_supply (s : State) (f : Mailbox → Mailbox) (j : Nat) : (s.modMail f).supply j = s.supply j := rfl
@[simp] theorem State.modMail_chan (s : State) (f : Mailbox → Mailbox) (j l : Nat) : (s.modMail f).chan j l = s.chan j l := rfl

@[simp] theorem State.modTravel_travel (s : State) (f : Travel → Travel) : (s.modTravel f).tu.travel = f s.tu.travel := rfl
@[simp] theorem State.modTravel_variant (s : State) (f : Travel → Travel) : (s.modTravel f).variant = s.variant := rfl
@[simp] theorem State.modTravel_time (s : State) (f : Travel → Travel) : (s.modTravel f).time = s.time := rfl
@[simp] theorem State.modTravel_ports (s : State) (f : Travel → Travel) : (s.modTravel f).ports = s.ports := rfl
@[simp] theorem State.modTravel_ctxs (s : State) (f : Travel → Travel) : (s.modTravel f).ctxs = s.ctxs := rfl
@[simp] theorem State.modTravel_facets (s : State) (f : Travel → Travel) : (s.modTravel f).facets = s.facets := rfl
@[simp] theorem State.modTravel_accords (s : State) (f : Travel → Travel) : (s.modTravel f).accords = s.accords := rfl
@[simp] theorem State.modTravel_checks (s : State) (f : Travel → Travel) : (s.modTravel f).checks = s.checks := rfl
@[simp] theorem State.modTravel_service (s : State) (f : Travel → Travel) : (s.modTravel f).service = s.service := rfl
@[simp] theorem State.modTravel_bb (s : State) (f : Travel → Travel) : (s.modTravel f).bb = s.bb := rfl
@[simp] theorem State.modTravel_ring (s : State) (f : Travel → Travel) : (s.modTravel f).ring = s.ring := rfl
@[simp] theorem State.modTravel_ledger (s : State) (f : Travel → Travel) : (s.modTravel f).ledger = s.ledger := rfl
@[simp] theorem State.modTravel_board (s : State) (f : Travel → Travel) : (s.modTravel f).board = s.board := rfl
@[simp] theorem State.modTravel_sec (s : State) (f : Travel → Travel) : (s.modTravel f).sec = s.sec := rfl
@[simp] theorem State.modTravel_rst (s : State) (f : Travel → Travel) : (s.modTravel f).rst = s.rst := rfl
@[simp] theorem State.modTravel_host (s : State) (f : Travel → Travel) : (s.modTravel f).host = s.host := rfl
@[simp] theorem State.modTravel_engines (s : State) (f : Travel → Travel) : (s.modTravel f).engines = s.engines := rfl
@[simp] theorem State.modTravel_chans (s : State) (f : Travel → Travel) : (s.modTravel f).chans = s.chans := rfl
@[simp] theorem State.modTravel_router (s : State) (f : Travel → Travel) : (s.modTravel f).router = s.router := rfl
@[simp] theorem State.modTravel_log (s : State) (f : Travel → Travel) : (s.modTravel f).log = s.log := rfl
@[simp] theorem State.modTravel_mail (s : State) (f : Travel → Travel) : (s.modTravel f).mail = s.mail := rfl
@[simp] theorem State.modTravel_extMem (s : State) (f : Travel → Travel) : (s.modTravel f).extMem = s.extMem := rfl
@[simp] theorem State.modTravel_errors (s : State) (f : Travel → Travel) : (s.modTravel f).errors = s.errors := rfl
@[simp] theorem State.modTravel_freeCount (s : State) (f : Travel → Travel) : (s.modTravel f).freeCount = s.freeCount := rfl
@[simp] theorem State.modTravel_pending (s : State) (f : Travel → Travel) : (s.modTravel f).pending = s.pending := rfl
@[simp] theorem State.modTravel_port (s : State) (f : Travel → Travel) (j : Nat) : (s.modTravel f).port j = s.port j := rfl
@[simp] theorem State.modTravel_ctx (s : State) (f : Travel → Travel) (j : Nat) : (s.modTravel f).ctx j = s.ctx j := rfl
@[simp] theorem State.modTravel_facet (s : State) (f : Travel → Travel) (j : Nat) : (s.modTravel f).facet j = s.facet j := rfl
@[simp] theorem State.modTravel_accord (s : State) (f : Travel → Travel) (j : Nat) : (s.modTravel f).accord j = s.accord j := rfl
@[simp] theorem State.modTravel_check (s : State) (f : Travel → Travel) (j : Nat) : (s.modTravel f).check j = s.check j := rfl
@[simp] theorem State.modTravel_bbp (s : State) (f : Travel → Travel) (j : Nat) : (s.modTravel f).bbp j = s.bbp j := rfl
@[simp] theorem State.modTravel_stream (s : State) (f : Travel → Travel) (j : Nat) : (s.modTravel f).stream j = s.stream j := rfl
@[simp] theorem State.modTravel_axis (s : State) (f : Travel → Travel) (j : Nat) : (s.modTravel f).axis j = s.axis j := rfl
@[simp] theorem State.modTravel_mark (s : State) (f : Travel → Travel) (j : Nat) : (s.modTravel f).mark j = s.mark j := rfl
@[simp] theorem State.modTravel_gate (s : State) (f : Travel → Travel) (j : Nat) : (s.modTravel f).gate j = s.gate j := rfl
@[simp] theorem State.modTravel_cue (s : State) (f : Travel → Travel) (j : Nat) : (s.modTravel f).cue j = s.cue j := rfl
@[simp] theorem State.modTravel_strobe (s : State) (f : Travel → Travel) (j : Nat) : (s.modTravel f).strobe j = s.strobe j := rfl
@[simp] theorem State.modTravel_epochSet (s : State) (f : Travel → Travel) (j : Nat) : (s.modTravel f).epochSet j = s.epochSet j := rfl
@[simp] theorem State.modTravel_engine (s : State) (f : Travel → Travel) (j : Nat) : (s.modTravel f).engine j = s.engine j := rfl
@[simp] theorem State.modTravel_vector (s : State) (f : Travel → Travel) (j : Nat) : (s.modTravel f).vector j = s.vector j := rfl
@[simp] theorem State.modTravel_gpio (s : State) (f : Travel → Travel) (j : Nat) : (s.modTravel f).gpio j = s.gpio j := rfl
@[simp] theorem State.modTravel_supply (s : State) (f : Travel → Travel) (j : Nat) : (s.modTravel f).supply j = s.supply j := rfl
@[simp] theorem State.modTravel_chan (s : State) (f : Travel → Travel) (j l : Nat) : (s.modTravel f).chan j l = s.chan j l := rfl
@[simp] theorem State.modTravel_note (s : State) (f : Travel → Travel) (j l : Nat) : (s.modTravel f).note j l = s.note j l := rfl

/-! An update in place is a write of what the unit becomes. -/

@[simp] theorem State.modPort_eq (s : State) (n : Nat) (f : Port → Port) : s.modPort n f = s.setPort n (f (s.port n)) := rfl
@[simp] theorem State.modCtx_eq (s : State) (c : Nat) (f : Context → Context) : s.modCtx c f = s.setCtx c (f (s.ctx c)) := rfl
@[simp] theorem State.modFacet_eq (s : State) (k : Nat) (f : Facet → Facet) : s.modFacet k f = s.setFacet k (f (s.facet k)) := rfl
@[simp] theorem State.modAccord_eq (s : State) (a : Nat) (f : Accord → Accord) : s.modAccord a f = s.setAccord a (f (s.accord a)) := rfl
@[simp] theorem State.modCheck_eq (s : State) (k : Nat) (f : Check → Check) : s.modCheck k f = s.setCheck k (f (s.check k)) := rfl
@[simp] theorem State.modBb_eq (s : State) (p : Nat) (f : Bb → Bb) : s.modBb p f = s.setBb p (f (s.bbp p)) := rfl
@[simp] theorem State.modStream_eq (s : State) (k : Nat) (f : Stream → Stream) : s.modStream k f = s.setStream k (f (s.stream k)) := rfl
@[simp] theorem State.modAxis_eq (s : State) (a : Nat) (f : Axis → Axis) : s.modAxis a f = s.setAxis a (f (s.axis a)) := rfl
@[simp] theorem State.modGate_eq (s : State) (g : Nat) (f : Gate → Gate) : s.modGate g f = s.setGate g (f (s.gate g)) := rfl
@[simp] theorem State.modCue_eq (s : State) (c : Nat) (f : Cue → Cue) : s.modCue c f = s.setCue c (f (s.cue c)) := rfl
@[simp] theorem State.modStrobe_eq (s : State) (k : Nat) (f : Strobe → Strobe) : s.modStrobe k f = s.setStrobe k (f (s.strobe k)) := rfl
@[simp] theorem State.modEngine_eq (s : State) (e : Nat) (f : Engine → Engine) : s.modEngine e f = s.setEngine e (f (s.engine e)) := rfl
@[simp] theorem State.modVector_eq (s : State) (v : Nat) (f : Vector → Vector) : s.modVector v f = s.setVector v (f (s.vector v)) := rfl
@[simp] theorem State.modSupply_eq (s : State) (n : Nat) (f : Supply → Supply) : s.modSupply n f = s.setSupply n (f (s.supply n)) := rfl
@[simp] theorem State.modChan_eq (s : State) (e ch : Nat) (f : Channel → Channel) : s.modChan e ch f = s.setChan e ch (f (s.chan e ch)) := rfl

end Sys2Proof.Machine
end

