-- ==== Sys2Proof/Laws/Mail.lean ====
section
/-! SUPPORT. What taking and completing a message does: one lemma for each way in which a command ends. -/
namespace Sys2Proof.Machine

/-- A message that is not taken leaves the state as it is. -/
theorem mailRun_waits (opcode : Nat) (pm : Permit) (m : Msg) (s : State) (denied argsOk : Bool) (body : State → Verdict)
    (h : s.takes m.door = false) : mailRun opcode pm m s denied argsOk body = s := by
  unfold mailRun; simp [h]

/-- A door that Table 12-4 does not permit, or a security rule that forbids the command: DENIED. -/
theorem mailRun_denied (opcode : Nat) (pm : Permit) (m : Msg) (s : State) (denied argsOk : Bool) (body : State → Verdict)
    (ht : s.takes m.door = true) (h : pm.door m.door = false ∨ denied = true) : mailRun opcode pm m s denied argsOk body = mailDone opcode m .denied [] s := by
  unfold mailRun; cases h with
  | inl h => simp [ht, h]
  | inr h => simp [ht, h]

/-- With room for one more message, no command is beyond the 64 of its door. -/
theorem overfull_hasRoom {s : State} {m : Msg} (hr : s.hasRoom m = true) (opcode : Nat) (v : Verdict) : s.overfull opcode m v = false := by
  have h : ¬ 64 ≤ s.mail.count m.door := by unfold State.hasRoom at hr; simp at hr; omega
  simp [State.overfull, h]

/-- A command that passes every check and completes at once: with room, or none of those that count toward the 64 of its door. -/
theorem mailRun_done {opcode : Nat} {pm : Permit} {m : Msg} {s : State} {denied argsOk : Bool} {body : State → Verdict} {st : Status} {p : List Word} {u : State}
    (h : s.admits opcode pm m = true) (hd : denied = false) (ha : argsOk = true) (hb : body s = .done st p u)
    (ho : s.overfull opcode m (.done st p u) = false) : mailRun opcode pm m s denied argsOk body = mailDone opcode m st p u := by
  unfold State.admits at h
  simp only [Bool.and_eq_true, Bool.or_eq_true, Bool.not_eq_true', beq_iff_eq] at h
  obtain ⟨⟨⟨⟨h1, h2⟩, h3⟩, h4⟩, h5⟩ := h
  unfold mailRun
  have h6 : (m.flags.getLsbD 1 && opcode != 0x305) = false := by
    cases h4 with
    | inl h => rw [h]; rfl
    | inr h => rw [h]; simp
  simp only [h1, h2, h3, h6, h5, hd, ha, hb, ho, Bool.not_true, Bool.or_self, Bool.false_eq_true, if_false]

/-- A command that passes every check and whose work continues. -/
theorem mailRun_wait {opcode : Nat} {pm : Permit} {m : Msg} {s : State} {denied argsOk : Bool} {body : State → Verdict} {w : Wait} {u : State}
    (h : s.admits opcode pm m = true) (hd : denied = false) (ha : argsOk = true) (hb : body s = .wait w u) (hr : s.hasRoom m = true) :
    mailRun opcode pm m s denied argsOk body = (u.withInflight (inflightOf s opcode m w)).settleFences := by
  unfold State.admits at h
  simp only [Bool.and_eq_true, Bool.or_eq_true, Bool.not_eq_true', beq_iff_eq] at h
  obtain ⟨⟨⟨⟨h1, h2⟩, h3⟩, h4⟩, h5⟩ := h
  have h6 : (m.flags.getLsbD 1 && opcode != 0x305) = false := by
    cases h4 with
    | inl h => rw [h]; rfl
    | inr h => rw [h]; simp
  unfold mailRun
  simp only [h1, h2, h3, h6, h5, hd, ha, hb, overfull_hasRoom hr, State.withInflight, Bool.not_true, Bool.or_self, Bool.false_eq_true, if_false]

/-! Responses change nothing but the host link, the vectors, the board and the backbone. -/

/-- Two states that agree except in the host link, the router, the board interface and the backbone. -/
def sameButReplies (s t : State) : Prop := t = { s with host := t.host, router := t.router, board := t.board, bb := t.bb }

theorem sameButReplies.refl (s : State) : sameButReplies s s := rfl

theorem sameButReplies.trans {s t u : State} (h : sameButReplies s t) (k : sameButReplies t u) : sameButReplies s u := by
  unfold sameButReplies at *
  rw [k, h]

theorem hostWrite_same (s : State) (a : Nat) (b : List Byte) : sameButReplies s (s.hostWrite a b) := by
  unfold State.hostWrite; split <;> rfl

theorem setVector_same (s : State) (v : Nat) (x : Vector) : sameButReplies s (s.setVector v x) := rfl

theorem msixEmit_same (s : State) (v : Nat) : sameButReplies s (s.msixEmit v) := by
  unfold State.msixEmit
  simp only
  split
  · rfl
  · exact (hostWrite_same _ _ _).trans (setVector_same _ _ _)

theorem msix_same (s : State) (v : Nat) (w : Word) : sameButReplies s (s.msix v w) := by
  unfold State.msix
  simp only
  split
  · rfl
  · exact msixEmit_same s v

theorem hostWrites_same (l : List HostWrite) : ∀ s : State, sameButReplies s (l.foldl (fun (s : State) w => s.hostWrite w.addr w.bytes) s) := by
  induction l with
  | nil => intro s; rfl
  | cons a r ih => intro s; exact (hostWrite_same s _ _).trans (ih _)

theorem rec0Write_same (s : State) (ws : List Word) : sameButReplies s (s.rec0Write ws) := by
  unfold State.rec0Write
  simp only
  have h : ∀ x : RecRing, sameButReplies s { s with host := { s.host with rec0 := x } } := fun _ => rfl
  split
  · exact ((h _).trans (hostWrites_same _ _)).trans (msix_same _ _ _)
  · exact (h _).trans (hostWrites_same _ _)

theorem post_same (s : State) (door session : Nat) (ws : List Word) : sameButReplies s (s.post door session ws) := by
  unfold State.post
  split
  · split
    · exact rec0Write_same s ws
    · rfl
  · unfold State.doorResp
    split
    · rfl
    · simp only [State.doorSend]
      split
      · rfl
      · rfl
  · split
    · rfl
    · rfl
  · rfl

/-- Completing a message changes nothing but what carries its response. -/
theorem mailDone_same (opcode : Nat) (m : Msg) (st : Status) (p : List Word) (s : State) : sameButReplies s (mailDone opcode m st p s) := by
  unfold mailDone State.respond
  split
  · rfl
  · split
    · rfl
    · exact post_same _ _ _ _

end Sys2Proof.Machine
end

