-- ==== Sys2Proof/Laws/Events.lean ====
section
/-! SUPPORT. What raising events, writing the trouble log and completing waiting messages can change. -/
namespace Sys2Proof.Machine

/-! Events and the trouble log. -/

/-- Raising an event adds one occurrence at the end of the router's queue and does nothing else. -/
theorem raise_eq (s : State) (id code data : Nat) :
    s.raise id code data =
      { s with router := { s.router with queue := s.router.queue ++
        [{ id := id, code := code, data := data % 2 ^ 20, stamp := s.stamp, route := s.router.routeNow id, logged := false }] } } := rfl

/-- A log entry joins the queue ahead of the SRAM, or is lost and marks the next one. -/
theorem logPush_eq (s : State) (bits : BitVec 128) :
    s.logPush bits = { s with log := { s.log with queue := (s.logPush bits).log.queue, gap := (s.logPush bits).log.gap } } := by
  unfold State.logPush; split <;> rfl

theorem logPhokel_eq (s : State) (source code data : Nat) :
    s.logPhokel source code data =
      { s with log := { s.log with queue := (s.logPhokel source code data).log.queue, gap := (s.logPhokel source code data).log.gap } } :=
  logPush_eq _ _

theorem logHw_eq (s : State) (source code data : Nat) :
    s.logHw source code data =
      { s with log := { s.log with queue := (s.logHw source code data).log.queue, gap := (s.logHw source code data).log.gap } } :=
  logPush_eq _ _

/-- An event with its entry changes the log's queue and the router's queue alone. -/
theorem raiseLog_eq (s : State) (id code data logData : Nat) (phokel : Bool) :
    s.raiseLog id code data logData phokel =
      { s with log := (s.raiseLog id code data logData phokel).log, router := { s.router with queue := (s.raiseLog id code data logData phokel).router.queue } } := by
  unfold State.raiseLog State.raiseAt State.logPush; split <;> rfl

/-- The log's SRAM is not written by pushing an entry. -/
theorem logPush_sram (s : State) (bits : BitVec 128) :
    (s.logPush bits).log.entries = s.log.entries ∧ (s.logPush bits).log.next = s.log.next ∧ (s.logPush bits).log.fill = s.log.fill ∧
      (s.logPush bits).log.wraps = s.log.wraps := by
  unfold State.logPush; split <;> exact ⟨rfl, rfl, rfl, rfl⟩

/-- A full queue loses the entry (R440). -/
theorem logPush_full (s : State) (bits : BitVec 128) (h : 64 ≤ s.log.queue.length) :
    (s.logPush bits).log.queue = s.log.queue ∧ (s.logPush bits).log.gap = true := by
  unfold State.logPush; rw [if_pos h]; exact ⟨rfl, rfl⟩

/-- A parity failure counts and raises; nothing else changes. -/
theorem parityError_eq (s : State) (unit id code data : Nat) :
    s.parityError unit id code data = { s with errors := (s.parityError unit id code data).errors, router := (s.parityError unit id code data).router } := rfl

/-- A bit of Attn changes the board interface alone. -/
theorem attn_eq (s : State) (b : Nat) : s.attn b = { s with board := (s.attn b).board } := rfl

/-! Waiting messages complete. -/

/-- Two states that agree except in what carries responses and in the list of incomplete messages. -/
def sameButMail (s t : State) : Prop :=
  t = { s with host := t.host, router := t.router, board := t.board, bb := t.bb, mail := { s.mail with inflight := t.mail.inflight } }

theorem sameButMail.refl (s : State) : sameButMail s s := rfl

theorem sameButMail.trans {s t u : State} (h : sameButMail s t) (k : sameButMail t u) : sameButMail s u := by
  unfold sameButMail at *
  rw [k, h]

theorem sameButReplies.mail {s t : State} (h : sameButReplies s t) : sameButMail s t := by
  unfold sameButReplies at h
  unfold sameButMail
  rw [h]

theorem respond_same (s : State) (door opcode tag flags session : Nat) (st : Status) (p : List Word) :
    sameButReplies s (s.respond door opcode tag flags session st p) := by
  unfold State.respond
  split
  · rfl
  · exact post_same _ _ _ _

theorem answer_same (s : State) (i : Inflight) (st : Status) (p : List Word) : sameButReplies s (s.answer i st p) := by
  unfold State.answer
  split
  · rfl
  · exact respond_same _ _ _ _ _ _ _ _

theorem answers_same (st : Status) (l : List Inflight) : ∀ s : State, sameButReplies s (l.foldl (fun (s : State) i => s.answer i st []) s) := by
  induction l with
  | nil => intro s; rfl
  | cons a r ih => intro s; exact (answer_same _ _ _ _).trans (ih _)

/-- FENCEs that fall due change responses and the incomplete messages alone. -/
theorem settleFences_same (s : State) : sameButMail s s.settleFences := by
  unfold State.settleFences
  exact sameButMail.trans (t := { s with mail := { s.mail with inflight := s.mail.inflight.filter fun i => !fenceDue s.mail.inflight i } }) rfl
    (answers_same _ _ _).mail

/-- Completing what waits changes responses and the incomplete messages alone. -/
theorem finish_same (s : State) (p : Inflight → Bool) (st : Status) (w : List Word) : sameButMail s (s.finish p st w) := by
  unfold State.finish
  split
  · rfl
  · exact ((sameButMail.trans (t := { s with mail := { s.mail with inflight := eraseFirst p s.mail.inflight } }) rfl
      (answer_same _ _ _ _).mail)).trans (settleFences_same _)

theorem finishWait_same (s : State) (w : Wait) (st : Status) (p : List Word) : sameButMail s (s.finishWait w st p) := finish_same _ _ _ _

theorem finishAll_same (s : State) (p : Inflight → Bool) (st : Status) : sameButMail s (s.finishAll p st) := by
  unfold State.finishAll
  exact ((sameButMail.trans (t := { s with mail := { s.mail with inflight := s.mail.inflight.filter fun i => !p i } }) rfl
    (answers_same _ _ _).mail)).trans (settleFences_same _)

/-- With nothing that waits for w, its completion does nothing. -/
theorem finishWait_none (s : State) (w : Wait) (st : Status) (p : List Word) (h : ∀ i ∈ s.mail.inflight, i.wait ≠ w) : s.finishWait w st p = s := by
  have : s.inflight? (fun i => i.wait == w) = none := by
    unfold State.inflight?
    rw [List.find?_eq_none]
    intro i hi
    simpa using h i hi
  unfold State.finishWait State.finish
  rw [this]

/-- Everything that taking a message can do: nothing; an answer on the state as it is; an answer on the state that the command leaves; or
a wait, with the message among the incomplete ones. -/
theorem mailRun_cases (opcode : Nat) (pm : Permit) (m : Msg) (s : State) (denied argsOk : Bool) (body : State → Verdict) :
    mailRun opcode pm m s denied argsOk body = s ∨
    (∃ st, mailRun opcode pm m s denied argsOk body = mailDone opcode m st [] s) ∨
    (∃ st p u, body s = .done st p u ∧ mailRun opcode pm m s denied argsOk body = mailDone opcode m st p u) ∨
    (∃ w u, body s = .wait w u ∧ mailRun opcode pm m s denied argsOk body = (u.withInflight (inflightOf s opcode m w)).settleFences) := by
  unfold mailRun
  split
  · exact .inl rfl
  split
  · exact .inr (.inl ⟨_, rfl⟩)
  split
  · exact .inr (.inl ⟨_, rfl⟩)
  split
  · exact .inr (.inl ⟨_, rfl⟩)
  simp only
  split
  · exact .inr (.inl ⟨_, rfl⟩)
  split
  · exact .inr (.inr (.inl ⟨_, _, _, ‹_›, rfl⟩))
  · exact .inr (.inr (.inr ⟨_, _, ‹_›, rfl⟩))

end Sys2Proof.Machine
end

