-- ==== Sys2Proof/Machine/Package.lean ====
section
/-! DEFINITION. The balls: what each output ball carries (14_reset_and_boot.md R435, Table 14-6; 16_board_interfaces.md R473, R474, R476,
R477; 04 R111, R145), and where the signals lie (17_electrical_and_package.md R490, R491, R493). Views of State: no step reads them. -/
namespace Sys2Proof.Machine

/-- What a ball carries; `signal`: the waveform of its interface; `scan`: what boundary scan drives (13 R418). -/
inductive Level where
  | low | high | weakDown | weakUp | highZ | idle | signal | scan
  deriving DecidableEq, Repr

def levelOf (b : Bool) : Level := if b then .high else .low

/-- An output of the always-on domain: a weak pull-down before the domain is up. -/
def State.aonLevel (s : State) (x : Level) : Level := if !s.aon then .weakDown else if s.scanOpen then .scan else x

/-- STROBE[k]: low without ENABLE; otherwise active where a pulse is in progress, under POLARITY (R473). -/
def State.strobeBall (s : State) (k : Nat) : Level :=
  let x := s.strobe k
  s.aonLevel (if bit x.cfg 39 then levelOf (x.highUntil.isSome != bit x.cfg 38) else .low)

def State.syncOutBall (s : State) : Level := s.aonLevel (levelOf s.tu.syncHigh.isSome)
def State.ppsOutBall (s : State) : Level := s.aonLevel (levelOf s.time.ppsOutUntil.isSome)
def State.sealDoneBall (s : State) : Level := s.aonLevel (levelOf s.ledger.sealDone)

/-- PWR_CLK, PWR_DATA and PWR_LATCH between frames. -/
def State.powerChainBall (s : State) : Level := s.aonLevel .low

/-- GPIO[i] (R474, R477; R464 for ATTN_OUT). -/
def State.gpioBall (s : State) (i : Nat) : Level :=
  let g := s.gpio i
  if !s.aon then .weakDown
  else if s.scanOpen then .scan
  else match g.func with
    | 2 => levelOf (bit g.cfg 36)
    | 3 => levelOf s.board.holdupTest
    | 4 => if s.board.attnPending then .low else .highZ
    | _ => .weakDown

/-- RAY[n]: the back channel is off, at mid-level, in OFF and DOWN; the receiver's termination is off with it. -/
def State.rayBall (s : State) (n : Nat) : Level := if s.aon && (s.port n).state != .off && (s.port n).state != .down then .signal else .idle

/-- Bb p: electrical idle without a link. -/
def State.bbBall (s : State) (p : Nat) : Level := if s.aon && (s.bbp p).link then .signal else .idle

/-- The host link's transmitters: electrical idle until step 12 is released. -/
def State.hostBall (s : State) : Level := if s.aon && s.rst.released.getLsbD 11 then .signal else .idle

/-- SL_PERST_N[d]: asserted until the ring brings the drive up, and while UNIT_RESET holds the drive. -/
def State.drivePerst (s : State) (d : Nat) : Level :=
  let x := s.ring.drive d
  s.aonLevel (levelOf ((x.state == .member || x.state == .spare || x.state == .init) && !x.inReset))

/-- XSPI_CS_N: weakly up before the domain is up; deselected until step 3, and where the boot ROM does not read the flash. -/
def State.xspiSelect (s : State) : Level := if !s.aon then .weakUp else if s.rst.released.getLsbD 2 && s.rst.bootState == .booting then .signal else .high

/-- LPDDR5X RESET_N and clock enable: low until step 6. -/
def State.memResetBall (s : State) : Level := if s.aon && s.rst.released.getLsbD 5 then .signal else .low

/-! Where the signals lie: row and column (Table 17-10). -/

inductive Signal where
  | ray (n : Nat)
  /-- Of lane k: PETp, PETn, PERp, PERn for j from 0 to 3. -/
  | host (k j : Nat)
  | hostRefclk (n : Bool)
  | sillage (k j : Nat)
  | slRefclk (d : Nat) (n : Bool)
  /-- Of port p: TXP, TXN, RXP, RXN for j from 0 to 3. -/
  | bb (p j : Nat)
  | mem (ch s : Nat)
  | memZq (ch : Nat)
  | strobe (s : Nat) | gpio (i : Nat) | encA (a : Nat) | encB (a : Nat) | encZ (a : Nat) | mark (m : Nat)
  | phaseIn | ppsIn | ppsOut | syncIn | syncOut | pwrClk | pwrData | pwrLatch | pwrFault | pfailN | sealDone
  | scl | sda | addr (b : Nat) | porstN | sysrstN | rstrap | holdupSense | refclkIn
  | tck | tms | tdi | tdo | trstN | xspiClk | xspiCsN | xspiDqs | xspiDq (b : Nat) | xspiResetN | hostPerstN | slPerstN (d : Nat)
  deriving DecidableEq, Repr

/-- 3.3 V bank position q. -/
def bank33 (q : Nat) : Nat × Nat := (47 + 2 * (q / 27), 8 + q % 27)

/-- 1.8 V bank position q. -/
def bank18 (q : Nat) : Nat × Nat := (47 + 2 * (q / 15), 36 + q % 15)

/-- The ball of a signal (Table 17-10). -/
def Signal.ball : Signal → Nat × Nat
  | .ray n => if n < 48 then (2 + 2 * (n % 2), 5 + n) else (56 - 2 * (n % 2), n - 43)
  | .host k j => (7 + 3 * k + j % 2, if j < 2 then 1 else 3)
  | .hostRefclk n => (55, if n then 3 else 1)
  | .sillage k j => (7 + 3 * k + j % 2, if j < 2 then 57 else 55)
  | .slRefclk d n => (54 + d, if n then 57 else 55)
  | .bb p j => (if j < 2 then 7 else 9, 10 + 6 * p + j % 2)
  | .mem ch s => (12 + 5 * (ch % 4) + s / 16, 8 + 26 * (ch / 4) + s % 16)
  | .memZq ch => (31, 8 + 26 * (ch / 4) + 2 * (ch % 4))
  | .strobe s => bank33 s
  | .gpio i => bank33 (32 + i)
  | .encA a => bank33 (48 + 3 * a) | .encB a => bank33 (49 + 3 * a) | .encZ a => bank33 (50 + 3 * a)
  | .mark m => bank33 (60 + m)
  | .phaseIn => bank33 68 | .ppsIn => bank33 69 | .ppsOut => bank33 70 | .syncIn => bank33 71 | .syncOut => bank33 72
  | .pwrClk => bank33 73 | .pwrData => bank33 74 | .pwrLatch => bank33 75 | .pwrFault => bank33 76 | .pfailN => bank33 77 | .sealDone => bank33 78
  | .scl => bank18 0 | .sda => bank18 1 | .addr b => bank18 (2 + b)
  | .porstN => bank18 5 | .sysrstN => bank18 6 | .rstrap => bank18 7 | .holdupSense => bank18 8 | .refclkIn => bank18 9
  | .tck => bank18 10 | .tms => bank18 11 | .tdi => bank18 12 | .tdo => bank18 13 | .trstN => bank18 14
  | .xspiClk => bank18 15 | .xspiCsN => bank18 16 | .xspiDqs => bank18 17 | .xspiDq b => bank18 (18 + b) | .xspiResetN => bank18 26
  | .hostPerstN => bank18 27 | .slPerstN d => bank18 (28 + d)

/-- Supplies of the balls that carry no signal (Table 17-9). -/
inductive Rail where
  | vss | vdd | vdds | vddAon | vddRay | vddhRay | vddSer | vddhSer | vdd2h | vddq | vddio18 | vddio33
  deriving DecidableEq, Repr

/-- The rail of a ball that no formula names (Table 17-9). -/
def railAt (r c : Nat) : Rail :=
  let odd := fun (n : Nat) => n % 2 == 1
  let mid := within 5 53 r
  if c = 4 && mid || c = 54 && mid then if odd r then .vddSer else .vddhSer
  else if c < 5 || 52 < c then .vss
  else if r = 3 || r = 55 then if odd c then .vddRay else .vddhRay
  else if r = 6 || r = 10 then if odd c then .vddSer else .vss
  else if r = 8 then if odd c then .vddhSer else .vss
  else if within 11 31 r then if odd (r + c) then .vss else if within 24 33 c then .vdd2h else .vddq
  else if within 32 45 r then if odd (r + c) then .vss else if r < 34 || 43 < r then .vdds else .vdd
  else if (r = 46 || r = 52) && (c = 5 || c = 7) then .vddAon
  else if within 46 52 r && !odd r && odd c then if c < 35 then .vddio33 else .vddio18
  else .vss

/-- The PCIe Device ID of a variant (Table 17-12). -/
def Variant.pcieDevice : Variant → Nat
  | .gv9640 => 0x9640 | .gv4840 => 0x4840 | .gv2440 => 0x2440

end Sys2Proof.Machine
end

