-- ==== Sys2Proof/Machine/Views.lean ====
section
/-! DEFINITION. Views of State that no step reads: parity and the bursts of external memory (01_architecture.md R34, R36, R37), the training
and wake patterns of the forward lane (02_ray_line.md R50), the maps of BAR2 and BAR4 and the configuration space of the host link
(11_host_link_and_dma.md R316, R317, R324, R325), and the supplies (17_electrical_and_package.md R479 to R484). -/
namespace Sys2Proof.Machine

/-! Words and bursts of external memory (R34, R36). -/

/-- The parity bit that every stored or carried word has: the number of ones in the 41 bits is even (R34). -/
def parityBit (w : Word) : Bool := popCount 40 w.toNat % 2 == 1

/-- A word and its parity bit agree (R34). -/
def parityHolds (w : Word) (p : Bool) : Bool := parityBit w == p

/-- Burst and slot of a word address (R36). -/
def burstOf (a : Nat) : Nat := a / 12
def slotOf (a : Nat) : Nat := a % 12

/-- The burst tag: the low 20 bits of the burst number (Table 1-8). -/
def burstTag (b : Nat) : Nat := b % 2 ^ 20

/-- A 64-byte burst as it lies in external memory (Table 1-8). -/
def burstImage (m : List (Nat × Word)) (b : Nat) : BitVec 512 :=
  let ws := (List.range 12).map fun k => memRead m (12 * b + k)
  BitVec.ofNat 512
    (sumNat (ws.zipIdx.map fun x => x.1.toNat * 2 ^ (40 * x.2)) + sumNat (ws.zipIdx.map fun x => b2n (parityBit x.1) * 2 ^ (480 + x.2)) + burstTag b * 2 ^ 492)

/-- Word and parity bit of a slot of a burst. -/
def burstWord (v : BitVec 512) (k : Nat) : Word := (v >>> (40 * k)).truncate 40
def burstParity (v : BitVec 512) (k : Nat) : Bool := v.getLsbD (480 + k)

/-- Slots of a burst read at burst number `b` that fail: all 12 where the tag does not match, else those whose parity does not hold (R36). -/
def burstFails (v : BitVec 512) (b : Nat) : List Nat :=
  if (v >>> 492).toNat != burstTag b then List.range 12 else (List.range 12).filter fun k => !parityHolds (burstWord v k) (burstParity v k)

/-- A write of fewer than 12 words: the burst is read, what it writes is merged in, and the whole burst is written (R37). -/
def burstMerge (m : List (Nat × Word)) (b : Nat) (ws : List (Nat × Word)) : List (Nat × Word) :=
  ws.foldl (fun m x => if x.1 < 12 then memWrite m (12 * b + x.1) x.2 else m) m

/-! Patterns of the forward lane (R50). -/

/-- The next bit of PRBS13 after 13 bits, newest first. (log 185 PRESUMED) -/
def prbsNext (l : List Bool) : Bool := (l.getD 12 false != l.getD 11 false) != (l.getD 1 false != l.getD 0 false)

/-- n bits of PRBS13 after a history of 13 bits, newest first. (log 185 PRESUMED) -/
def prbs13 : Nat → List Bool → List Bool
  | 0, _ => []
  | n + 1, l => prbsNext l :: prbs13 n (prbsNext l :: l.take 12)

/-- Two bits as one level, Gray coded, the earlier bit first. (log 185 PRESUMED) -/
def gray4 : Bool → Bool → Pam4
  | false, false => 0 | false, true => 1 | true, true => 2 | true, false => 3

def grayPairs : List Bool → List Pam4
  | a :: b :: r => gray4 a b :: grayPairs r
  | _ => []

/-- n symbols of PRBS13Q. (log 185 PRESUMED) -/
def prbs13q (n : Nat) (seed : List Bool) : List Pam4 := grayPairs (prbs13 (2 * n) seed)

/-- The payload of a training frame: PRBS13 on ±3 in ANNOUNCE, PRBS13Q in ADAPT and READY (Table 2-2). -/
def trainingPayload (announce : Bool) (seed : List Bool) : List Pam4 :=
  if announce then (prbs13 160 seed).map fun b => if b then 3 else 0 else prbs13q 160 seed

/-- A training frame (Table 2-2). (log 185 PRESUMED) -/
def trainingFrame (field : BitVec 64) (announce : Bool) (seed : List Bool) : List Pam4 :=
  frameMarker ++ ((List.range 64).map fun i => if field.getLsbD (63 - i) then (3 : Pam4) else 0) ++ trainingPayload announce seed

/-- A wake burst (Table 2-2). (log 185 PRESUMED) -/
def wakeBurst (seed : List Bool) : List Pam4 := prbs13q 4064 seed ++ endMarker

/-! BAR2 (R324) and BAR4 (R325). -/

/-- The note queue of Door 0 that an 8-byte write to BAR2 pushes to, and the word: the DOOR_PUSH that the write is. -/
def bar2Push (off : Nat) (v : BitVec 64) : Option (Nat × Word) :=
  if off % 0x100 = 0 && decide (off / 0x100 < 3) then some (off / 0x100, v.truncate 40) else none

/-- An 8-byte read of BAR2: the counts of the doors; pushes and the reserved part read 0 (Table 11-4). -/
def State.bar2Read (s : State) (off : Nat) : BitVec 64 :=
  let r := off - 0x1000
  if 0x1000 ≤ off && off % 8 == 0 && decide (r / 0x40 < 4) && decide (r % 0x40 / 8 < 3) && s.hostRegs then
    ((s.note (r / 0x40) (r % 0x40 / 8)).count).zeroExtend 64
  else 0

/-- A dword of an MSI-X table entry. -/
def Vector.dword (x : Vector) : Nat → BitVec 32
  | 0 => x.addrLo | 1 => x.addrHi | 2 => x.msgData | _ => x.control

/-- A dword of BAR4: the MSI-X table, the pending-bit array at 0x2000, 0 elsewhere (R325). -/
def State.bar4Read (s : State) (off : Nat) : BitVec 32 :=
  if off < 0x1000 then (s.vector (off / 16)).dword (off % 16 / 4)
  else if within 0x2000 0x201F off then
    BitVec.ofNat 32 (maskOf ((List.range 32).filter fun i => (s.vector (32 * ((off - 0x2000) / 4) + i)).pendingBit))
  else 0

/-! Configuration space (Table 11-1). -/

def pcieVendor : Nat := 0x1F7E
def pcieClass : Nat := 0x048000

/-- Sizes of BAR0, BAR2 and BAR4 in bytes. -/
def barSize : Nat → Nat
  | 0 => 0x4000000 | 2 => 0x10000 | 4 => 0x4000 | _ => 0

/-- Kinds of request that the host may send. -/
inductive HostRequest where
  | configuration
  | memory (bar off : Nat)
  | other
  deriving DecidableEq, Repr

/-- A request is taken; any other is answered as Unsupported Request (Table 11-1). -/
def HostRequest.supported : HostRequest → Bool
  | .configuration => true
  | .memory b off => decide (off < barSize b)
  | .other => false

/-- Most reads outstanding, with 10-bit tags. -/
def readsMax : Nat := 768

/-- The read requests of a transfer: none exceeds Max_Read_Request_Size (R317). (log 172 PRESUMED) -/
def readRequests (mrrs addr len : Nat) : List (Nat × Nat) :=
  (List.range (ceilDiv len mrrs)).map fun k => (addr + mrrs * k, min mrrs (len - mrrs * k))

/-! Supplies (R479 to R482) and power by state (R484). -/

/-- Operating range of a rail in mV, and its maximum current in mA (Table 17-1). -/
def Rail.range : Rail → Nat × Nat × Nat
  | .vss => (0, 0, 0)
  | .vdd => (725, 775, 60000) | .vdds => (775, 825, 3000) | .vddAon => (760, 840, 300)
  | .vddRay => (873, 927, 4000) | .vddhRay => (1164, 1236, 2000)
  | .vddSer => (825, 875, 3000) | .vddhSer => (1164, 1236, 1000)
  | .vdd2h => (1020, 1080, 2000) | .vddq => (485, 515, 2000)
  | .vddio18 => (1710, 1890, 300) | .vddio33 => (3135, 3465, 500)

/-- The group of the power-up order (Table 17-2). -/
def Rail.group : Rail → Nat
  | .vss => 0 | .vddAon => 1 | .vddio18 => 1 | .vddio33 => 2 | .vdd => 3 | .vdds => 3
  | .vddRay => 4 | .vddSer => 4 | .vdd2h => 4 | .vddhRay => 5 | .vddhSer => 5 | .vddq => 5

/-- Highest voltage of a rail that does no damage, in mV (Table 17-3). -/
def Rail.absMax : Rail → Nat
  | .vss => 0 | .vdd => 900 | .vdds => 900 | .vddAon => 900 | .vddRay => 1150 | .vddSer => 1150 | .vdd2h => 1150
  | .vddhRay => 1400 | .vddhSer => 1400 | .vddq => 650 | .vddio18 => 2100 | .vddio33 => 3900

/-- A rail lies within its operating range. -/
def Rail.inRange (r : Rail) (mv : Nat) : Bool := within r.range.1 r.range.2.1 mv

/-- A group may begin to rise: every rail of the earlier groups lies within its range (R480). -/
def groupMayRise (mv : Rail → Nat) (g : Nat) : Bool :=
  ([Rail.vdd, .vdds, .vddAon, .vddRay, .vddhRay, .vddSer, .vddhSer, .vdd2h, .vddq, .vddio18, .vddio33].filter fun r => decide (r.group < g)).all fun r => r.inRange (mv r)

/-- Most that the device draws in a power state, in mW (Table 17-5; RUN: the total of Table 17-4). -/
def State.drawMax (s : State) : Nat :=
  match s.ledger.pstate with
  | .run => 56000
  | .low => 3000
  | .hold => if s.ledger.sealDone then 3000 else 18000

/-- The highest lid temperature that the board may allow, in 1/100 °C at a draw in W (R486). -/
def lidMax (watts : Nat) : Int := 11500 - 10 * (watts : Int)

end Sys2Proof.Machine
end

