-- ==== Sys2Proof/Tests/Slice0.lean ====
section
/-! SUPPORT. Tests: each statement's hypotheses hold together somewhere, ill-formed commands are refused, and single steps with results
worked out from the spec. -/
namespace Sys2Proof.Tests
open Sys2Proof Sys2Proof.Machine

set_option Elab.async false

/-- A block that has started: the doors are open, the host link is up and Rec[0] is enabled, 4 s after power-on. -/
def up : State :=
  { State.reset with
    rst := { ResetCtl.reset with alwaysOn := true, phokel := true, bootState := .running, released := 0xFFF, nextStep := 13 }
    host := { HostLink.reset with up := true, busMaster := true, width := 16, rate := 5, mps := 2, rec0 := { RecRing.reset with baseHi := 0x9000000000 } }
    time := { TimeBase.reset with cycle := 1000000000, mono := 4000000000 * 2 ^ 32 } }

/-- A message of Door 0 with tag 5. -/
def msg (payload : List Word) : Msg := { door := 0, tag := 5, flags := 0, payload := payload }

/-- A fence that waits, and a long command of Door 1. -/
def waiting (door : Nat) (w : Wait) : Inflight := { door := door, opcode := 0, tag := 1, flags := 0, session := 0, wait := w, payload := [], mute := false }

/-- A queued word. -/
def word (w : Word) : NoteWord := { w := w, at_ := 0, session := 0, torn := none }

/-! The queue. -/

theorem witness_StepPerformsFrontCommand : ({ up with pending := [.travelDegraded] } : State).pending = .travelDegraded :: [] ∧ up.pending = [] := ⟨rfl, rfl⟩

theorem witness_StepsKeepMemoryCanonical : Memory.wf up.extMem = true ∧ step up = .next up := ⟨rfl, rfl⟩

theorem witness_StepsKeepTheDie : step up = .next up := rfl

theorem witness_LifecycleNeverGoesBack : step up = .next up := rfl

/-! The mailbox. -/

/-- Board messages are not permitted for CTX_BIND; FENCE waits; a hold of power. -/
theorem witness_MessageChecksComeInOrder :
    ({ up with mail := { up.mail with inflight := [waiting 0 .fence] } } : State).takes 0 = false ∧
    up.takes 0 = true ∧ permitR0.door 1 = false ∧ up.takes 1 = true ∧ permitR.door 0 = true ∧
    ({ up with ledger := { up.ledger with pstate := .low } } : State).takes 0 = true ∧ permitR.power .low = false := by decide

theorem witness_ResponseGoesToRecordRing : (msg []).door = 0 ∧ up.mail.mute = false ∧ up.host.held = [] ∧ up.rec0Open = true ∧ (msg []).flags.getLsbD 0 = false ∧
    ({ up with host := { up.host with rec0 := .reset } } : State).rec0Open = false := by decide

theorem witness_SystemQueriesAnswer : (msg []).payload = [] ∧ up.admits 0x000 permitRLB (msg []) = true ∧ up.admits 0x001 permitRLB (msg []) = true ∧
    up.admits 0x002 permitRLB (msg []) = true ∧ up.admits 0x804 permitRLB (msg []) = true ∧ up.mail.shed < 4 ∧ up.sec.major < 256 := by decide

theorem witness_FenceHoldsItsDoor : up.admits 0x003 permitRLB (msg []) = true ∧ (∀ i ∈ up.mail.inflight, i.wait ≠ .fence) ∧ up.mail.count 0 = 0 ∧
    ({ up with mail := { up.mail with inflight := [waiting 0 (.barrier 0)] } } : State).mail.count 0 ≠ 0 ∧
    ({ up with mail := { up.mail with inflight := [waiting 0 (.barrier 0)] } } : State).hasRoom (msg []) = true := by decide

theorem witness_EventBarrierDelivers : up.admits 0x004 permitRL (msg [0, 0]) = true ∧ up.mail.accepted = none ∧ up.phokelStops = false ∧ up.barrierTime (msg [0, 0]) = some up.dtNs ∧ up.hasRoom (msg [0, 0]) = true ∧
    up.barrierTime (msg [0x0000000001, 5 * 2 ^ 32 / 2 ^ 40]) = some 1 ∧
    ({ up with mail := { up.mail with inflight := [waiting 0 (.barrier (up.dtNs - 2000))] } } : State).barrierDue = some (up.dtNs - 2000) ∧
    ({ up with mail := { up.mail with inflight := [waiting 0 (.barrier (up.dtNs - 2000))] } } : State).undelivered (up.dtNs - 2000) = false := by decide

theorem witness_DoorCfgSetsOneThreshold : up.admits 0x005 permitRL0 (msg [mkWord [(39, 38, 3), (37, 36, 2), (35, 30, 63)]]) = true := by decide

theorem witness_ResetCommandsReset : up.admits 0x006 permitRL0 { msg [0x5359535400] with flags := 1 } = true ∧ up.admits 0x007 permitRL0 (msg [0x434F524500]) = true ∧
    up.hasRoom (msg []) = true ∧ up.sec.fuses = none ∧ up.rst.off = false ∧ up.rst.phokel = true := by decide

theorem witness_NoteQueuesStoreAndTear : up.queueUp 3 = true ∧ (up.producer 3).isSome = true ∧ (up.note 3 2).discard = 0 ∧ up.beingRead 3 2 = false ∧ (up.note 3 2).words.length < 64 ∧
    64 ≤ ((up.setNote 3 2 { up.note 3 2 with words := List.replicate 64 (word 0) }).note 3 2).words.length := by decide

/-- A NOP in the top note of Door 2, a message still arriving, and a torn one. -/
theorem witness_MessagesAreTakenWhole :
    (up.setNote 2 0 { up.note 2 0 with words := [word 0] }).nextQueue = some (2, 0) ∧ headerOp 0 = 0 ∧ headerLen 0 = 0 ∧
    (up.setNote 2 0 { up.note 2 0 with words := List.replicate 63 (word 0x000FF00000), thresh := 63 }).nextQueue = some (2, 0) ∧ headerLen 0x000FF00000 = 255 ∧
    (up.setNote 2 0 { up.note 2 0 with words := [{ word 0x0000400000 with torn := some 0 }] }).nextQueue = some (2, 0) ∧
    ({ up with mail := { up.mail with taking := some { door := 2, note := 0, header := 0x0000100000, words := [], session := 0, since := up.now - cyclesPerMs, accepted := 0, mute := false } } } : State).mail.taking ≠ none ∧ up.phokelStops = false ∧
    (0 : Nat) < headerLen 0x0000100000 ∧ up.now - cyclesPerMs + cyclesPerMs ≤ up.now ∧ (up.note 2 0).turned = none := by decide

/-- A queue whose last word was turned away in this cycle. -/
def turnedAway : Note :=
  { up.note 3 0 with words := [{ word 0 with torn := some 0 }], turned := some { cycle := up.now, word := word 1, words := [{ word 0 with torn := some 0 }], openLeft := 0, openStored := 0 } }

theorem witness_MessagesAreTakenWhole_turned :
    ((up.setNote 3 0 turnedAway).note 3 0).turned = turnedAway.turned ∧ (up.setNote 3 0 turnedAway).nextQueue = some (3, 0) ∧ up.mail.taking = none ∧ (turnedAway.mended up.now).words = [{ word 0 with torn := some 0 }, word 1] := by decide

theorem witness_HeldResponsesAndShedLevel :
    ({ up with host := { up.host with held := [[0]] } } : State).rec0Open = true ∧
    2 * cyclesPerMs < (up.setNote 0 1 { up.note 0 1 with words := [word 0] }).heartWait.getD 0 ∧ up.mail.shed = 0 ∧ up.doorsUp = true ∧ up.phokelStops = false ∧
    ({ up with mail := { up.mail with shed := 3, shedSince := up.now - cyclesPerS } } : State).mail.shed = 2 + 1 ∧ up.log.queue.length < 64 ∧ up.heartWait.getD 0 < cyclesPerMs := by decide

theorem witness_LogReadReturnsEntries :
    up.admits 0x803 permitRLB (msg [mkWord [(39, 28, 4095), (27, 15, 15)]]) = true ∧ fld (mkWord [(39, 28, 4095), (27, 15, 15)]) 39 28 = 4095 ∧
    fld (mkWord [(39, 28, 4095), (27, 15, 15)]) 14 0 = 0 ∧ bit (mkWord [(39, 28, 0), (27, 15, 4096), (14, 14, 1)]) 14 = true ∧
    fld (mkWord [(39, 28, 0), (27, 15, 4096), (14, 14, 1)]) 27 15 = 4096 ∧ 0xF00 ≤ (0xFFF : BitVec 12).toNat ∧ up.sec.lifecycle ≠ .factory := by decide

/-- A block whose Bb 4 has a link and an open door, and one session of Door 1. -/
def upBb : State :=
  { up with
    bb := { up.bb with bbs := [(4, { Bb.reset 4 with link := true, cfg := [0x0220020000, 0, 0x00BE000000, 0x2139770000, 0, 0, 0, 0, 0] })] }
    sec := { up.sec with doorSecret := some (List.replicate 32 1) } }

/-- An empty HELLO with key slot 3, a MSG-free datagram header aside. -/
def hello : List Byte := doorHeader 1 33 0 0 ++ [3] ++ List.replicate 32 9

theorem witness_DoorSessionsOpenAndClose_hello : upBb.doorOpenOn 4 = true ∧ upBb.bb.hellos = 0 ∧ upBb.bb.sessions = [] ∧
    dgramOf 1 0 hello = some { session := 0, seq := 0, body := [3] ++ List.replicate 32 9, tag := [] } ∧ beAt ([3] ++ List.replicate 32 (9 : Byte)) 0 1 ≤ 3 := by decide

theorem witness_TwoWireTargetServesRegisters : up.scanOpen = false ∧ up.board.attnNew.cycle ≠ up.now ∧ (0x60 : BitVec 7).toNat ≠ 0x58 + up.board.addr.toNat ∧ up.rst.alwaysOn = true ∧ up.rst.off = false ∧ up.ledger.pstate ≠ .low ∧ (0x58 : BitVec 7).toNat = 0x58 + up.board.addr.toNat ∧
    up.rst.alwaysOnSince + 60 * cyclesPerUs ≤ up.now ∧ up.rst.serves 0x03 = true ∧ fld (0xFFC0000000 : Word) 29 0 = 0 ∧
    ({ up with board := { up.board with twOpen := true, twAck := true, pointer := 0x1F, respWords := [7], respLens := [1] } } : State).board.respWords = [7] ∧
    ({ up with board := { up.board with respHeld := [List.replicate 64 0], respWords := List.replicate 64 0 } } : State).board.respHeld = [List.replicate 64 0] := by decide

theorem witness_BoardAttentionAndPowerChain : up.rst.alwaysOn = true ∧ up.rst.off = false ∧ up.scanOpen = false ∧ ({ up with rst := { up.rst with coreReset := true } } : State).rst.coreReset = true ∧ up.rst.quiet = false ∧ ({ up with board := { up.board with attn := 0x2000000000 } } : State).board.attnPending = true ∧
    up.board.attnAt = none ∧ (1 : BitVec 98).getLsbD 0 = true ∧ (1 : BitVec 98).getLsbD 1 = false ∧ up.board.chainErr = false ∧
    ∀ k, k < up.variant.ports → up.chainSuspect 1 k = false := by decide

/-- The neutral point: with it as key and as the signature's first half, and 0 as its second, RFC 8032's equation holds for every message. -/
def neutral : List Byte := 1 :: List.replicate 56 0

/-- Where the sessions come from. -/
def peer1 : Peer := { mac := 1, v6 := false, ip := 1, udp := 1 }

/-- A session of Door 1 that awaits its OPEN, and one that is open. -/
def openSession (o : Bool) : Session :=
  { no := 7, bb := 4, peer := peer1, keySlot := 0, nc := List.replicate 32 9, nd := List.replicate 32 8, isOpen := o, key := [5], lastSeq := 3, ownSeq := 0, since := up.now }

/-- SHAKE256 of the neutral key as R397 hashes it. -/
def neutralHash : List Byte := [0x0d, 0x9c, 0xe3, 0x28, 0x24, 0xbd, 0x7d, 0xe7, 0x97, 0xb4, 0x3e, 0x0d, 0x27, 0x98, 0xdf, 0x45, 0x45, 0x14, 0x34, 0x0c, 0x74, 0x5d, 0xf4, 0xc6, 0xa8, 0xc9, 0xa6, 0xb7, 0x4e, 0xe6, 0xb8, 0x15]

def upSession (o : Bool) : State :=
  { upBb with bb := { upBb.bb with sessions := [openSession o] }
              sec := { upBb.sec with ownerHash := [some neutralHash, none, none, none], ownerPub := [some neutral, none, none, none] } }

/-- OPEN of session 7. -/
def openDgram : List Byte := doorHeader 3 114 7 0 ++ neutral ++ List.replicate 57 0

theorem witness_DoorSessionsOpenAndClose_open : (upSession false).doorOpenOn 4 = true ∧
    dgramOf 3 0 openDgram = some { session := 7, seq := 0, body := neutral ++ List.replicate 57 0, tag := [] } ∧
    (upSession false).bb.sessions.find? (fun x => x.no == 7 && !x.isOpen && x.bb == 4 && x.peer == peer1) = some (openSession false) ∧
    (upSession false).now ≤ (openSession false).since + cyclesPerS := by decide +kernel

theorem witness_DoorSessionsOpenAndClose_owner : (upSession false).sec.ownerOk 0 (((upSession false).sec.ownerPub.getD 0 none).getD []) = true := by decide +kernel

theorem witness_DoorSessionsOpenAndClose_signature :
    ed448Verify (((upSession false).sec.ownerPub.getD 0 none).getD []) "gv-door"
      ((openSession false).nc ++ (openSession false).nd ++ bytesBE 4 7 ++ bytesBE 5 up.chipId.toNat) (neutral ++ List.replicate 57 0) = true := by decide +kernel

/-- MSG and CLOSE of session 7: a NOP to the base note. -/
def msgBody : List Byte := [2, 0, 0, 0, 0, 0]
def msgTag : List Byte := [0x0e, 0x7c, 0x18, 0xa7, 0xec, 0x3b, 0x63, 0x0d, 0x3f, 0xdd, 0x40, 0xaa, 0x96, 0x05, 0xa8, 0x8d, 0xb7, 0xce, 0xff, 0x8a, 0x96, 0x5f, 0xc5, 0x75, 0x0a, 0xb7, 0xbb, 0x67, 0x30, 0x9a, 0xbf, 0xd0]
def msgDgram : List Byte := doorHeader 5 6 7 4 ++ msgBody ++ msgTag
def closeTag : List Byte := [0xb5, 0xca, 0xb0, 0x20, 0x64, 0x6d, 0xeb, 0x04, 0x2c, 0xbb, 0x80, 0x99, 0x94, 0x4d, 0xe2, 0x7c, 0x75, 0x00, 0x08, 0x57, 0x2e, 0xc0, 0xaf, 0xf8, 0x5a, 0xd4, 0x81, 0x39, 0x8b, 0xed, 0x5e, 0xc4]
def closeDgram : List Byte := doorHeader 8 0 7 4 ++ closeTag

theorem witness_DoorSessionsOpenAndClose_msg : ∃ d, dgramOf 5 32 msgDgram = some d ∧ (upSession true).tagged 5 d = some (openSession true) ∧
    beAt d.body 0 1 ≤ 2 ∧ d.body.length % 5 = 1 ∧ (bodyWords (d.body.drop 1)).length = headerLen (pw (bodyWords (d.body.drop 1)) 0) + 1 ∧ (openSession true).lastSeq < d.seq ∧
    (upSession true).doorOpenOn 4 = true :=
  ⟨{ session := 7, seq := 4, body := msgBody, tag := msgTag }, by decide +kernel⟩

theorem witness_DoorSessionsOpenAndClose_close : ∃ d, dgramOf 8 32 closeDgram = some d ∧ (upSession true).tagged 8 d = some (openSession true) :=
  ⟨{ session := 7, seq := 4, body := [], tag := closeTag }, by decide +kernel⟩

/-- SHAKE256 of the empty message, FIPS 202. -/
theorem test_shake256_empty : shake256 [] 8 = [0x46, 0xb9, 0xdd, 0x2b, 0x0b, 0xa8, 0x8d, 0x13] := by decide +kernel

/-! Camera ports. -/

/-- Port 2 as given, and its supply as given. -/
def upPort (p : Port) (x : Supply) : State := { up with ports := [(2, p)], board := { up.board with supplies := [(2, x)] } }

def supplyOn : Supply := { Supply.reset 2 with want := true, latched := true }

/-- Port 95 is named by the largest PORT there is; a bond of two at 94. -/
theorem witness_PortSettingsAndPower :
    ((upPort { Port.reset 2 with state := .data } supplyOn).port 2).state ≠ .off ∧
    up.admits 0x100 permitR (msg [mkWord [(39, 33, 95), (32, 31, 2), (23, 13, 2000)], mkWord [(39, 24, 1100)]]) = true ∧ portArg up 95 = true ∧
    fld (mkWord [(39, 33, 95), (32, 31, 2), (23, 13, 2000)]) 39 33 = 95 ∧ fld (mkWord [(39, 33, 95), (32, 31, 2), (23, 13, 2000)]) 32 31 ≠ 3 ∧ fld (mkWord [(39, 33, 95), (32, 31, 2), (23, 13, 2000)]) 30 29 ≠ 3 ∧
    fld (mkWord [(39, 33, 95), (32, 31, 2), (23, 13, 2000)]) 23 13 = 2000 ∧ fld (mkWord [(39, 33, 95), (32, 31, 2), (23, 13, 2000)]) 12 0 = 0 ∧
    8800 + fld (mkWord [(39, 24, 1100)]) 23 8 ≤ 8 * fld (mkWord [(39, 24, 1100)]) 39 24 ∧
    up.admits 0x101 permitR (msg [mkWord [(39, 33, 94), (32, 31, 1)]]) = true ∧ 94 % 2 ^ 1 = 0 ∧ fld (mkWord [(39, 33, 94), (32, 31, 1)]) 32 31 = 1 ∧
    (∀ k ∈ groupPorts 94 1, k < up.variant.ports ∧ ∀ j ∈ up.members? k, up.portFree j = true) ∧
    up.admits 0x102 permitR (msg [mkWord [(39, 33, 95), (32, 31, 2), (30, 15, 65535)]]) = true ∧ up.hasRoom (msg []) = true ∧ up.powerBusy 95 = false ∧
    fld (mkWord [(39, 33, 95), (32, 31, 2), (30, 15, 65535)]) 14 0 = 0 ∧ up.admits 0x104 permitR (msg [mkWord [(39, 33, 2)]]) = true ∧
    ((upPort { Port.reset 2 with state := .data } supplyOn).port 2).state ≠ .off ∧ fld (mkWord [(39, 33, 2)]) 32 0 = 0 ∧
    ((upPort { Port.reset 2 with cycleEnd := some up.now } supplyOn).port 2).cycleEnd = some up.now ∧ 2 < up.variant.ports := by decide

def command7 : BcCommand := { tag := 7, cmd := 6, body := [], sent := some (up.now - 10 * cyclesPerMs), resent := true, reply := [] }
def run0 : Run := { start := 0, slots := 2, gone := false, epochMark := false, groups := [], trigs := [(0, 0)] }

theorem witness_CameraCommandsGoOut :
    up.admits 0x103 permitR (msg [mkWord [(39, 33, 2)]]) = true ∧ (upPort (Port.reset 2) supplyOn).powered 2 = true ∧ (Port.reset 2).training = none ∧
    up.admits 0x105 permitR (msg [mkWord [(39, 33, 2)]]) = true ∧ (((upPort { Port.reset 2 with state := .idle, wakeDue := true, runs := [run0] } supplyOn).port 2).runs.any fun r => decide (r.start ≤ 2560) && decide ((2560 : Int) < r.start + 1280 * r.slots)) = false ∧
    ((upPort { Port.reset 2 with state := .idle, wakeDue := true, txAt := 2560 } supplyOn).port 2).txItem = [] ∧ ((upPort { Port.reset 2 with state := .idle, wakeDue := true, txAt := 2560 } supplyOn).port 2).mayPut 1 = true ∧ ((upPort { Port.reset 2 with state := .waking } supplyOn).port 2).running = true ∧ up.hasRoom (msg []) = true ∧
    up.admits 0x106 permitR (msg [mkWord [(39, 33, 2), (24, 22, 4), (21, 16, 32)], 0x00FFFFFFFF, 0, 0, 0, 0, 0, 0, 0]) = true ∧ ceilDiv 32 5 = 7 ∧
    sensorArgs up (msg [mkWord [(39, 33, 2), (24, 22, 4), (21, 16, 32)], 0x00FFFFFFFF]) = true ∧
    sensorArgs up (msg [mkWord [(39, 33, 2), (24, 22, 1), (21, 16, 1)], 255]) = true ∧ sensorArgs up (msg [mkWord [(39, 33, 2), (24, 22, 1), (21, 16, 1)], 256]) = false ∧
    fld (mkWord [(39, 33, 2), (32, 29, 15), (28, 21, 255), (20, 13, 255), (12, 5, 255)]) 4 0 = 0 ∧ fld (mkWord [(39, 33, 2), (28, 25, 15)]) 24 0 = 0 ∧
    ((upPort { Port.reset 2 with commands := [command7] } supplyOn).port 2).commands.find? (fun c => c.tag == (7 : Byte).toNat) = some command7 ∧
    command7.sent = some (up.now - 10 * cyclesPerMs) ∧ up.now - 10 * cyclesPerMs + 10 * cyclesPerMs ≤ up.now ∧ ({ command7 with resent := false } : BcCommand).resent = false ∧
    ((upPort { Port.reset 2 with runs := [run0] } supplyOn).port 2).runs.find? (fun r => r.epochMark == false && !r.gone && decide (r.start < up.local24 + 96)) = some run0 ∧
    ((upPort { Port.reset 2 with runs := [{ run0 with epochMark := true }] } supplyOn).port 2).runs.find? (fun r => r.epochMark == true && !r.gone && decide (r.start < up.local24 + 96)) = some { run0 with epochMark := true } := by decide

def training0 : Training :=
  { step := .announce, deadline := up.now, waiting := false, limit := 0, frame := [], precode := false, idleOk := true, rate := 2, announces := 3, seen := true, crcBad := false, seq := 255, acked := false, repeatAt := up.now, adapted := false
    readies := 4, ended := false, seed := 5, left := 1, capRates := 7, capPrecode := true, capIdle := true, rateMax := 2, precodePolicy := 0, idlePolicy := true, announceWait := 200 }

/-- A training frame with this control field. -/
def frameOf (f : Nat) : List Pam4 := frameMarker ++ (List.range 64).map (fun i => if f.testBit (63 - i) then 3 else 0) ++ List.replicate 160 1

/-- A NAK frame and the CRC-8 of its first 7 bytes; one with another CRC. -/
theorem witness_TrainingStepsFollowTable :
    (∃ c : BitVec 8, crc8 (bytesBE 7 0xF0000000000000) = c ∧ crc8 (bytesBE 7 ((0xF000000000000000 + c.toNat) / 256)) = BitVec.ofNat 8 (0xF000000000000000 + c.toNat) ∧ (0xF000000000000000 + c.toNat) / 2 ^ 60 = 0xF) ∧
    trainingField? (frameOf (0xF000000000000000 + (crc8 (bytesBE 7 0xF0000000000000)).toNat)) = some (BitVec.ofNat 64 (0xF000000000000000 + (crc8 (bytesBE 7 0xF0000000000000)).toNat)) ∧
    trainingField? (frameOf 1) = some 1 ∧ trainingField? [] = none ∧ ({ training0 with step := .silence } : Training).step = .silence ∧ training0.waiting = false ∧
    crc8 (bytesBE 7 0) ≠ BitVec.ofNat 8 1 ∧ training0.left ≠ 0 ∧ training0.deadline ≤ up.now ∧ training0.adapted = false ∧ training0.rate ≠ 0 ∧ training0.repeatAt ≤ up.now ∧
    up.now < ({ training0 with deadline := up.now + 1 } : Training).deadline ∧ 4 ≤ training0.readies ∧
    ((upPort { Port.reset 2 with training := some { training0 with step := .retryWait } } supplyOn).port 2).training = some { training0 with step := .retryWait } ∧
    (upPort { Port.reset 2 with training := some { training0 with step := .commit } } supplyOn).inflight? (fun i => i.wait == .portTrain 2) = none ∧
    (Port.reset 2).bond = 0 ∧ (Port.reset 2).bondPos = 0 := by
  exact ⟨⟨crc8 (bytesBE 7 0xF0000000000000), rfl, by decide +kernel⟩, by decide +kernel⟩

/-- A bonded pair whose members have received block 5 more than 1 µs apart. -/
def block5 (at_ : Nat) : Block := { bsn := 5, words := [], marker := some (0, 0), deadline := none, marked := false, arrived := at_, arrivedAt := 4 * at_ }
def upPair : State :=
  { up with ports := [(2, { Port.reset 2 with bond := 1, state := .data, blocks := [block5 1000] }), (3, { Port.reset 3 with bond := 1, bondPos := 1, state := .idle, nextBsn := 5, blocks := [block5 1251] })] }

theorem witness_LossesAndIdle :
    ((upPort { Port.reset 2 with state := .data, idleAllowed := true } supplyOn).port 2).idleAllowed = true ∧ (Port.reset 2).idleAllowed = false ∧
    4 * ({ Port.reset 2 with state := .waking, wakeAt := some 0 } : Port).wakeBound ≤ cycles240 (up.now - 0) ∧
    (∃ j ∈ upPair.members? 2, (upPair.port j).state = .data) ∧ (∃ j ∈ upPair.members? 2, (upPair.port j).state = .idle ∨ (upPair.port j).state = .waking) ∧
    2 ∈ upPair.members? 2 ∧ 3 ∈ upPair.members? 2 ∧ 1 < (upPair.members? 2).length ∧ block5 1000 ∈ (upPair.port 2).blocks ∧
    (upPair.port 3).blocks.find? (fun c => c.bsn == (block5 1000).bsn) = some (block5 1251) ∧ (block5 1000).arrived + cyclesPerUs < (block5 1251).arrived ∧
    60 ≤ idleMatches idlePattern ∧ idleMatches frameMarker < 60 ∧ (upPair.port (upPair.head 2)).idleSkew = none ∧
    ({ upPair.port 2 with idleSkew := some 0 } : Port).idleSkew = some 0 ∧ 0 + cyclesPerUs < up.now ∧ (upPair.port 3).nextBsn = (block5 1000).bsn ∧
    (upPair.setPort 3 { upPair.port 3 with blocks := [] }).port 3 = { upPair.port 3 with blocks := [] } ∧ (block5 1000).arrived + cyclesPerUs < upPair.now := by decide

/-- The levels of a block of payload words 0 and a marker with BSN 0, under a scrambler of zeros. -/
def levels : List Pam4 := List.replicate 672 0 ++ [2, 2] ++ List.replicate 19 0

theorem witness_BlocksAreReceivedAndReleased :
    levels.length = 693 ∧ (rxWords false 33 levels { scram := 0, prev := 0 }).1.all (fun w => w.good) = true ∧
    ((rxWords false 33 levels { scram := 0, prev := 0 }).1.getD 32 { w := 0, good := false }).marker? = some (0, 0, 0) ∧
    ((rxWords false 33 levels { scram := 0, prev := 0 }).1.take 32).all (fun w => !w.isControl) = true ∧
    ((upPort { Port.reset 2 with state := .data } supplyOn).port 2).patterned = false ∧ (Port.reset 2).nextBsn = 0 ∧ (Port.reset 2).resync = false ∧ up.ledger.pstate ≠ .hold ∧
    ((upPort { Port.reset 2 with blocks := [{ block5 0 with deadline := some up.now }] } supplyOn).port 2).blocks = [{ block5 0 with deadline := some up.now }] ∧
    ((upPort { Port.reset 2 with blocks := [block5 0, block5 9] } supplyOn).port 2).blocks = block5 0 :: [block5 9] := by decide +kernel

theorem witness_PatternGeneratorRuns :
    patGen0Ok 0x82C1E00000 = true ∧ (0x82C1E00000 : Word) ≠ (up.port 2).patGen0 ∧
    ((upPort { Port.reset 2 with patPending := some (0x82C1E00000, up.now - 100 * cyclesPerMs) } supplyOn).port 2).patPending = some (0x82C1E00000, up.now - 100 * cyclesPerMs) ∧
    up.openFrames 2 = false ∧ up.now - 100 * cyclesPerMs + 100 * cyclesPerMs ≤ up.now ∧
    ({ Port.reset 2 with patGen0Used := 0x82C1E00000 } : Port).patterned = true ∧ fld (0x82C1E00000 : Word) 39 38 ≠ 3 ∧ longTypes (fld (0x82C1E00000 : Word) 33 28) = true ∧
    1 < fld (Port.reset 2).patGen1 39 24 ∧ up.ctxOn 2 (fld (0x82C1E00000 : Word) 37 34) = none ∧ up.ledger.enteringLow = false ∧ up.hostRegs = true ∧
    (Port.reset 2).patNext < (((up.time.mono : Int) + up.increment : Int) : Rat) ∧ (Port.reset 2).patY = 0 ∧ (Port.reset 2).bondPos = 0 := by decide

/-! Time, travel, cues and epochs. -/

theorem witness_TimeAndTravelSettings :
    up.admits 0x200 permitRL (msg [mkWord [(39, 38, 2), (37, 36, 3), (35, 6, 1000000000)], mkWord [(39, 31, 500), (30, 17, 10000), (16, 1, 65535)], mkWord [(39, 21, 500000), (20, 2, 1), (1, 1, 1)]]) = true ∧
    fld (mkWord [(39, 38, 2), (37, 36, 3), (35, 6, 1000000000)]) 39 38 ≠ 3 ∧ fld (mkWord [(39, 38, 2), (37, 36, 3), (35, 6, 1000000000)]) 37 36 < up.variant.backbone ∧
    fld (mkWord [(39, 38, 2), (37, 36, 3), (35, 6, 1000000000)]) 35 6 = 1000000000 ∧ fld (mkWord [(39, 31, 500), (30, 17, 10000), (16, 1, 65535)]) 39 31 = 500 ∧
    fld (mkWord [(39, 31, 500), (30, 17, 10000), (16, 1, 65535)]) 30 17 = 10000 ∧ fld (mkWord [(39, 21, 500000), (20, 2, 1), (1, 1, 1)]) 39 21 = 500000 ∧
    fld (mkWord [(39, 21, 500000), (20, 2, 1), (1, 1, 1)]) 20 2 = 1 ∧ fld (mkWord [(39, 21, 500000), (20, 2, 1), (1, 1, 1)]) 0 0 = 0 ∧
    fld (mkWord [(39, 38, 2)]) 39 38 ≠ up.time.source.code ∧ ({ up with time := { up.time with disc := .locked, source := .pps } } : State).time.disc = .locked ∧
    up.admits 0x201 permitRL (msg [0x3B9AC9FF, 0]) = true ∧ up.hasRoom (msg [0x3B9AC9FF, 0]) = true ∧ ptpNs 0x3B9AC9FF 0 = some 999999999 ∧ up.admits 0x202 permitRL (msg [0x8000000000]) = true ∧
    up.admits 0x203 permitRL (msg [mkWord [(39, 38, 3), (37, 37, 1)], mkWord [(39, 8, 1)], mkWord [(39, 16, 0xC00000)]]) = true ∧ 0 < fld (mkWord [(39, 8, 1)]) 39 8 ∧
    fld (mkWord [(39, 16, 0xC00000)]) 39 16 = 0xC00000 ∧
    up.admits 0x204 permitRL (msg [mkWord [(39, 32, 255), (31, 21, 2000), (20, 11, 1000), (9, 8, 2)], mkWord [(39, 26, 10000), (25, 16, 100), (15, 6, 1000)], mkWord [(39, 8, 64), (7, 0, 1)], mkWord [(39, 24, 1), (23, 11, 5000)]]) = true ∧
    fld (mkWord [(39, 32, 255), (31, 21, 2000), (20, 11, 1000), (9, 8, 2)]) 39 32 = 255 ∧ fld (mkWord [(39, 32, 255), (31, 21, 2000), (20, 11, 1000), (9, 8, 2)]) 31 21 = 2000 ∧
    fld (mkWord [(39, 26, 10000), (25, 16, 100), (15, 6, 1000)]) 39 26 = 10000 ∧ fld (mkWord [(39, 24, 1), (23, 11, 5000)]) 23 11 = 5000 ∧ fld (mkWord [(39, 24, 1), (23, 11, 5000)]) 10 0 = 0 ∧
    up.admits 0x205 permitRL (msg [mkWord [(39, 37, 7), (36, 35, 2), (25, 24, 2)], 0, 0, mkWord [(15, 10, 50)]]) = true ∧ fld (mkWord [(15, 10, 50)]) 15 10 = 50 ∧
    up.admits 0x207 permitRL (msg [mkWord [(39, 32, 255)], 0, 0, mkWord [(39, 38, 2), (37, 36, 2), (35, 35, 1)]]) = true ∧ fld (mkWord [(39, 38, 2), (37, 36, 2), (35, 35, 1)]) 34 0 = 0 := by decide

/-- DELAY 31 is refused and 32 is not; PITCH 0 needs COUNT 1. -/
theorem witness_CueWriteRefusesReservedRecords :
    up.admits 0x208 permitRL (msg [mkWord [(39, 30, 1023)], 0, 0, mkWord [(22, 0, 1)], mkWord [(39, 39, 1), (33, 18, 1), (17, 2, 32)], mkWord [(38, 32, 95)]]) = true ∧
    fld (mkWord [(39, 30, 1023)]) 29 0 = 0 ∧ bit (mkWord [(39, 39, 1), (33, 18, 1), (17, 2, 31)]) 39 = true ∧ fld (mkWord [(39, 39, 1), (33, 18, 1), (17, 2, 31)]) 17 2 < 32 ∧
    ¬ fld (mkWord [(39, 39, 1), (33, 18, 1), (17, 2, 32)]) 17 2 < 32 ∧ fld (mkWord [(39, 39, 1), (33, 18, 1), (17, 2, 32)]) 33 18 ≠ 0 ∧ ¬ 2 ^ 39 ≤ (0x7FFFFFFFFF : Word).toNat ∧
    2 ^ 39 ≤ (0x8000000000 : Word).toNat ∧ fld (mkWord [(22, 0, 1)]) 22 0 = 1 ∧ fld (mkWord [(38, 32, 95)]) 38 32 < up.variant.ports ∧ fld (mkWord [(38, 32, 95)]) 6 5 ≠ 3 ∧
    (up.port 95).bondPos = 0 ∧ fld (mkWord [(39, 39, 1), (33, 18, 1), (17, 2, 32)]) 1 0 = 0 := by decide

def cue0 : Cue := { Cue.reset 0 with point := 5, count := 1, armed := true }
def cyc0 : Cyc := { tOld := 0, t0 := 0, t1 := 1, xOld := 4, x0 := 4, x1 := 5, speed := 1, pOld := 0, p0 := 0, p1 := 0, rising := false }
def upTravel (d : Dir) : State := { up with tu := { up.tu with cues := [(9, cue0)], travel := { up.tu.travel with dir := d } } }

theorem witness_CuesFireInTheirDirection :
    ((upTravel .forward).cue 9).armed = true ∧ ((upTravel .forward).cue 9).catchUp = none ∧ ((upTravel .forward).cue 9).spent = false ∧ ((upTravel .forward).cue 9).count ≠ 0 ∧ ((upTravel .forward).cue 9).ref = 0 ∧
    ((upTravel .forward).cue 9).dir = 0 ∧ bit ((upTravel .forward).cue 9).w2 31 = false ∧ cyc0.xOld = cyc0.x0 ∧ (upTravel .forward).ledger.pstate ≠ .hold ∧
    (upTravel .forward).tu.travel.dir = .forward ∧ ¬ (((upTravel .forward).cue 9).point : Rat) < cyc0.x1 ∧ (((upTravel .forward).cue 9).point : Rat) < ({ cyc0 with x1 := 6 } : Cyc).x1 ∧ (((upTravel .forward).cue 9).point : Rat) ≤ ({ cyc0 with xOld := 5, x0 := 5 } : Cyc).x0 ∧ ¬ ((upTravel .reverse).tu.travel.dir = .forward) ∧
    ¬ (((upTravel .forward).cue 9).point : Rat) ≤ cyc0.x0 ∧ up.admits 0x209 permitRLB (msg [mkWord [(39, 30, 1023)]]) = true ∧ fld (mkWord [(39, 30, 1023)]) 29 0 = 0 := by decide +kernel

def cueMember : Word := mkWord [(39, 36, 5), (35, 26, 1023)]
def set15 (armed : Bool) : EpochSet := { EpochSet.reset 15 with defined := true, members := [cueMember], armed := armed }
def launch0 : Launch := { set := 15, edge := 1, epoch := 0, members := [cueMember], planned := [true], syncOut := false, ticket := none, own := none }
def upSet (armed : Bool) : State := { up with tu := { up.tu with sets := [(15, set15 armed)], launches := [launch0], syncPlanned := [1] } }

theorem witness_EpochSetsAreLaunched :
    up.admits 0x20A permitRL (msg (mkWord [(39, 36, 15), (35, 16, 2), (15, 6, 1000)] :: 0 :: List.replicate 64 cueMember)) = true ∧ (List.replicate 64 cueMember).length ≤ 64 ∧
    (List.replicate 64 cueMember).all (memberOk up) = true ∧ fld (mkWord [(39, 36, 15), (35, 16, 2), (15, 6, 1000)]) 4 0 = 0 ∧ fld (mkWord [(39, 36, 15), (35, 16, 2), (15, 6, 1000)]) 35 16 = 2 ∧
    (up.epochSet 15).armed = false ∧ (∀ l ∈ up.tu.launches, l.set ≠ 15) ∧
    up.admits 0x20B permitR (msg [mkWord [(39, 36, 15)], 100000, 0x0000000400]) = true ∧ up.mail.accepted = none ∧ up.scanOpen = false ∧ (upSet false).hasRoom (msg []) = true ∧ ((upSet false).epochSet 15).defined = true ∧
    ptpNs 100000 0x0000000400 = some (2 ^ 18 * 1000000000 + 100000) ∧ (upSet false).dtNs + 100000 ≤ 2 ^ 18 * 1000000000 + 100000 ∧ bit (mkWord [(39, 36, 15), (35, 35, 1)]) 35 = true ∧
    fld (mkWord [(39, 36, 15), (35, 35, 1)]) 34 0 = 0 ∧ (∀ k < 16, (up.epochSet k).armed = false) ∧ ((upSet true).epochSet 15).armed = true ∧
    (upSet false).tu.launches = launch0 :: [] ∧ ((launch0.edge * fracPerNs : Nat) : Int) < (upSet false).cycleEnd ∧ launch0.planned = [true] ∧ fld cueMember 39 36 = 5 ∧
    (upSet false).readmitsOf launch0.set = [] ∧ (upSet false).tu.syncPlanned = 1 :: [] ∧ ((1 * fracPerNs : Nat) : Int) < (upSet false).cycleEnd := by decide +kernel

def upTime (t : TimeBase) : State := { up with time := t }
def pps : TimeBase := { up.time with source := .pps, disc := .locked, stepThresh := 1000 }
def phase0 : Phase := { Phase.reset with periods := [2500000000000], lastEdge := some 0 }

theorem witness_DisciplineFollowsItsTable :
    (upTime pps).time.source = .pps ∧ 1000 * pps.ppsWindow < (secondOffset ((1000100001 : Int) - pps.ppsDelay)).natAbs ∧
    (secondOffset ((1000100000 : Int) - pps.ppsDelay)).natAbs ≤ 1000 * pps.ppsWindow ∧ pps.stepThresh < (secondOffset ((1000100000 : Int) - pps.ppsDelay)).natAbs ∧
    (secondOffset ((1000000100 : Int) - pps.ppsDelay)).natAbs ≤ pps.lockThresh ∧ ({ pps with disc := .acquiring, lockRun := 15 } : TimeBase).lockRun = 15 ∧
    secondOffset ((1000000001 : Int) - pps.ppsDelay) = 1 ∧ 2 ≤ pps.lockThresh ∧ 3 < up.variant.backbone ∧ pps.lockThresh < ((upTime pps).asOffset { received := 0, origin := 101, rateOffset := 0 }).natAbs ∧
    ({ pps with source := .as, asPort := 3 } : TimeBase).asPort = 3 ∧ pps.lastEdge + 375000000 ≤ (upTime pps).now ∧ up.scanOpen = false ∧ up.rst.phokel = true ∧ up.phokelStops = false ∧
    (upTime { pps with newOffset := some 1001 }).time.newOffset = some 1001 ∧ pps.stepThresh < (1001 : Int).natAbs ∧ (-1000 : Int).natAbs ≤ pps.stepThresh ∧
    ({ up with tu := { up.tu with phase := phase0 } } : State).tu.phase.lastEdge = some 0 ∧ phase0.lost = false ∧ ({ phase0 with lost := true } : Phase).lost = true ∧
    phase0.period = some 2500000000000 ∧ (2 : Rat) * 2500000000000 ≤ (((up.time.mono : Int) - 0 : Int) : Rat) := by decide +kernel

def axis3 : Axis := { Axis.reset 3 with enable := true, pitch := 1, ticksPerRev := 100, net := -103, lastSign := -1, lastZ := -1, lastA := some (4000000000 * 2 ^ 32), ticks := [(0, 1)], outSince := some 0 }
def upAxis (x : Axis) (st : TravelState) : State := { up with tu := { up.tu with axes := [(3, x)], travel := { up.tu.travel with state := st, agreeSince := some 0, coast := 3200000 } } }

theorem witness_AxesCountAndAreChecked :
    (3 : Nat) < axis3.glitch ∧ axis3.glitch ≤ 4 ∧ axis3.lastA = some (4000000000 * 2 ^ 32) ∧ (upAxis axis3 .track).localOf 4000000099 < 4000000000 * 2 ^ 32 + 100 * 2 ^ 32 ∧
    ¬ (upAxis axis3 .track).localOf 4000000100 < 4000000000 * 2 ^ 32 + 100 * 2 ^ 32 ∧ (Axis.reset 3).enable = false ∧ axis3.enable = true ∧ (upAxis axis3 .track).scanOpen = false ∧ axis3.lastSign ≠ 0 ∧ axis3.lastSign = axis3.lastZ ∧
    2 < ((axis3.net.natAbs : Int) - axis3.ticksPerRev).natAbs ∧ (((({ axis3 with net := 102 } : Axis).net.natAbs : Int) - axis3.ticksPerRev).natAbs ≤ 2) ∧
    ({ axis3 with lastZ := 1 } : Axis).lastSign ≠ ({ axis3 with lastZ := 1 } : Axis).lastZ ∧
    ((upAxis axis3 .track).axis 3).ticks = (0, 1) :: [] ∧ 0 + (upAxis axis3 .track).tu.travel.standstill * unitsPerMs ≤ (upAxis axis3 .track).time.mono ∧
    (upAxis axis3 .track).tu.travel.state = .track ∧ axis3.excluded = false ∧ axis3.outSince = some 0 ∧ 0 + (upAxis axis3 .track).tu.travel.excludeTime * unitsPerMs ≤ (upAxis axis3 .track).time.mono ∧
    ({ axis3 with excluded := true, inSince := some 0 } : Axis).inSince = some 0 ∧ 0 + (upAxis axis3 .track).tu.travel.restoreTime * unitsPerMs ≤ (upAxis axis3 .track).time.mono ∧
    (upAxis axis3 .coast).tu.travel.state = .coast ∧ ((upAxis axis3 .coast).tu.travel.coastLimit : Rat) ≤ (upAxis axis3 .coast).tu.travel.coast ∧
    (upAxis axis3 .coast).tu.travel.agreeSince = some 0 := by decide +kernel

def upMark (u : MarkUse) (pos : Word) : State := { up with tu := { up.tu with marks := [(7, { Mark.reset 7 with use := u, pos := pos, falling := true })] } }

theorem witness_MarksCorrectTravel :
    (upMark .snap 6401).scanOpen = false ∧ ((upMark .snap 6401).mark 7).use ≠ .off ∧ ((upMark .snap 6401).mark 7).falling = true ∧ ((upMark .snap 6401).mark 7).glitch ≤ 25 ∧ ((upMark .snap 6401).mark 7).dir = 2 ∧
    (signed 40 (6401 : Word).toNat - ratFloor ((upMark .snap 6401).tu.travel.at (upMark .snap 6401).time.mono ((upMark .snap 6401).localOf 4000000000))).natAbs = 6401 ∧ (Mark.reset 7).slewMax < 6401 ∧ 6401 ≤ (Mark.reset 7).win ∧
    (signed 40 (6400 : Word).toNat - ratFloor ((upMark .snap 6400).tu.travel.at (upMark .snap 6400).time.mono ((upMark .snap 6400).localOf 4000000000))).natAbs ≤ (Mark.reset 7).slewMax ∧
    (Mark.reset 7).win < (signed 40 (128001 : Word).toNat - ratFloor ((upMark .snap 128001).tu.travel.at (upMark .snap 128001).time.mono ((upMark .snap 128001).localOf 4000000000))).natAbs ∧ ((upMark .eventOnly 1).mark 7).use = .eventOnly := by decide +kernel

def upStrobe (cfg : Word) (h : Option Nat) : State := { up with tu := { up.tu with strobes := [(31, { Strobe.reset 31 with cfg := cfg, planned := [(1, 100)], highUntil := h })] } }
def upGpio (cfg : Word) : State := { up with board := { up.board with gpio := [(15, { cfg := cfg, was := none, level := false })] } }

theorem witness_PinsAndStrobes :
    ((upStrobe 0x8000400000 none).strobe 31).planned = (1, 100) :: [] ∧ ((1 * fracPerNs : Nat) : Int) < (upStrobe 0x8000400000 none).cycleEnd ∧ bit ((upStrobe 0x8000400000 none).strobe 31).cfg 39 = true ∧
    bit ((upStrobe 0x400000 (some 7)).strobe 31).cfg 39 = false ∧ ((upStrobe 0x400000 (some 7)).strobe 31).highUntil ≠ none ∧ fld (0x8000400000 : Word) 37 22 ≠ 0 ∧ fld (0x8000400000 : Word) 5 0 = 0 ∧
    fld (0x8000000000 : Word) 37 22 = 0 ∧ up.hostRegs = true ∧ (upGpio 0x2402000000).scanOpen = false ∧ fld (((upGpio 0x2402000000).gpio 15).cfgAt up.now) 39 37 = gpioInput ∧ fld (((upGpio 0x2402000000).gpio 15).cfgAt up.now) 32 25 ≤ 1 ∧
    ((upGpio 0x2402000000).gpio 15).level ≠ (true != bit (((upGpio 0x2402000000).gpio 15).cfgAt up.now) 35) ∧ bit (((upGpio 0x2402000000).gpio 15).cfgAt up.now) 34 = true ∧
    bit (((upGpio 0x2002000000).gpio 15).cfgAt up.now) 34 = false := by decide +kernel

theorem witness_TimebaseCycleAdvances :
    up.time.stepPending = none ∧ up.time.setPending = [] ∧ ({ up.time with setPending := [(5, 0)] } : TimeBase).setPending = [(5, 0)] ∧ 0 < up.now ∧ (up.gate 0).pendingMode = [] ∧
    (up.gate 0).pending = [] ∧ ({ Gate.reset 0 with pending := [(1, 2, 0, 0)] } : Gate).pending = [(1, 2, 0, 0)] ∧ (Gate.reset 0).mode = 2 ∧
    ({ Gate.reset 0 with w2 := 0x1000000000 } : Gate).mode = 1 ∧ ({ Gate.reset 0 with w2 := 0 } : Gate).mode = 0 ∧ (65535 : Nat) < 65536 := by decide

/-! Contexts, parameters, Facets and the pixel stages. -/

def bind0 : Bind := { w0 := mkWord [(39, 33, 2), (32, 29, 15), (28, 23, 0x2C), (22, 18, 23), (17, 16, 1)], w1 := mkWord [(39, 25, 64), (24, 9, 64)], w2 := mkWord [(39, 20, 1000)], w3 := mkWord [(21, 2, 100)] }
/-- The highest line rate there is, which no Ray link carries. -/
def bindFast : Bind := { bind0 with w1 := mkWord [(39, 25, 8192), (24, 9, 1)], w2 := 0xFFFFF00000 }
def ctx0 (st : CtxState) : Context := { Context.reset 5 with bind0 := bind0.w0, bind1 := bind0.w1, bind2 := bind0.w2, bind3 := bind0.w3, state := st, home := 23 }
def upCtx (x : Context) : State := { up with ctxs := [(143, x)] }

theorem witness_ContextsAreBoundAndSet_bind :
    143 < up.variant.contexts ∧ up.admits 0x300 permitR (msg [mkWord [(39, 32, 143)], bind0.w0, bind0.w1, bind0.w2, bind0.w3]) = true ∧ fld (mkWord [(39, 32, 143)]) 39 32 = 143 ∧ fld (mkWord [(39, 32, 143)]) 31 0 = 0 ∧
    portArg up bind0.port = true ∧ bind0.facet < up.variant.facets ∧ bind0.fieldsOk = true ∧ bindFast.fieldsOk = true ∧ (∀ d ∈ up.bound, (up.ctx d).bind.port = bind0.port → (up.ctx d).bind.vc ≠ bind0.vc) ∧
    (up.ctx 143).state = .unbound ∧ up.admitsBind 143 bind0 = true ∧ (up.facet bind0.facet).shedding = false ∧ (∀ x ∈ up.portCtxs bind0.port, (up.ctx x.1).pend = 0 ∧ (up.facet (up.ctx x.1).home).shedding = false) ∧ up.admitsBind 143 bindFast = false := by decide +kernel

theorem witness_ContextsAreBoundAndSet :
    up.admits 0x301 permitR (msg [mkWord [(39, 32, 143)]]) = true ∧ ((upCtx (ctx0 .waitStart)).ctx 143).state ≠ .unbound ∧ ((upCtx (ctx0 .waitStart)).ctx 143).state ≠ .inFrame ∧
    ((upCtx (ctx0 .waitStart)).ctx 143).frames = [] ∧ ((upCtx (ctx0 .waitStart)).ctx 143).unbindPending = false ∧ ((upCtx (ctx0 .waitStart)).ctx 143).movePending = none ∧ ((upCtx (ctx0 .inFrame)).ctx 143).state = .inFrame ∧ up.hasRoom (msg []) = true ∧
    up.admits 0x302 permitR (msg [mkWord [(39, 32, 143), (31, 27, 22)]]) = true ∧ 22 < up.variant.facets ∧ ((upCtx (ctx0 .waitStart)).ctx 143).bind.bypass = false ∧ (up.facet 22).state = .run ∧
    facetFits facetCap (((((upCtx (ctx0 .waitStart)).facetHolds 22).filter fun d => d != 143) ++ [143]).map (upCtx (ctx0 .waitStart)).loadOf) = true ∧
    up.admits 0x303 permitR (msg [mkWord [(39, 32, 143)], 0, 0, 0, mkWord [(39, 26, 16383), (23, 10, 16380), (9, 8, 3)], 0]) = true ∧
    fld (mkWord [(39, 26, 16383), (23, 10, 16380), (9, 8, 3)]) 39 26 + fld (mkWord [(39, 26, 16383), (23, 10, 16380), (9, 8, 3)]) 25 24 + 1 ≤ 16384 ∧
    fld (mkWord [(39, 26, 16383), (23, 10, 16380), (9, 8, 3)]) 23 10 + fld (mkWord [(39, 26, 16383), (23, 10, 16380), (9, 8, 3)]) 9 8 + 1 ≤ 16384 ∧ (ctx0 .waitStart).stampPending = none ∧
    up.admits 0x307 permitRB (msg [mkWord [(39, 32, 143)]]) = true ∧ up.admits 0x308 permitR0 (msg [mkWord [(39, 32, 143), (31, 28, 2), (27, 27, 1)], 0, 0]) = true ∧
    2 ≤ fld (mkWord [(39, 32, 143), (31, 28, 2), (27, 27, 1)]) 31 28 ∧ (upCtx (ctx0 .waitStart)).place 0 = some (0, 0) ∧ (ctx0 .waitStart).statsRing = none ∧
    up.admits 0x309 permitR (msg [mkWord [(39, 32, 143), (25, 24, 1)], 0, 0, 0]) = true ∧ fld (mkWord [(39, 32, 143), (25, 24, 1)]) 25 24 ≠ 0 := by decide +kernel

/-- A shadow whose WIDTH of the statistics window is too large. -/
def ctxBad : Context := { ctx0 .waitStart with shadow := [(9, mkWord [(39, 25, 65), (24, 9, 1)])] }

theorem witness_ParametersAreShadowed :
    143 < up.variant.contexts ∧ ((upCtx (ctx0 .waitStart)).ctx 143).state ≠ .unbound ∧ (ctx0 .waitStart).commitPending = false ∧ (ctx0 .waitStart).unbindPending = false ∧ ({ ctx0 .waitStart with commitPending := true, commitAt := up.now } : Context).commitAt = up.now ∧ (ctx0 .waitStart).commitAt ≠ up.now ∧ up.loadsOpen = true ∧ (ctx0 .waitStart).loop.awbEn = false ∧
    up.admits 0x304 permitR (msg (mkWord [(39, 32, 143), (31, 20, 2202)] :: List.replicate 254 0)) = true ∧ fld (mkWord [(39, 32, 143), (31, 20, 2202)]) 31 20 + 254 ≤ 2456 ∧
    up.admits 0x304 permitR (msg [mkWord [(39, 32, 143), (19, 19, 1)], 0, 0, 2455]) = true ∧ fld (mkWord [(39, 32, 143), (19, 19, 1)]) 31 20 + fld (2455 : Word) 11 0 + 1 ≤ 2456 ∧
    up.admits 0x305 permitR (msg [mkWord [(39, 32, 143)]]) = true ∧ (msg []).flags.getLsbD 1 = false ∧ ((upCtx (ctx0 .waitStart)).ctx 143).shadowOk = true ∧ ((upCtx ctxBad).ctx 143).shadowOk = false ∧
    up.hasRoom (msg []) = true ∧ up.admits 0x305 permitR { msg [7, mkWord [(39, 32, 143)]] with flags := 2 } = true ∧ ({ msg [] with flags := 2 } : Msg).flags.getLsbD 1 = true ∧
    ({ ctx0 .waitStart with commitPending := true, atFrame := true, target := 7 } : Context).commitPending = true ∧ (7 + 2 ^ 40 - (7 : Word).toNat) % 2 ^ 40 < 2 ^ 39 ∧ 2 ^ 39 ≤ (6 + 2 ^ 40 - (7 : Word).toNat) % 2 ^ 40 ∧
    (8 : Nat) ≠ (7 : Word).toNat ∧ up.admits 0x306 permitR (msg [mkWord [(39, 32, 143), (30, 30, 1), (29, 13, 6370)], 0, 0]) = true ∧
    8 * (2455 + 1) ≤ (List.replicate 19648 (0 : Byte)).length ∧ 8 * 6370 ≤ (List.replicate 50960 (0 : Byte)).length ∧
    fld (mkWord [(39, 32, 143), (30, 30, 1), (29, 13, 6370)]) 29 13 = 6370 ∧ bit (paramGet (ctx0 .waitStart).inForce 1) 39 ≠ bit (mkWord [(39, 32, 143), (30, 30, 1), (29, 13, 6370)]) 30 := by decide +kernel

def frame0 : Frame :=
  { no := 0, home := 23, isOpen := true, openedAt := 0, compat := [], hostSent := [], ringAsked := false, shed := false, lines := 1, flags := 0, longSeen := true, badLenSeen := false, rows := [], stamps := [], concealed := 0, params := [], paramFrame := 0
    shade := [], defects := [], outs := [(up.ctx 0).out 0 |>.cfg, (up.ctx 0).out 1 |>.cfg, (up.ctx 0).out 2 |>.cfg], formed := [], hostOk := [], codingBad := [], trigger := none, exposure := 0, gain := 0
    reported := false, emb := [], sent := 0, begun := false, done := false }
def line0 : Line := { frame := 0, y := 0, bytes := List.replicate 96 0, words := 20, missing := false, waits := false, stamp := { t := 0, travel := 0, degraded := false }, taken := false, tapped := false }
def due0 : StatsDue := { frame := 0, sofStamp := 0, paramFrame := 0, sumSat := false, aValid := true, bValid := true, zonesX := 1, zonesY := 1, satTotal := 0, body := [] }
def ctxFrame : Context := { ctx0 .inFrame with frames := [frame0], ring := [line0], statsDue := [due0], win1s := 1051, secFrom := up.dt - unitsPerS, msFrom := some 0 }
def ctxLoop : Context := { ctx0 .waitStart with loop := { LoopCfg.reset with awbEn := true }, loopCount := 1 }

theorem witness_FacetsAndFramesGoOn :
    23 < up.variant.facets ∧ (({ up with facets := [(23, { Facet.reset 23 with state := .drained })] } : State).facet 23).takesLines = false ∧ (up.facet 23).takesLines = true ∧ up.ledger.pstate ≠ .hold ∧
    ((upCtx ctxFrame).arbitrate 200 23).1 = some 143 ∧ ((upCtx ctxFrame).ctx 143).statsDue = due0 :: [] ∧ ((upCtx ctxFrame).ctx 143).statsRing = none ∧
    ((upCtx ctxFrame).ctx 143).ring.find? (fun l => !l.tapped && !l.waits) = some line0 ∧ ((upCtx ctxFrame).ctx 143).state = .inFrame ∧ ((upCtx ctxFrame).ctx 143).bind.timeoutUs ≠ 0 ∧
    ((upCtx ctxFrame).ctx 143).lastLine + ((upCtx ctxFrame).ctx 143).bind.timeoutUs * cyclesPerUs < (upCtx ctxFrame).now ∧ ((upCtx ctxFrame).ctx 143).secFrom + unitsPerS ≤ (upCtx ctxFrame).dt ∧ cyclesPerMs ≤ ((upCtx ctxFrame).ctx 143).readout (upCtx ctxFrame).now ∧
    105 * (((upCtx ctxFrame).ctx 143).bind.lineRate : Int) * ((upCtx ctxFrame).dt - ((upCtx ctxFrame).ctx 143).secFrom) < 100 * (((upCtx ctxFrame).ctx 143).win1s : Int) * (unitsPerS : Int) ∧
    ((upCtx (ctx0 .inFrame)).ctx 143).secFrom + unitsPerS ≤ up.dt ∧ ¬ 105 * (((upCtx (ctx0 .inFrame)).ctx 143).bind.lineRate : Int) * (up.dt - ((upCtx (ctx0 .inFrame)).ctx 143).secFrom) < 100 * (((upCtx (ctx0 .inFrame)).ctx 143).win1s : Int) * (unitsPerS : Int) ∧ ctxLoop.loop.aeEn = false ∧ ctxLoop.loop.awbEn = true ∧
    (upCtx ctxLoop).loopPeriod 143 ≤ ((upCtx ctxLoop).ctx 143).loopCount ∧ up.ledger.pstate = .run ∧ up.phokelStops = false ∧ up.mail.shed ≠ 3 ∧
    ({ up with service := { steps := [.reduce 143, .reduce 1], undoAt := some up.now } } : State).service.steps = .reduce 143 :: [.reduce 1] ∧ ({ up with service := { steps := [.reduce 143, .reduce 1], undoAt := some up.now } } : State).service.undoAt = some up.now := by decide +kernel

/-- A 2 by 2 image; WB 1.0 in every position is what stage 5 resets to. -/
theorem witness_PixelStagesCompute : (1 : Nat) < ([[1, 2], [3, 4]] : Img).length ∧ (1 : Nat) < (([[1, 2], [3, 4]] : Img).getD 1 []).length ∧
    (1 : Nat) < ([[Px.zero, Px.zero], [Px.zero, Px.zero]] : PxImg).length ∧ stageEn [(0, 0)] 5 = false ∧ stageEn [(0, 0xFFFFFFFFFF)] 5 = true ∧ stageEn [(0, 0)] 8 = false ∧ stageEn [(0, 0xFFFFFFFFFF)] 8 = true := by decide

/-! Outputs, checks and canvases. -/

def outWords (fmt dest w h : Nat) : List Word := [mkWord [(39, 39, 1), (38, 35, fmt), (31, 29, dest)], 0, 0, mkWord [(39, 25, w), (24, 9, h)], 0, 0, 0, 0]
def outHost : Output := { Output.reset 0 with ring := some (0, 0) }
def ctxOut : Context := { ctx0 .waitStart with outs := [(0, outHost)] }
def ctxFast : Context := { ctxOut with bind1 := bindFast.w1, bind2 := bindFast.w2 }
/-- Interpolation coefficients 1.0 and seven zeros in each phase. -/
def coefs : List Byte := (List.range 64).flatMap fun _ => [0, 4] ++ List.replicate 14 0

theorem witness_OutputsAreConfigured :
    143 < up.variant.contexts ∧ ((upCtx ctxOut).ctx 143).state ≠ .unbound ∧ ((upCtx ctxOut).ctx 143).bind.bypass = false ∧
    (upCtx ctxOut).admits 0x400 permitR (msg (mkWord [(39, 32, 143)] :: outWords 0 4 64 64)) = true ∧ (outWords 0 4 64 64).length = 8 ∧ outReservedOk (outWords 0 4 64 64) = true ∧
    (outRec bind0 (outWords 0 4 64 64)).enable = true ∧ (upCtx ctxOut).outRecOk 143 0 (outRec bind0 (outWords 0 4 64 64)) = true ∧ (outRec bind0 (outWords 0 4 64 64)).host = true ∧
    (((upCtx ctxOut).ctx 143).out 0).ring ≠ none ∧ ((upCtx ctxOut).modCtx 143 fun x => x.modOut 0 fun y => { y with pending := some (Due.accept up.now y.pending (outWords 0 4 64 64)) }).memOk = true ∧
    ((upCtx ctxOut).modCtx 143 fun x => x.modOut 0 fun y => { y with pending := some (Due.accept up.now y.pending (outWords 0 4 64 64)) }).hostSumOk = true ∧ (upCtx ctxOut).overloads ((upCtx ctxOut).modCtx 143 fun x => x.modOut 0 fun y => { y with pending := some (Due.accept up.now y.pending (outWords 0 4 64 64)) }) = false ∧
    ((upCtx ctxOut).modCtx 143 fun x => x.modOut 0 fun y => { y with pending := some (Due.accept up.now y.pending (outWords 0 4 64 64)) }).enginesOk = true ∧
    (upCtx ctxFast).outRecOk 143 0 (outRec bindFast (outWords 0 4 8192 1)) = true ∧
    ((upCtx ctxFast).modCtx 143 fun x => x.modOut 0 fun y => { y with pending := some (Due.accept up.now y.pending (outWords 0 4 8192 1)) }).enginesOk = false := by decide +kernel

theorem witness_OutputsAreConfigured_rest :
    up.admits 0x401 permitR0 (msg [mkWord [(39, 32, 143), (31, 30, 2), (29, 29, 1)], 0, 0]) = true ∧ up.hasRoom (msg [0, 0, 0]) = true ∧ up.loadsOpen = true ∧ (coefTable coefs).isSome = true ∧ 1024 ≤ coefs.length ∧ fld (mkWord [(39, 32, 143), (31, 30, 2), (29, 29, 1)]) 28 0 = 0 ∧
    up.admits 0x402 permitR0 (msg [mkWord [(39, 32, 143), (31, 30, 2), (29, 26, 2), (25, 24, 3)], 32, 0, 0, 0]) = true ∧ fld (32 : Word) 4 0 = 0 ∧ fld (mkWord [(39, 32, 143), (31, 30, 2), (29, 26, 2), (25, 24, 3)]) 23 0 = 0 ∧
    (((upCtx (ctx0 .waitStart)).ctx 143).out 2).ring = none ∧
    up.admits 0x407 permitR (msg [mkWord [(39, 35, 31), (34, 33, 2), (31, 24, 143), (17, 10, 1)]]) = true ∧ (upCtx ctxOut).watched 31 143 0 = false ∧
    fld (mkWord [(39, 35, 31), (34, 33, 2), (31, 24, 143), (17, 10, 1)]) 9 0 = 0 ∧ fld (mkWord [(39, 35, 31), (31, 24, 143)]) 34 33 = 0 ∧ fld ((upCtx ctxOut).check 31).cfg 39 38 = 0 := by decide +kernel

def canvas0 : List Word := [mkWord [(39, 39, 1), (20, 13, 1)], mkWord [(39, 27, 1920), (26, 15, 1080)], mkWord [(39, 4, 266666656)], 0, 0]
def accord0 (st : AccordState) : Accord := { Accord.reset 3 with state := st, canvas := canvas0, frameNo := 1 }
def upAccord (x : Accord) : State := { up with accords := [(3, x)], ctxs := [(143, { ctx0 .waitStart with outs := [(0, { Output.reset 0 with cfg := outWords 0 2 64 64 })] })] }
def source0 : List Word := [mkWord [(39, 39, 1), (38, 31, 143)], 0, mkWord [(39, 27, 32), (26, 15, 32)]]

theorem witness_AccordsComposeOnTime :
    3 < up.variant.accords ∧ up.admits 0x403 permitR (msg (mkWord [(39, 38, 3)] :: canvas0)) = true ∧ canvas0.length = 5 ∧ canvasReservedOk canvas0 = true ∧ canvasOk canvas0 = true ∧ fld (pw canvas0 0) 30 29 ≠ 2 ∧
    (up.modAccord 3 fun x => { x with pending := some (Due.accept up.now x.pending canvas0) }).accordsOk = true ∧ (up.modAccord 3 fun x => { x with pending := some (Due.accept up.now x.pending canvas0) }).canvasTooFast 3 = false ∧ bit (pw canvas0 0) 23 = false ∧ bit (pw canvas0 0) 39 = true ∧
    up.admits 0x404 permitR (msg (mkWord [(39, 38, 3), (37, 34, 15)] :: source0)) = true ∧ source0.length = 3 ∧ fld (pw source0 0) 9 0 = 0 ∧ (upAccord (accord0 .run)).sourceOk source0 = true ∧
    ((upAccord (accord0 .run)).modAccord 3 fun x => x.setSource 15 { x.source 15 with pending := some (Due.accept up.now (x.source 15).pending source0) }).accordsOk = true ∧ ((upAccord (accord0 .run)).modAccord 3 fun x => x.setSource 15 { x.source 15 with pending := some (Due.accept up.now (x.source 15).pending source0) }).canvasTooFast 3 = false ∧ (upAccord (accord0 .run)).overloads ((upAccord (accord0 .run)).modAccord 3 fun x => x.setSource 15 { x.source 15 with pending := some (Due.accept up.now (x.source 15).pending source0) }) = false ∧
    up.admits 0x405 permitR0 (msg [mkWord [(39, 38, 3), (37, 34, 15), (33, 33, 1)], 0, 0]) = true ∧ namesMesh ((up.accord 3).source 15).cfg true = false ∧ ((up.accord 3).source 15).pending = none ∧
    up.admits 0x406 permitR0 (msg [mkWord [(39, 38, 3)], 0, 0, 0, 0]) = true ∧ (up.canvasDue 3).isNone = true ∧ ((upAccord (accord0 .run)).canvasDue 3).map (fun x => x.2) = some false ∧
    ((upAccord (accord0 .draining)).canvasDue 3).isSome = true ∧ ((upAccord (accord0 .run)).accord 3).pending = none ∧ bit (pw ((upAccord (accord0 .run)).accord 3).canvas 0) 39 = true ∧
    ((upAccord (accord0 .run)).accord 3).frameNo ≠ 0 ∧ ((upAccord (accord0 .run)).accord 3).late = false ∧
    ((upAccord (accord0 .run)).accord 3).lastStart + ((canvasRec ((upAccord (accord0 .run)).accord 3).canvas).period : Int) / 2 ≤ (upAccord (accord0 .run)).local16 ∧
    ({ accord0 .run with late := true } : Accord).late = true := by decide +kernel

/-! The backbone. -/

/-- A record of 10 words for stream 63: output of context 143 on Bb 3. -/
def stream0 (on : Nat) : List Word := [mkWord [(39, 39, on), (37, 30, 143), (29, 28, 3)], mkWord [(39, 32, 64), (31, 25, 127), (23, 16, 255), (15, 2, 9000)], 0, mkWord [(39, 24, 5004), (23, 8, 5004)], 0, 1, 0, 0, 0, mkWord [(38, 23, 65535)]]
/-- Three outputs feed the backbone and a port carries the first; the highest line rate overfills it. -/
def upStream (b : Bind) (w h : Nat) : State :=
  { up with ctxs := [(143, { ctx0 .waitStart with bind1 := b.w1, bind2 := b.w2, outs := [(0, { Output.reset 0 with cfg := outWords 0 2 w h })] })] }
def gcl0 : GclOper := { slot := 0, enable := true, listLen := 1, cycleTime := 1000, baseTime := 0 }
def entry0 : Word := mkWord [(39, 32, 255), (31, 0, 1000)]
def upGcl (b : Bb) : State := { up with bb := { up.bb with bbs := [(3, b)] } }
def bbGcl : Bb := { Bb.reset 3 with link := true, slotA := { entries := [(0, entry0)] }, oper := gcl0 }

theorem witness_StreamsAndGateListsAreSet :
    up.admits 0x408 permitR (msg (mkWord [(39, 34, 63)] :: stream0 1)) = true ∧ (stream0 1).length = 10 ∧ streamFieldsOk up (stream0 1) = true ∧ streamFieldsOk up (stream0 0) = true ∧ (streamRec (stream0 0)).enable = false ∧
    (up.stream 63).inUse.enable = false ∧ ((upStream bind0 64 64).stream 63).pending = none ∧ ((upStream bindFast 8192 1).stream 63).pending = none ∧ (streamRec (stream0 1)).enable = true ∧ (upStream bind0 64 64).streamSourceOk (streamRec (stream0 1)) = true ∧
    ((upStream bind0 64 64).setStream 63 { (upStream bind0 64 64).stream 63 with pending := some (Due.accept up.now none (stream0 1)) }).sourceStreams false 143 ≤ 4 ∧
    ((upStream bind0 64 64).setStream 63 { (upStream bind0 64 64).stream 63 with pending := some (Due.accept up.now none (stream0 1)) }).portFits 3 = true ∧
    ((upStream bind0 64 64).setStream 63 { (upStream bind0 64 64).stream 63 with pending := some (Due.accept up.now none (stream0 1)) }).memOk = true ∧
    (upStream bindFast 8192 1).streamSourceOk (streamRec (stream0 1)) = true ∧
    ((upStream bindFast 8192 1).setStream 63 { (upStream bindFast 8192 1).stream 63 with pending := some (Due.accept up.now none (stream0 1)) }).portFits 3 = false ∧
    bbCfgOk up (msg [mkWord [(39, 37, 3), (20, 12, 256)], 0, 0, 0, 0, 0, 0, 0, 0]) = true ∧ bbCfgOk up (msg [mkWord [(39, 37, 3), (20, 12, 257)], 0, 0, 0, 0, 0, 0, 0, 0]) = false ∧ (up.bbp 3).link = false ∧
    up.admits 0x409 permitRL (msg [mkWord [(39, 37, 3), (20, 12, 256)], 0, 0, 0, 0, 0, 0, 0, 0]) = true := by decide +kernel

theorem witness_StreamsAndGateListsAreSet_lists :
    up.admits 0x40A permitR (msg (mkWord [(39, 38, 3), (37, 37, 1), (36, 27, 770)] :: List.replicate 254 entry0)) = true ∧ 770 + (List.replicate 254 entry0).length ≤ 1024 ∧ 64 ≤ fld (64 : Word) 31 0 ∧
    fld (mkWord [(39, 38, 3), (37, 37, 1), (36, 27, 770)]) 26 0 = 0 ∧ ((upGcl bbGcl).bbp 3).oper.enable = true ∧ ((upGcl bbGcl).bbp 3).oper.slot ≠ 1 ∧
    up.admits 0x40B permitR (msg [mkWord [(39, 38, 3), (36, 36, 1), (35, 25, 1)], mkWord [(39, 10, 1000)], 0, 0]) = true ∧ ptpNs 0 0 = some 0 ∧ up.hasRoom (msg []) = true ∧ ((upGcl bbGcl).bbp 3).change = none ∧
    (upGcl bbGcl).guardBroken 3 gcl0 = false ∧ ((upGcl bbGcl).modBb 3 fun b => { b with change := some (gcl0, changeTime (upGcl bbGcl).dtNs 0 1000) }).portFits 3 = true ∧
    up.admits 0x40C permitR (msg [mkWord [(39, 38, 3), (37, 35, 7), (34, 10, 10000000)]]) = true ∧ fld (mkWord [(39, 38, 3), (37, 35, 7), (34, 10, 10000000)]) 34 10 ≤ bbRate 3 (up.bbp 3) * 1000 ∧
    (up.modBb 3 fun b => { b with slopes := [(7, 10000000)] }).portFits 3 = true ∧ ((upGcl bbGcl).bbp 3).entryEnd ≤ (upGcl bbGcl).dtNs ∧
    ((upGcl { bbGcl with change := some (gcl0, 0) }).bbp 3).change = some (gcl0, 0) := by decide +kernel

def packet0 (k : Nat) : TxPacket := { stream := k, frame := 5, tc := 6, bytes := [1, 2, 3], line := 0, pixel := 0, tag := [], wire := 84, marker := false }
def staged0 : StagedFrame := { id := 5, stream := 63, tc := 6, reserved := 84, since := 0, started := false, record := stream0 1, stamp := 0 }
def bbSend (k : Nat) : Bb := { Bb.reset 3 with link := true, packets := [packet0 k], staged := [staged0], keptSince := 0 }
/-- A broadcast ARP-free frame of 14 bytes with an EtherType of no use, and a peer delay request. -/
def frameOther : List Byte := List.replicate 6 0xFF ++ List.replicate 6 2 ++ [0x12, 0x34]
def framePdelay : List Byte := [0x01, 0x80, 0xC2, 0, 0, 0x0E] ++ List.replicate 6 2 ++ [0x88, 0xF7, 0x12, 0x02] ++ List.replicate 52 0

theorem witness_BackbonePortsSendAndKeep :
    up.variant.hasBb 3 = true ∧ up.variant.hasBb 4 = true ∧ ((upGcl (bbSend 65)).bbp 3).link = true ∧ (up.bbp 3).link = false ∧ up.ledger.pstate = .run ∧ up.ledger.enteringLow = false ∧ up.rst.phokel = true ∧ up.scanOpen = false ∧
    ({ staged0 with started := true } : StagedFrame).started = true ∧ (upGcl { bbSend 63 with staged := [{ staged0 with started := true }] }).bb.bbs.length = 1 ∧
    ((upGcl { bbSend 63 with staged := [{ staged0 with started := true }] }).bringCredits 3).nextPacket 3 = some (packet0 63) ∧ ((upGcl (bbSend 65)).bbp 3).busyUntil ≤ (upGcl (bbSend 65)).dtNs ∧
    ((upGcl (bbSend 65)).bringCredits 3).nextPacket 3 = some (packet0 65) ∧ ((upGcl (bbSend 63)).bringCredits 3).nextPacket 3 = some (packet0 63) ∧
    ((upGcl (bbSend 63)).bbp 3).staged.find? (fun f => f.id == (packet0 63).frame) = some staged0 ∧
    ((upGcl (bbSend 63)).bbp 3).staged.find? (fun f => f.stream == 63 && !f.started && decide (f.since + (streamRec f.record).ageMax * cyclesPerUs ≤ (upGcl (bbSend 63)).now)) = some staged0 ∧
    ((upGcl (bbSend 63)).bbp 2).staged = [] ∧ up.now < ({ bbSend 63 with keptSince := up.now } : Bb).keptSince + cyclesPerS ∧ (List.replicate 13 (0 : Byte)).length < 14 ∧ 9212 < (List.replicate 9213 (0 : Byte)).length ∧
    ¬ (beAt (List.replicate 14 (2 : Byte)) 0 6 = (bbSend 63).mac ∨ beAt (List.replicate 14 (2 : Byte)) 0 6 = 0xFFFFFFFFFFFF ∨ beAt (List.replicate 14 (2 : Byte)) 0 6 = 0x3333FF000000 + (bbSend 63).ipv6 % 2 ^ 24 ∨
      beAt (List.replicate 14 (2 : Byte)) 0 6 = 0x0180C200000E) ∧
    ((upGcl (bbSend 63)).keepFrame 3 framePdelay).map (fun k => k.answers.length) = some 2 ∧ ((upGcl (bbSend 63)).keepFrame 3 frameOther).isNone = true ∧ (bbSend 63).kept < 20000 ∧
    ({ up.time with source := .as, asPort := 3 } : TimeBase).asPort = 3 ∧ up.bb.pdelayAt + cyclesPerS ≤ up.now := by decide +kernel

/-! The Sillage ring. -/

def info0 : DriveInfo := { nvmeMajor := 2, ns1Ok := true, nsBytes := 64 * 2 ^ 30, mdts := 131072, width := 4, gen := 4, vwc := false }
def drive0 (st : DriveState) : Drive := { Drive.reset 3 with state := st, slots := 1023, info := some info0 }
def upRing (r : Ring) : State := { up with ring := r }
def ring0 (st : RingState) : Ring := { Ring.reset with state := st, ringId := 7, formatted := true, members := [3], slots := 1023, drives := [(3, drive0 .member)], nextSpan := 2, nextSsn := 300 }
def span0 : OpenSpan := { no := 1, firstSsn := 256, members := [3], openTime := 0, prevChain := [], debugOpen := false }
def window0 (st : WindowState) : Window := { state := st, start := 0, stop := 1, trigger := 2, ext := none }
def full : List (Nat × Window) := (List.range 16).map fun i => (i, window0 .pending)

def seg0 : Segment :=
  { ssn := 256, drive := 3, slot := 1, span := 1, index := 0, openTime := 1, pieces := [], used := 64, ranges := [], capMin := none, capMax := none, cut := false, full := true, closed := false, sent := 0, awaitsLog := false, digest := none, chain := none
    closeWritten := false, flushed := false, lost := false, sealed := false, openedAt := 0, overwritten := [] }
def segChained : Segment := { seg0 with closed := true, chain := some [], digest := some [] }
def cmd0 (f : NvmeFor) (retried : Bool) : NvmeCmd := { drive := 3, queue := 1, cid := 65535, op := .write, lba := 1, blocks := 1, data := [], for_ := f, at_ := 0, retried := retried }
def found0 : RingFound := { labels := [], records := [], slots := [], holdCapUf := none }
def identify0 (i : DriveInfo) : Ring := { ring0 .run with members := [], drives := [(3, { drive0 .init with info := some i })], nvme := [{ cmd0 .identify false with op := .admin 6 }] }
def format0 : Word := mkWord [(39, 36, 8)]

theorem witness_RingIsFormedStartedStopped :
    up.admits 0x500 permitR0 (msg [0x464F524D00, format0]) = true ∧ up.hasRoom (msg []) = true ∧ fld format0 35 0 = 0 ∧ fld format0 39 36 ≠ 0 ∧ fld format0 39 36 < 2 ^ up.variant.drives ∧ (upRing (ring0 .stopped)).sec.keysUp = true ∧
    (∀ d ∈ bitsOf 4 (fld format0 39 36), ((upRing (ring0 .stopped)).ring.drive d).ready = true) ∧ (ring0 .stopped).state = .stopped ∧
    up.admits 0x501 permitR (msg []) = true ∧ (ring0 .stopped).formatted = true ∧ (ring0 .stopped).nextSpan ≠ 0 ∧ (upRing (ring0 .stopped)).presentMembers found0 7 ≠ [] ∧ (upRing (ring0 .stopped)).readyDrives ≠ [] ∧ (∀ c ∈ (ring0 .run).closedSpans, c.closedAt ≠ up.now) ∧ (ring0 .run).openRecs = [] ∧ (ring0 .stopped).closedSpans = [] ∧
    ({ ring0 .run with span := some span0 } : Ring).span ≠ none ∧ (ring0 .noDrive).span = none ∧
    up.admits 0x503 permitR (msg [mkWord [(39, 34, 32)]]) = true ∧ ({ upRing { ring0 .run with unsealedMax := 32 * 2 ^ 26 } with pending := [] } : State).ringPlanOk = true ∧
    ({ upCtx { ctx0 .waitStart with bind1 := bindFast.w1, bind2 := bindFast.w2 } with ring := { ring0 .run with unsealedMax := 2 * 2 ^ 26, planPending := [(143, Due.accept up.now none 0x8000000000)] } } : State).ringPlanOk = false := by decide +kernel

theorem witness_RingIsFormedStartedStopped_rest :
    up.admits 0x504 permitR (msg [mkWord [(39, 32, 143)], 0]) = true ∧ ((upCtx (ctx0 .waitStart)).ctx 143).state ≠ .unbound ∧ (upCtx { ctx0 .waitStart with bind0 := (ctx0 .waitStart).bind0 ||| 0x200 }).planRefused 143 0 = false ∧ (ring0 .run).planPending.lookup 143 = none ∧ (window0 .pending).ext = none ∧ bit (0 : Word) 39 = false ∧ (upRing { ring0 .run with planPending := [(143, Due.accept up.now none 0)] }).ringPlanOk = true ∧
    up.admits 0x505 permitRLB (msg [mkWord [(39, 27, 4095), (26, 14, 4095), (13, 13, 1)], 0, 0]) = true ∧ (ring0 .run).freeWindow = some 0 ∧ ({ ring0 .run with windows := full } : Ring).freeWindow = none ∧
    (∀ x ∈ full, x.2.trigger ≠ 0xFF) ∧ full.lookup 15 = some (window0 .pending) ∧ up.admits 0x508 permitRLB (msg [mkWord [(39, 36, 15)]]) = true ∧ up.admits 0x506 permitRL (msg [mkWord [(39, 36, 15)]]) = true ∧
    up.admits 0x507 permitR0 (msg [0, 0, 0, 0, 0, 0, 0]) = true ∧ fld (0 : Word) 38 23 = 0 ∧ up.admits 0x507 permitR0 (msg [mkWord [(38, 23, 1), (22, 19, 2), (18, 15, 4)], 299, 299, 0, 0, 0, 0]) = true ∧
    (299 : Word).toNat < (ring0 .stopped).nextSsn ∧ (ring0 .stopped).retrieval = none ∧ (ring0 .stopped).formatted = true ∧
    (upRing { ring0 .stopped with retrieval := some { bySpan := false, rate := 1, next := 299, last := 299, dataAddr := 0, dataSize := 2, verdictAddr := 0, verdictSize := 4, verdictWritten := 0, awaiting := none, reading := false, failed := false } }).ringPlanOk = true := by decide +kernel

theorem witness_DrivesAreWatched :
    3 < up.variant.drives ∧ ((upRing Ring.reset).ring.drive 3).ready = false ∧ up.ledger.pstate ≠ .low ∧ Ring.reset.joining ≠ some 3 ∧ driveOk info0 = true ∧ driveOk { info0 with mdts := 131071 } = false ∧
    ((upRing (identify0 info0)).ring.nvme.filter fun c => c.drive == 3) = [{ cmd0 .identify false with op := .admin 6 }] ∧ (identify0 info0).nvmeWait = [] ∧ ((identify0 info0).drive 3).info = some info0 ∧
    ((identify0 info0).drive 3).state = .init ∧ ((identify0 info0).drive 3).drained = false ∧ (identify0 info0).joining ≠ some 3 ∧ ((identify0 { info0 with mdts := 131071 }).drive 3).info = some { info0 with mdts := 131071 } ∧
    ({ ring0 .run with nvme := eraseFirst (fun (x : NvmeCmd) => x.drive == 3 && x.cid == 65535) [cmd0 (.body 256) false] } : Ring).freeQueue (cmd0 (.body 256) false) = some 1 ∧ (ring0 .run).starting = none ∧ (ring0 .run).nvmeWait = [] ∧
    (upRing { ring0 .run with nvme := [cmd0 (.body 256) false] }).ring.nvme.find? (fun c => c.drive == 3 && c.cid == 65535) = some (cmd0 (.body 256) false) ∧ ((upRing (ring0 .run)).ring.drive 3).drained = false ∧
    (upRing { ring0 .run with nvme := [cmd0 (.close 256) true], segments := [segChained] }).ring.segments.find? (fun g => decide (g.ssn = 256)) = some segChained ∧ segChained.chain ≠ none ∧ segChained.sealed = false ∧
    ((upRing (ring0 .run)).ring.drive 3).vwc = false ∧ (cmd0 (.body 256) false).retried = false ∧ (cmd0 (.close 256) true).retried = true ∧ ((upRing (ring0 .run)).ring.drive 3).state ≠ .absent ∧
    ((upRing (ring0 .run)).ring.drive 3).state ≠ .lost ∧ (cmd0 .label false).at_ + 2 * cyclesPerS ≤ up.now ∧ ((upRing { ring0 .run with drives := [(3, drive0 .lost)] }).ring.drive 3).state = .lost ∧ ((upRing { ring0 .run with drives := [(3, drive0 .absent)] }).ring.drive 3).state = .absent := by decide +kernel

def closed0 : ClosedSpan := { no := 1, reason := 1, members := [3], firstSsn := 256, count := 0, dirSlot := 0, openTime := 0, closeTime := 1, closedAt := 0, prevChain := [], debugOpen := false, segs := [] }
def live0 : LiveSeg := { ssn := 298, span := 1, drive := 3, slot := 42, capMin := 0, capMax := 0, lost := false }
def retrieval0 : Retrieval := { bySpan := false, rate := 1, next := 298, last := 299, dataAddr := 0, dataSize := 2, verdictAddr := 0, verdictSize := 4, verdictWritten := 15, awaiting := none, reading := false, failed := false }

theorem witness_SegmentsAndSpansAreSealed :
    up.ledger.holdsSegments = false ∧ (upRing (ring0 .run)).sec.keysUp = true ∧ (upRing { ring0 .run with segments := [seg0] }).ring.segments.find? (fun g => g.full && !g.closed) = some seg0 ∧ seg0.index ≠ 255 ∧
    ({ up.ledger with commission := some (.grow 1 0) } : Ledger).holdsSegments = true ∧ segChained.awaitsLog = false ∧ ({ seg0 with awaitsLog := true } : Segment).awaitsLog = true ∧
    (upRing { ring0 .run with segments := [{ seg0 with closed := true }] }).ring.segments.find? (fun g => g.closed && g.chain.isNone) = some { seg0 with closed := true } ∧ seg0.lost = false ∧
    (upRing { ring0 .run with closedSpans := [closed0] }).ring.closedSpans = closed0 :: [] ∧ (upRing { ring0 .run with closedSpans := [closed0] }).ring.spanSegs closed0 = some [] ∧ closed0.reason = 1 ∧
    (upRing { ring0 .run with windows := full }).ring.windows.lookup 15 = some (window0 .pending) ∧ (window0 .pending).stop < (upRing (ring0 .run)).dtNs ∧ (∀ g ∈ (ring0 .run).segments, g.closed = false → ptp80 1 < g.openTime) ∧
    ({ ring0 .run with labelDue := true } : Ring).labelDue = true ∧ (ring0 .run).members ≠ [] ∧ (ring0 .run).formatted = true ∧ (ring0 .run).labelHeld = false ∧ up.ledger.pstate = .run ∧ retrieval0.awaiting = none ∧ retrieval0.verdictWritten < 2 ^ retrieval0.verdictSize ∧ (upRing (ring0 .run)).hostOpen = true ∧
    (upRing { ring0 .run with retrieval := some retrieval0 }).itemReady retrieval0 = true ∧ (upRing { ring0 .run with retrieval := some retrieval0 }).noImage retrieval0 = some 4 ∧ retrieval0.next ≠ retrieval0.last ∧
    ({ retrieval0 with next := 299 } : Retrieval).next = ({ retrieval0 with next := 299 } : Retrieval).last ∧
    (upRing { ring0 .run with live := [live0], retrieval := some { retrieval0 with reading := true } }).noImage { retrieval0 with reading := true } = none ∧ ({ ring0 .run with nvme := [{ cmd0 (.item 298) false with op := .read }] } : Ring).itemReads 298 = true := by decide +kernel

/-! Power. -/

def upLedger (l : Ledger) : State := { up with ledger := l }
def cfgWords : List Word :=
  [mkWord [(39, 20, 1000000), (19, 10, 1000), (9, 3, 75)], mkWord [(39, 23, 100000), (22, 7, 65535), (6, 1, 50)], mkWord [(39, 20, 1000000), (19, 0, 1000000)], mkWord [(39, 16, 10000000), (15, 8, 255)], mkWord [(39, 26, 10000)]]
def ledger0 : Ledger := { up.ledger with capUf := 1000, vFloorMv := 1000, senseScale := 10000, capMeasUf := 900 }

/-- Ten codes of 2000 leave 20 V; the same ledger with codes of 0 has nothing to spend. -/
theorem witness_LedgerComputesItsQuantities :
    up.admits 0x600 permitRLB (msg cfgWords) = true ∧ cfgWords.length = 5 ∧ ledgerCfgOk (msg cfgWords).w = true ∧ up.admits 0x602 permitRLHB (msg []) = true ∧ (List.replicate 10 (2000 : BitVec 12)).length = 10 ∧
    ledger0.capUf ≠ 0 ∧ ledger0.vFloorMv ≠ 0 ∧ ledger0.senseScale ≠ 0 ∧ (ledger0.devSealMw + ledger0.boardSealMw) * 1000 / ledger0.etaPm ≠ 0 ∧ ({ ledger0 with sealRate := some 5 } : Ledger).sealRate.getD 0 ≠ 0 ∧
    (match execLedgerCompute (List.replicate 10 0) 7 (upLedger ledger0) with | .next t => decide (t.ledger.eUse < t.ledger.eNeed) | _ => false) = true ∧
    (match execLedgerCompute (List.replicate 10 2000) 7 (upLedger ledger0) with | .next t => decide (t.ledger.eUse < t.ledger.eNeed) | _ => true) = false ∧
    ({ ledger0 with short := true, clearSince := some 0 } : Ledger).clearSince = some 0 ∧ 0 + cyclesPerMs ≤ (upLedger ledger0).now := by decide +kernel

theorem witness_CommissioningMeasures :
    up.admits 0x601 permitR (msg []) = true ∧ up.hasRoom (msg []) = true ∧ (upRing (ring0 .run)).ring.state = .run ∧ (upRing (ring0 .run)).fullFormation = true ∧ up.ledger.commission = none ∧
    (upGpio 0x6000000000).holdupGpio = true ∧ up.holdupGpio = false ∧ (upLedger { up.ledger with commission := some (.capTest 0 10000) }).ledger.commission = some (.capTest 0 10000) ∧ (upLedger { up.ledger with commission := some (.capTest 0 10000) }).capTestOver 0 10000 = true ∧
    up.ledger.meanMv < 10000 ∧
    ({ up.ledger with commission := some (.grow 0 0) } : Ledger).commission = some (.grow 0 0) ∧ 0 ≤ up.ring.u ∧ up.ring.u < 1 ∧ 0 + cyclesPerS ≤ up.now ∧
    ({ up.ledger with commission := some (.seal 64 [256] 0) } : Ledger).commission = some (.seal 64 [256] 0) ∧ (upRing (ring0 .run)).backlogSealed [256] = true ∧ (up.now - 0) / cyclesPerUs ≠ 0 := by decide

theorem witness_PowerStatesFollowTheirRules :
    up.admits 0x603 permitRLB (msg [mkWord [(39, 38, 1), (37, 35, 6)], 0, 0]) = true ∧ fld (mkWord [(39, 38, 1), (37, 35, 6)]) 37 35 ≤ 6 ∧ fld (mkWord [(39, 38, 1), (37, 35, 6)]) 34 0 = 0 ∧ up.hasRoom (msg []) = true ∧
    up.ledger.pstate = .run ∧ up.ledger.enteringLow = false ∧ (upLedger { up.ledger with pstate := .low }).admits 0x603 permitRLB (msg [0, 0, 0]) = true ∧ fld (0 : Word) 39 38 = 0 ∧
    ({ up.ledger with enteringLow := true } : Ledger).enteringLow = true ∧ up.phokelStops = false ∧ up.sec.fuses = none ∧ (upLedger { up.ledger with enteringLow := true }).lowReached = true ∧
    (0xBF0 : BitVec 12).toNat ∈ ({ up.ledger with pstate := .low, wakeEvents := [0xBF0] } : Ledger).wakeEvents ∧ (0xBF1 : BitVec 12).toNat ∉ ({ up.ledger with pstate := .low, wakeEvents := [0xBF0] } : Ledger).wakeEvents ∧
    up.ledger.pfFilter ≤ 5 ∧ up.rst.alwaysOn = true ∧ up.rst.off = false ∧ ({ up.ledger with pstate := .hold } : Ledger).sealDone = false ∧ (upLedger { up.ledger with pstate := .hold }).sealed = true ∧
    ({ up.ledger with pstate := .hold, tailSent := true } : Ledger).tailSent = true ∧ (upLedger { up.ledger with pstate := .hold, tailSent := true }).sealed = true ∧
    up.rst.deferredCause = none ∧ ({ up.ledger with pstate := .hold, sealDone := true } : Ledger).sealDone = true ∧ up.ledger.holdExit ≤ 100 := by decide

def ctxBulk : Context := { ctx0 .waitStart with bind0 := mkWord [(39, 33, 2), (32, 29, 15), (28, 23, 0x2C), (22, 18, 23), (17, 16, 3)] }
def upSteps (l : List Nat) : State := { upCtx ctxBulk with ledger := { up.ledger with capSteps := l, thermalSteps := l, capUndo := true, capDw := 100 } }

theorem witness_DrawAndHeatAreReduced :
    up.admits 0x604 permitRB (msg [0]) = true ∧ up.fitCap (4 * up.bound.length + 1) (fld (0 : Word) 39 28) up.ledger.capSteps = some [] ∧ (upSteps []).ledger.capDw ≠ 0 ∧ (upSteps []).ledger.pstate = .run ∧
    (upSteps []).phokelStops = false ∧ up.hasRoom (msg [0]) = true ∧ up.sec.fuses = none ∧ (upSteps []).ledger.capDw * 105 < 10501 ∧ 10500 ≤ (upSteps []).ledger.capDw * 105 ∧ (upSteps []).nextStep (upSteps []).ledger.capSteps = some 143 ∧
    (upSteps [143, 143, 143, 143]).nextStep (upSteps [143, 143, 143, 143]).ledger.capSteps = none ∧ (upSteps [143]).ledger.capUndo = true ∧ (upSteps [143]).ledger.capSince + 100 * cyclesPerMs ≤ (upSteps [143]).now ∧
    (upSteps [143]).ledger.capSteps ≠ [] ∧ ({ (upSteps [143]).ledger with capDw := 0 } : Ledger).capDw = 0 ∧ (124 : Int) < 125 ∧ (110 : Int) ≤ 110 ∧ (115 : Int) ≤ 115 ∧ (107 : Int) ≤ 107 ∧ (112 : Int) ≤ 112 ∧
    up.board.thermalLimit = false ∧ up.rst.alwaysOn = true ∧ up.rst.resetAt ≠ some up.now ∧ up.rst.off = false ∧ (upSteps []).ledger.thermalSince = 0 ∧ ({ up.board with thermalLimit := true } : Board).thermalLimit = true ∧ (upSteps [143]).ledger.thermalSteps ≠ [] := by decide +kernel

/-! The host link and its engines. -/

def upHost (h : HostLink) : State := { up with host := h }

/-- Context[5].StatsAck lies at 0x201468; the last slot of BAR0 is unassigned. -/
theorem witness_RegistersAreReadAndWritten :
    (upHost { up.host with up := false }).host.up = false ∧ State.reset.rst.phokel = false ∧ up.host.up = true ∧ up.rst.phokel = true ∧ (0x3FFFFF8 : Nat) < 0x4000000 ∧ regAt up.variant 0x3FFFFF8 = none ∧
    regAt up.variant 0x201468 = some (.ctx 5 13) ∧ regAt up.variant 0x350138 = some (.trig 7) ∧ regAt up.variant 0x507FF8 = some (.route 4095) ∧ regAt up.variant 0x201460 = some (.ctx 5 12) ∧ (4 : Nat) ≠ 8 ∧ 0x350138 % 8 = 0 ∧
    (7, 0) ∈ reservedFields .chipId ∧ fld ((1 : BitVec 64).truncate 40) 7 0 ≠ 0 ∧ (∀ x ∈ reservedFields (.trig 7), fld ((2 : BitVec 64).truncate 40) x.1 x.2 = 0) ∧
    up.regFor 0 = some .chipId ∧ readOk 0 4 = true ∧ up.regFor 0x3FFFFF8 = none ∧ 0xBF0 ≤ fld (0xBF00000000 : Word) 39 28 ∧ fld (0xBFFFFFFFFF : Word) 39 28 ≤ 0xBFF ∧ fld (0xBEFFFFFFFF : Word) 39 28 < 0xBF0 ∧
    0xBFF < fld (0xC000000000 : Word) 39 28 := by decide +kernel

def chan0 : Channel := { Channel.reset 0 with enable := true, dir := 1, state := .active }
def upChan (c : Channel) (e : Engine) : State := { up with chans := [(0, c)], engines := [(0, e)] }
def desc0 : Fetched := { bits := 0, sg := [] }
def use0 : FrameUse := { whole := true, tag := [], poisoned := false }
def serving : Channel := { chan0 with inFlight := true, fetched := [desc0], transfers := [{ offset := 0, bytes := [1], ext := false }] }
def readback0 (k : ReadBackFor) : ReadBack := { kind := k, issued := true, ch := 0, addr := 64, bytes := [1] }

theorem witness_ChannelsServeDescriptors :
    ((upChan chan0 (Engine.reset 0)).chan 0 0).enable = true ∧ ((upChan chan0 (Engine.reset 0)).chan 0 0).state ≠ .halted ∧ ((upChan serving (Engine.reset 0)).chan 0 0).inFlight = true ∧ chan0.inFlight = false ∧
    ({ serving with fetching := true } : Channel).fetching = true ∧ serving.skipOwn = false ∧ serving.fetched.length < 8 ∧ (Engine.reset 0).halted = false ∧ (Engine.reset 0).inReset = false ∧ up.hostOpen = true ∧
    up.ledger.pstate ≠ .low ∧ (∀ r ∈ (Engine.reset 0).readbacks, r.issued = true) ∧ (upChan serving (Engine.reset 0)).choose 0 = some 0 ∧ serving.transfers.head? = some { offset := 0, bytes := [1], ext := false } ∧ serving.fetched.head? = some desc0 ∧
    ({ serving with transfers := [], frame := some use0 } : Channel).frame = some use0 ∧ use0.whole = true ∧ use0.poisoned = false ∧ serving.output = false ∧ serving.stopPending = false ∧ desc0.stop = false ∧ (Engine.reset 0).forcePending = false ∧
    ({ Engine.reset 0 with readbacks := [readback0 .tag] } : Engine).readbacks.find? (fun r => r.issued) = some (readback0 .tag) ∧ ({ Engine.reset 0 with readbacks := [readback0 .fence] } : Engine).readbacks.find? (fun r => r.issued) = some (readback0 .fence) ∧
    1 ≤ (1 : BitVec 3).toNat ∧ (5 : BitVec 3).toNat ≤ 5 ∧ (∀ k < 32, ((upChan chan0 (Engine.reset 0)).chan 0 k).inFlight = false) ∧
    ({ Engine.reset 28 with halted := true, cause := 1 } : Engine).halted = true ∧ ({ Engine.reset 28 with halted := true, cause := 1 } : Engine).haltCycle + cyclesPerMs ≤ up.now ∧ ({ Engine.reset 28 with halted := true, cause := 1 } : Engine).cause ≠ 5 ∧ up.phokelStops = false ∧ up.host.up = true ∧ up.rst.phokel = true ∧
    (∀ x, ({ chan0 with started := some (0, false, false, false) } : Channel).started = some x → x.1 ≠ up.now) ∧ ({ bits := 2 ^ 96 + 8 * 2 ^ 64, sg := [] } : Fetched).bad = false ∧ (∀ r ∈ (Engine.reset 0).readbacks, r.issued = false) ∧
    up.ring.retrieval = none := by decide +kernel

def occ0 (r : Word) : Occ := { id := evHost, code := 1, data := 0, stamp := 0, route := r, logged := true }
def vector0 : Vector := { Vector.reset 255 with control := 0, merged := [1] }

theorem witness_HostLinkAndRouter :
    up.host.up = true ∧ (upHost { up.host with up := false }).rst.released.getLsbD 11 = true ∧ 32 ∈ [1, 2, 4, 8, 16, 32] ∧ linkWidth 4 2 = 1 ∧ linkWidth 2 32 = 8 ∧ up.rst.phokel = true ∧
    ({ up.router with queue := [occ0 0] } : Router).queue = occ0 0 :: [] ∧ (∀ i < 8, bit (up.ring.trigOf i) 39 = false) ∧ (occ0 0).route = 0 ∧ (occ0 (BitVec.ofNat 40 (2 ^ 30))).route = BitVec.ofNat 40 (2 ^ 30) ∧
    (upHost { up.host with rec1 := { RecRing.reset with baseHi := 0x9000000000 } }).host.rec1.enabled = true ∧ (upHost { up.host with rec1 := { RecRing.reset with baseHi := 0x9000000000 } }).host.rec1.full = false ∧ up.hostOpen = true ∧ (up.engine 29).stopped = false ∧
    (occ0 (mkWord [(17, 17, 1), (16, 7, 1023)])).route = mkWord [(17, 17, 1), (16, 7, 1023)] ∧
    vector0.holdEnd ≤ up.now ∧ vector0.merged ≠ [] ∧ vector0.control.getLsbD 0 = false ∧ (({ up with router := { up.router with vectors := [(255, vector0)] } } : State).vector 255) = vector0 :=
  by decide +kernel

/-- The offset of one register of every kind that a write or a read acts on, the last of each block where it has several. -/
theorem witness_RegistersAreReadAndWritten_offsets :
    regAt up.variant 0x40 = some (.recRing 0 0) ∧ regAt up.variant 0x68 = some (.recRing 1 1) ∧ regAt up.variant 0x50 = some (.recRing 0 2) ∧ regAt up.variant 0x78 = some (.recRing 1 3) ∧
    regAt up.variant 0x80 = some .eventRaise ∧ regAt up.variant 0x88 = some .regFault ∧ regAt up.variant 0x118 = some (.axisCounts 3) ∧ regAt up.variant 0x120 = some .syncCounts ∧
    regAt up.variant 0x8F8 = some (.strobe 31) ∧ regAt up.variant 0x10 = some .timeNowLo ∧ regAt up.variant 0x18 = some .timeNowHi ∧ regAt up.variant 0x28 = some .travelNow ∧
    regAt up.variant 0x30 = some .travelStatus ∧ regAt up.variant 0x38 = some .linkStatus := by decide +kernel

theorem witness_RegistersAreReadAndWritten_blocks :
    regAt up.variant 0x102F08 = some (.port 47 1) ∧ regAt up.variant 0x102F20 = some (.port 47 4) ∧ regAt up.variant 0x100040 = some (.port 0 8) ∧ regAt up.variant 0x100048 = some (.port 0 9) ∧
    regAt up.variant 0x100050 = some (.port 0 10) ∧ regAt up.variant 0x200068 = some (.ctx 0 13) ∧ regAt up.variant 0x200148 = some (.out 0 0 9) ∧ regAt up.variant 0x300080 = some (.facet 2 0) ∧
    regAt up.variant 0x300010 = some (.facet 0 2) ∧ regAt up.variant 0x311F10 = some (.check 31 2) ∧ regAt up.variant 0x311FF8 = some (.expected 31 15) ∧ regAt up.variant 0x320030 = some (.accord 0 6) ∧
    regAt up.variant 0x330008 = some (.bb 0 1) ∧ regAt up.variant 0x340058 = some (.stream 0 11) ∧ regAt up.variant 0x350020 = some (.ring 4) ∧ regAt up.variant 0x351008 = some (.drive 0 1) ∧
    regAt up.variant 0x360000 = some (.ledger 0) ∧ regAt up.variant 0x43E008 = some (.engine 31 1) ∧ regAt up.variant 0x43F7E8 = some (.chan 31 31 5) ∧ regAt up.variant 0x43F7F8 = some (.chan 31 31 7) ∧
    regAt up.variant 0x5087F8 = some (.vector 255) := by decide +kernel

/-- A value that each judging register admits, and one that it does not. -/
theorem witness_RegistersAreReadAndWritten_values :
    fld (mkWord [(39, 39, 1), (37, 34, 15)]) 37 34 ≤ 15 ∧ ¬ fld (mkWord [(37, 34, 13)]) 37 34 ≤ 12 ∧ fld (mkWord [(37, 22, 1)]) 37 22 ≠ 0 ∧ 8800 + fld (mkWord [(39, 24, 1100)]) 23 8 ≤ 8 * fld (mkWord [(39, 24, 1100)]) 39 24 ∧
    ¬ 8800 + fld (mkWord [(39, 24, 1099)]) 23 8 ≤ 8 * fld (mkWord [(39, 24, 1099)]) 39 24 ∧ fld (mkWord [(33, 28, 0x27), (27, 13, 16384)]) 33 28 = 0x27 ∧ fld (mkWord [(33, 28, 0x27), (27, 13, 16384)]) 27 13 ≤ 16384 ∧
    fld (mkWord [(39, 24, 1), (23, 4, 1)]) 23 4 ≠ 0 ∧ fld (mkWord [(39, 36, 1), (35, 32, 1), (31, 28, 1), (27, 24, 1)]) 27 24 ≠ 0 ∧ bit (0x8000000000 : Word) 39 = true ∧ bit (0x8000000000 : Word) 38 = false ∧
    bit (0x4000000000 : Word) 39 = false ∧ bit (0x4000000000 : Word) 38 = true := by decide +kernel

/-! Requests and responses that every check accepts: the point (0, 1) as the key, whose signatures by (0, 1) and 0 verify. -/

def key1 : List Byte := 1 :: List.replicate 56 0
def sign1 : List Byte := key1 ++ List.replicate 57 0

theorem edMul_one (n : Nat) : ∀ k, edMul (0, 1, 1) n k = (0, 1, 1) := by
  induction n with
  | zero => intro k; rfl
  | succ n ih => intro k; simp only [edMul, ih]; split <;> decide

theorem edMul_zero (p : Nat × Nat × Nat) (n : Nat) : edMul p n 0 = (0, 1, 1) := by
  induction n with
  | zero => rfl
  | succ n ih =>
    have ha : edAdd (0, 1, 1) (0, 1, 1) = (0, 1, 1) := by decide
    simp [edMul, ih, ha]

theorem verify_key1 (ctx : String) (m : List Byte) : ed448Verify key1 ctx m sign1 = true := by
  have hk : edDecode key1 = some (0, 1, 1) := by decide +kernel
  have hr : edDecode (sign1.take 57) = some (0, 1, 1) := by decide +kernel
  have hs : natLE (sign1.drop 57) = 0 := by decide +kernel
  have hl : sign1.length = 114 := by decide +kernel
  have hz : ¬ (0 : Nat) ≥ edL := by decide +kernel
  have ha : edAdd (0, 1, 1) (0, 1, 1) = (0, 1, 1) := by decide
  simp only [ed448Verify, hk, hr, hs, hl, edMul_zero, edMul_one, ha]
  simp [hz]

theorem keccakChi_length (a : List (BitVec 64)) : (keccakChi a).length = 25 := by
  simp [keccakChi, keccakOf, List.range_succ]

theorem keccakF_length (a : List (BitVec 64)) : (keccakF a).length = 25 := by
  simp only [keccakF, List.range_succ, List.foldl_append, List.foldl_cons, List.foldl_nil, List.length_modify, keccakChi_length]

theorem keccakAbsorb_length (n : Nat) : ∀ bs a, a.length = 25 → (keccakAbsorb n bs a).length = 25 := by
  induction n with
  | zero => intro bs a h; exact h
  | succ n ih => intro bs a h; exact ih _ _ (keccakF_length _)

theorem bytesLE_length (n : Nat) : ∀ v, (bytesLE n v).length = n := by
  induction n with
  | zero => intro v; rfl
  | succ n ih => intro v; simp [bytesLE, ih]

theorem flatMap_length (l : List (BitVec 64)) : (l.flatMap fun x => bytesLE 8 x.toNat).length = 8 * l.length := by
  induction l with
  | nil => rfl
  | cons x l ih => simp [List.flatMap_cons, bytesLE_length, ih]; omega

theorem shake256_length (m : List Byte) (n : Nat) (h : 1 ≤ n) (hn : n ≤ 136) : (shake256 m n).length = n := by
  have hc : ceilDiv n 136 = 1 := by simp only [ceilDiv]; omega
  simp only [shake256, sponge, hc, keccakSqueeze, List.append_nil, List.length_take, flatMap_length]
  rw [keccakAbsorb_length _ _ _ (by simp)]
  omega

theorem bytesAt_left (a b : List Byte) (off n : Nat) (h : off + n ≤ a.length) : bytesAt (a ++ b) off n = bytesAt a off n := by
  simp only [bytesAt, List.drop_append, List.take_append, List.length_drop]
  simp [show n - (a.length - off) = 0 by omega]

theorem bytesAt_right (a b : List Byte) (off n : Nat) (h : a.length ≤ off) : bytesAt (a ++ b) off n = bytesAt b (off - a.length) n := by
  simp [bytesAt, List.drop_append, List.drop_eq_nil_of_le h]

/-- A request of this KIND, signer, ARG and SEQ 9, for device d, whose new key and signer's key are (0, 1). -/
def head0 (kind signer arg : Byte) : List Byte := [0x47, 0x56, 0x52, 0x51, 1, kind, signer, arg, 9, 0, 0, 0, 0, 0, 0, 0]
def tail0 : List Byte := key1 ++ List.replicate 7 0 ++ List.replicate 32 5 ++ List.replicate 128 0 ++ key1 ++ List.replicate 7 0 ++ sign1 ++ List.replicate 78 0
def request0 (d : List Byte) (kind signer arg : Byte) : List Byte := head0 kind signer arg ++ (d ++ tail0)

theorem request0_head (d : List Byte) (kind signer arg : Byte) :
    let b := request0 d kind signer arg
    bytesAt b 0 4 = ascii "GVRQ" ∧ leAt b 4 1 = 1 ∧ leAt b 5 1 = kind.toNat ∧ leAt b 6 1 = signer.toNat ∧ leAt b 7 1 = arg.toNat ∧ leAt b 8 8 = 9 := by
  simp only [request0, leAt]
  rw [bytesAt_left _ _ _ _ (by simp [head0]), bytesAt_left _ _ _ _ (by simp [head0]), bytesAt_left _ _ _ _ (by simp [head0]), bytesAt_left _ _ _ _ (by simp [head0]),
    bytesAt_left _ _ _ _ (by simp [head0]), bytesAt_left _ _ _ _ (by simp [head0])]
  refine ⟨?_, rfl, ?_, ?_, ?_, rfl⟩
  · show [(0x47 : Byte), 0x56, 0x52, 0x51] = _; decide
  all_goals simp [head0, bytesAt, natLE]

theorem request0_tail (d : List Byte) (h : d.length = 16) (kind signer arg : Byte) :
    let b := request0 d kind signer arg
    b.length = 512 ∧ bytesAt b 16 16 = d ∧ bytesAt b 32 57 = key1 ∧ bytesAt b 96 32 = List.replicate 32 5 ∧ bytesAt b 256 57 = key1 ∧ bytesAt b 320 114 = sign1 := by
  have ht : tail0.length = 480 := by decide +kernel
  have hh : (head0 kind signer arg).length = 16 := rfl
  have r : ∀ off n, 32 ≤ off → bytesAt (request0 d kind signer arg) off n = bytesAt tail0 (off - 32) n := by
    intro off n ho
    rw [request0, bytesAt_right _ _ _ _ (by omega), bytesAt_right _ _ _ _ (by omega), hh, h, Nat.sub_sub]
  refine ⟨by simp [request0, hh, h, ht], ?_, ?_, ?_, ?_, ?_⟩
  · rw [request0, bytesAt_right _ _ _ _ (by omega), hh, bytesAt_left _ _ _ _ (by omega)]; simp [bytesAt, List.take_of_length_le (by omega : d.length ≤ 16)]
  · rw [r _ _ (by omega)]; decide +kernel
  · rw [r _ _ (by omega)]; decide +kernel
  · rw [r _ _ (by omega)]; decide +kernel
  · rw [r _ _ (by omega)]; decide +kernel

theorem deviceId_length : deviceId.length = 16 := by
  simp only [deviceId, List.length_take, shake256_length _ 64 (by omega) (by omega)]; omega

/-- What `request0` says. -/
def said0 (kind signer arg : Byte) : Request :=
  { kind := kind.toNat, signer := signer.toNat, arg := arg.toNat, seq := 9, newPub := key1, secret := List.replicate 32 5, signerPub := key1 }

/-- It is acceptable where its signer is the new key itself, or a slot that holds the key. -/
theorem request0_ok (s : State) (kind signer arg : Byte) (accept : Request → Bool) (ha : accept (said0 kind signer arg) = true)
    (hs : (signer.toNat = 0x20 ∧ kind.toNat = 1) ∨ (signer.toNat ≠ 0x20 ∧ s.sec.signerHash signer.toNat key1 = true)) (hq : s.sec.lastSeq.getD (kind.toNat - 1) 0 < 9) :
    s.checkRequest (request0 deviceId kind signer arg) kind.toNat arg.toNat accept = .ok (said0 kind signer arg) := by
  obtain ⟨h2, h3, h4, h5, h6, h7⟩ := request0_head deviceId kind signer arg
  obtain ⟨h1, h8, h9, h10, h11, h12⟩ := request0_tail deviceId deviceId_length kind signer arg
  have ha' := ha
  simp only [said0] at ha'
  simp only [State.checkRequest, h1, h2, h3, h4, h5, h6, h7, h8, h9, h10, h11, h12, verify_key1, ha', said0]
  rcases hs with ⟨a, b⟩ | ⟨a, b⟩
  · simp only [List.getD_eq_getElem?_getD, b] at hq; simp [a, b]; simpa using hq
  · simp only [List.getD_eq_getElem?_getD] at hq; simp [a, b]; simpa using hq

/-- A response for this scope by owner slot 0, whose key is (0, 1), to a challenge. -/
def rhead0 (scope : Byte) : List Byte := [0x47, 0x56, 0x44, 0x52, 1, scope, 0x10, 0] ++ List.replicate 56 0
def rtail0 : List Byte := key1 ++ List.replicate 7 0 ++ sign1 ++ List.replicate 14 0
def response0 (c : Challenge) (scope : Byte) : List Byte := rhead0 scope ++ (shake256 c.bytes 64 ++ rtail0)

theorem response0_good (s : State) (c : Challenge) (scope : Byte) (hc : c.scope = scope.toNat) (hn : s.now < c.issued + 60 * cyclesPerS)
    (hd : debugSigner s.sec.lifecycle c.scope 0x10 = true) (hs : s.sec.signerMatches 0x10 key1 = true) : s.responseGood c (response0 c scope) = true := by
  have hh : (rhead0 scope).length = 64 := rfl
  have ht : rtail0.length = 192 := by decide +kernel
  have hl : (shake256 c.bytes 64).length = 64 := shake256_length _ _ (by omega) (by omega)
  have r : ∀ off n, 128 ≤ off → bytesAt (response0 c scope) off n = bytesAt rtail0 (off - 128) n := by
    intro off n ho
    rw [response0, bytesAt_right _ _ _ _ (by omega), bytesAt_right _ _ _ _ (by omega), hh, hl, Nat.sub_sub]
  have h0 : (response0 c scope).length = 320 := by simp [response0, hh, hl, ht]
  have h1 : bytesAt (response0 c scope) 0 4 = ascii "GVDR" := by rw [response0, bytesAt_left _ _ _ _ (by omega)]; show [(0x47 : Byte), 0x56, 0x44, 0x52] = _; decide
  have h2 : leAt (response0 c scope) 4 1 = 1 := by rw [leAt, response0, bytesAt_left _ _ _ _ (by omega)]; rfl
  have h3 : leAt (response0 c scope) 5 1 = scope.toNat := by rw [leAt, response0, bytesAt_left _ _ _ _ (by omega)]; rfl
  have h4 : leAt (response0 c scope) 6 1 = 0x10 := by rw [leAt, response0, bytesAt_left _ _ _ _ (by omega)]; rfl
  have h5 : bytesAt (response0 c scope) 64 64 = shake256 c.bytes 64 := by
    rw [response0, bytesAt_right _ _ _ _ (by omega), hh, bytesAt_left _ _ _ _ (by omega)]; simp [bytesAt, List.take_of_length_le (by omega : (shake256 c.bytes 64).length ≤ 64)]
  have h6 : bytesAt (response0 c scope) 128 57 = key1 := by rw [r _ _ (by omega)]; decide +kernel
  have h7 : bytesAt (response0 c scope) 192 114 = sign1 := by rw [r _ _ (by omega)]; decide +kernel
  simp only [State.responseGood, h0, h1, h2, h3, h4, h5, h6, h7, verify_key1, hs, hc, hn]
  rw [hc] at hd
  simp [hd]


/-! Security. -/

def upSec (x : Security) : State := { up with sec := x }
def request (v : Word) : Msg := msg [v + 512, 0, 0]

/-- Owner slots that hold the key (0, 1). -/
def ownedBy (l : Lifecycle) (slots : List Nat) : Security :=
  { up.sec with lifecycle := l, ownerHash := (List.range 4).map fun k => if slots.contains k then some (ownerHashOf key1) else none }

theorem noRequest_bad : (upSec (ownedBy .ownedOpen [0])).checkRequest (List.replicate 512 0) 4 0 (fun r => (ownedBy .ownedOpen [0]).byOwner r) = .bad := by
  have h : (bytesAt (List.replicate 512 0) 0 4 != ascii "GVRQ") = true := by decide +kernel
  simp only [State.checkRequest, h, Bool.or_true, Bool.true_or, if_true]

/-- Each of the four KINDs has a request that is accepted, and one of zeros is not. -/
theorem witness_SignedRequestsAreJudged :
    (upSec up.sec).checkRequest (request0 deviceId 1 0x20 3) 1 3 (fun r => r.signer == 0x20) = .ok (said0 1 0x20 3) ∧
    (upSec (ownedBy .ownedOpen [0, 1])).checkRequest (request0 deviceId 2 0x10 1) 2 1 (fun r => (ownedBy .ownedOpen [0, 1]).byOwner r && r.signer != 0x10 + 1) = .ok (said0 2 0x10 1) ∧
    (upSec (ownedBy .ownedOpen [0])).checkRequest (request0 deviceId 3 0x10 2) 3 2 (fun r => (ownedBy .ownedOpen [0]).byOwner r) = .ok (said0 3 0x10 2) ∧
    (upSec (ownedBy .ownedOpen [0])).checkRequest (request0 deviceId 4 0x10 0) 4 0 (fun r => (ownedBy .ownedOpen [0]).byOwner r) = .ok (said0 4 0x10 0) ∧
    (upSec (ownedBy .ownedOpen [0])).checkRequest (List.replicate 512 0) 4 0 (fun r => (ownedBy .ownedOpen [0]).byOwner r) = .bad ∧
    (upSec (ownedBy .ownedOpen [0])).checkRequest (request0 deviceId 2 0x10 0) 2 0 (fun r => (ownedBy .ownedOpen [0]).byOwner r && r.signer != 0x10 + 0) = .denied := by
  have hm : ∀ l slots, slots.contains 0 = true → (upSec (ownedBy l slots)).sec.signerHash 16 key1 = true := by
    intro l slots h
    simp [Security.signerHash, Security.slotHolds, upSec, ownedBy, within, show List.range 4 = [0, 1, 2, 3] from rfl]
    simpa using h
  refine ⟨request0_ok _ 1 0x20 3 _ (by decide) (.inl (by decide)) (by decide), request0_ok _ 2 0x10 1 _ (by decide) (.inr ⟨by decide, hm _ _ (by decide)⟩) (by decide),
    request0_ok _ 3 0x10 2 _ (by decide) (.inr ⟨by decide, hm _ _ (by decide)⟩) (by decide), request0_ok _ 4 0x10 0 _ (by decide) (.inr ⟨by decide, hm _ _ (by decide)⟩) (by decide), noRequest_bad, ?_⟩
  obtain ⟨h2, h3, h4, h5, h6, h7⟩ := request0_head deviceId 2 0x10 0
  obtain ⟨h1, h8, h9, h10, h11, h12⟩ := request0_tail deviceId deviceId_length 2 0x10 0
  simp only [State.checkRequest, h1, h2, h3, h4, h5, h6, h7, h8, h9, h10, h11, h12, Security.byOwner]
  simp [hm .ownedOpen [0] (by decide), within]

theorem witness_SignedRequestsAreJudged_messages :
    up.admits 0x706 permitR0 (request (mkWord [(39, 38, 3)])) = true ∧ lenIs (request 0) 3 = true ∧ requestLen (request (mkWord [(39, 38, 3)])) = true ∧ up.sec.lifecycle ≠ .retired ∧ bit ((request (mkWord [(39, 38, 3)])).w 0) 37 = false ∧
    fld ((request (mkWord [(39, 38, 3)])).w 0) 39 38 = 3 ∧ up.sec.installed.contains 3 = false ∧ bit ((request (mkWord [(39, 38, 1), (37, 37, 1)])).w 0) 37 = true ∧ requestLen (request (mkWord [(39, 38, 1), (37, 37, 1)])) = true ∧
    up.admits 0x707 permitR0 (request (mkWord [(39, 38, 2)])) = true ∧ transition .ownedOpen .ownedSealed = true ∧ transition .retired .factory = false ∧ up.admits 0x708 permitR0 (request 0) = true ∧ zeroFld ((request 0).w 0) 39 37 = true ∧
    requestLen (request 0) = true ∧ up.sec.lifecycle = .ownedOpen ∧ (∃ b ∈ (said0 4 0x10 0).secret, b ≠ 0) ∧ up.admits 0x700 permitR0 (msg [0, 0, 0, 0, 0, 0, 0, 0, 0]) = true ∧ lenIs (msg [0, 0, 0, 0, 0, 0, 0, 0, 0]) 9 = true ∧
    hostAddrOk ((msg [0, 0, 0, 0, 0, 0, 0, 0, 0]).w 8) = true ∧ up.hostOpen = true ∧ up.loadsOpen = true ∧ up.hasRoom (request 0) = true := by decide +kernel

theorem witness_SignedRequestsAreJudged_slots :
    (upSec (ownedBy .ownedOpen [0, 1])).sec.unrevoked.contains 1 = true ∧ 2 ≤ (upSec (ownedBy .ownedOpen [0, 1])).sec.unrevoked.length ∧ (upSec (ownedBy .ownedOpen [0])).lifecycleReady .ownedSealed = true ∧
    up.lifecycleReady .ownedSealed = false ∧ (upSec (ownedBy .ownedOpen [0])).sec.unrevoked.length < 2 ∧ up.sec.unrevoked.contains 0 = false := ⟨rfl, by show 2 ≤ 2; decide, rfl, rfl, by show 1 < 2; decide, rfl⟩

def challenge0 (k : Nat) : Challenge := { scope := k, bytes := [], issued := up.now }
def upSlots (l : List FwSlot) : State := upSec { up.sec with slots := l }
def staged1 : List FwSlot := [{ image := [], staged := false }, { image := [0, 0, 0, 0, 0, 0, 0, 0], staged := true }]
def upFlash (opcode : BitVec 12) (w : Word) : State := { up with mail := { up.mail with inflight := [{ waiting 0 .flash with opcode := opcode, payload := [w] }] } }

theorem witness_FirmwareAndDebugSessions_firmware :
    up.admits 0x701 permitR0 (msg [mkWord [(31, 0, 4096)], 0, 0, 0]) = true ∧ lenIs (msg [mkWord [(31, 0, 4096)], 0, 0, 0]) 4 = true ∧ zeroFld (mkWord [(31, 0, 4096)]) 38 32 = true ∧ hostAddrOk 0 = true ∧ up.sec.booted < 2 ∧ up.sec.slots.length = 2 ∧
    (upFlash 0x701 0).flashBusy = true ∧ up.flashBusy = false ∧ up.hasRoom (msg []) = true ∧ 0 + 4096 ≤ 28 * 2 ^ 20 ∧ (up.sec.slot up.sec.spare).staged = false ∧ 0 = (up.sec.slot up.sec.spare).image.length ∧
    ((upSlots [{ image := [], staged := false }, { image := [1, 2], staged := false }]).sec.slot 1).image.length = 2 ∧ (upFlash 0x701 0).inflight? (fun i => i.wait == .flash) = some { waiting 0 .flash with opcode := 0x701, payload := [0] } ∧
    bit (pw [(0x8000000000 : Word)] 0) 39 = true ∧ up.phokelStops = false ∧ up.sec.activation = none ∧ up.loadsOpen = true ∧ zeroFld ((msg [mkWord [(31, 0, 4096)], 0, 0, 0]).w 3) 39 32 = true ∧ (upFlash 0x702 0).inflight? (fun i => i.wait == .flash) = some { waiting 0 .flash with opcode := 0x702, payload := [0] } ∧
    up.admits 0x702 permitR0 (msg [0x4143545600]) = true ∧ lenIs (msg [0x4143545600]) 1 = true ∧ (msg [0x4143545600]).w 0 = 0x4143545600 ∧ up.admits 0x702 permitR0 (msg [0x4143545652]) = true ∧
    ((upSlots staged1).sec.slot (upSlots staged1).sec.spare).staged = true ∧ (upSlots staged1).sec.tooOld = false ∧ (upSlots staged1).sec.debugOpen.contains 0 = false ∧ (upSlots staged1).rst.off = false ∧ (upSlots staged1).rst.phokel = true := by decide +kernel

theorem witness_FirmwareAndDebugSessions_debug :
    up.admits 0x703 permitRL0 (msg [mkWord [(39, 38, 2)], 0, 0]) = true ∧ fld (mkWord [(39, 38, 2)]) 39 38 < 3 ∧ zeroFld (mkWord [(39, 38, 2)]) 37 0 = true ∧ up.sec.refuseUntil ≤ up.now ∧ up.hostOpen = true ∧
    up.now < (upSec { up.sec with refuseUntil := up.now + 1 }).sec.refuseUntil ∧ up.rst.alwaysOn = true ∧ up.ledger.pstate ≠ .hold ∧ up.admits 0x704 permitRL0 (msg [320, 0, 0]) = true ∧ lenIs (msg [320, 0, 0]) 3 = true ∧
    zeroFld (320 : Word) 39 16 = true ∧ fld (320 : Word) 15 0 = 320 ∧ up.sec.heldOpening = none ∧ up.sec.challenge = none ∧ up.sec.failRun < 7 ∧ up.loadsOpen = true ∧ (upSec { up.sec with challenge := some (challenge0 2) }).sec.challenge = some (challenge0 2) ∧
    up.scanAllowed = true ∧ up.hasRoom (msg []) = true ∧ up.ledger.pstate = .run ∧ 7 ≤ ({ up.sec with failRun := 7 } : Security).failRun ∧
    ({ up.sec with heldOpening := some { scope := 1, signer := 0x10, deadline := up.now + 1 } } : Security).heldOpening = some { scope := 1, signer := 0x10, deadline := up.now + 1 } ∧ up.now < up.now + 1 ∧ up.phokelStops = false ∧ (ownedBy .ownedOpen [0]).mayOpen { scope := 1, signer := 0x10, deadline := up.now + 1 } = true ∧
    up.sec.tapAllowed .idcode = true ∧ up.sec.tapAllowed .halt = false ∧ ({ up.sec with debugOpen := [0] } : Security).tapAllowed .halt = true ∧
    up.admits 0x705 permitRL0 (msg []) = true ∧ lenIs (msg []) 0 = true := by decide +kernel

/-- A response that opens scope 1. -/
theorem witness_FirmwareAndDebugSessions_response : (upSec (ownedBy .ownedOpen [0])).responseGood (challenge0 1) (response0 (challenge0 1) 1) = true :=
  response0_good _ _ 1 rfl (by decide) rfl (by simp [Security.signerMatches, Security.ownerOk, Security.slotHolds, upSec, ownedBy, within, show List.range 4 = [0, 1, 2, 3] from rfl]; rfl)


/-! Resets and start-up. -/

def upRst (r : ResetCtl) : State := { up with rst := r }

theorem witness_ResetsActAtTheirLevels :
    up.rst.off = false ∧ up.rst.alwaysOn = true ∧ up.sec.fuses = none ∧ up.scanOpen = false ∧ up.rst.resetAt ≠ some up.now ∧ (upRst { up.rst with resetAt := some up.now }).rst.resetAt = some up.now ∧ up.ledger.pstate ≠ .hold ∧ (upLedger { up.ledger with pstate := .hold, sealDone := true }).ledger.sealDone = true ∧ ({ up.ledger with pstate := .hold } : Ledger).sealDone = false ∧
    (499 : Nat) < 500 ∧ (500 : Nat) ≤ 999 ∧ (999 : Nat) < 1000 ∧ (upRst { up.rst with mcWatch := some up.now }).rst.mcWatch = some up.now ∧ up.rst.phokel = true ∧ up.now ≤ up.now ∧ up.sec.debugOpen.contains 0 = false ∧ up.now < up.now + 1 ∧
    (upSec { up.sec with debugOpen := [0] }).sec.debugOpen.contains 0 = true ∧ (upRst { up.rst with sysWatch := some up.now }).rst.sysWatch = some up.now ∧ (699 : Nat) < 700 ∧ (649 : Nat) < 650 ∧ (1000 : Nat) < 1001 ∧ (700 : Nat) ≤ 700 ∧ (650 : Nat) ≤ 650 ∧
    (upRst { up.rst with off := true }).rst.off = true := by decide

def atStep (k : Nat) (cause : BitVec 8) : State := upRst { ResetCtl.reset with alwaysOn := true, nextStep := k, cause := cause }
def booting (log : List (List Byte)) : State := { upRst { ResetCtl.reset with alwaysOn := true, bootState := .booting, released := 0x00F } with sec := { up.sec with measLog := log } }
def flash0 (a b : Bool) : FlashRead := { recordA := a, recordB := b, slotA := some ([], true), slotB := none }

theorem witness_BootFollowsItsOrder :
    State.reset.rst.off = false ∧ State.reset.rst.alwaysOn = false ∧ (atStep 1 1).rst.stepAt ≤ (atStep 1 1).now ∧ up.now < ({ up.rst with stepAt := up.now + 1 } : ResetCtl).stepAt ∧ (atStep 1 1).rst.stepWaits = false ∧ 1 ≤ (atStep 1 1).rst.nextStep ∧ (atStep 12 1).rst.nextStep ≤ 12 ∧ (atStep 12 1).rst.nextStep ≠ 4 ∧ (atStep 1 1).rst.nextStep = 1 ∧
    (some 330000 : Option Nat) = some (strapOhms.getD 15 0) ∧ (atStep 4 1).rst.nextStep = 4 ∧ (atStep 4 1).rst.cause = 0x01 ∧ (atStep 4 1).rst.optionRetried = false ∧ (upRst { (atStep 4 1).rst with optionRetried := true }).rst.optionRetried = true ∧
    (upRst { up.rst with unitsWaiting := [(4, 31)] }).rst.unitsWaiting.contains (4, 31) = true ∧ ({ up.mail with inflight := [waiting 0 (.unitReset 4 31 9)] } : Mailbox).inflight = [waiting 0 (.unitReset 4 31 9)] ∧
    (booting []).rst.bootState = .booting ∧ (booting []).rst.released.getLsbD 3 = true ∧ (booting []).sec.measLog = [] ∧ (flash0 false false).recordA = false ∧ (flash0 false false).recordB = false ∧ (flash0 true false).recordA = true ∧ (flash0 false true).recordB = true ∧ (booting []).sec.halted = false ∧
    (booting [[], [], [], []]).sec.measLog.length = 4 ∧ ({ (booting [[], [], [], []]).sec with bootFlash := some (flash0 true true) } : Security).bootFlash = some (flash0 true true) ∧ flashSlot (flash0 true true) (booting []).sec.booted = some ([], true) ∧
    ({ up.sec with slotFallback := true } : Security).slotFallback = true ∧ up.sec.slotFallback = false ∧ (booting [[], [], [], [], [], []]).sec.measLog.length = 6 ∧ up.rst.coreReset = false ∧
    (upRst { (atStep 5 1).rst with stepWaits := true }).rst.stepWaits = true ∧ (atStep 5 1).rst.nextStep ≠ 1 ∧ (atStep 5 1).rst.nextStep ≠ 4 ∧
    ({ up.sec with commissionStored := some (3, 4, 5) } : Security).commissionStored = some (3, 4, 5) ∧ up.sec.doorSecretStored = none ∧ ({ up.sec with doorSecretStored := some (zeroBytes 32, zeroBytes 4) } : Security).doorSecretStored = some (zeroBytes 32, zeroBytes 4) := by decide +kernel

/-! Units in service. -/

def unitMsg (kind idx : Nat) : Msg := msg [mkWord [(39, 36, kind), (35, 29, idx)]]
def unitMsg2 (kind idx : Nat) : Msg := msg [mkWord [(39, 36, kind), (35, 29, idx)], 0]
def upFacet (f : Facet) : State := { up with facets := [(3, f)] }

theorem witness_UnitsAreServiced_drain :
    lenIs (unitMsg 1 3) 1 = true ∧ zeroFld ((unitMsg 1 3).w 0) 28 0 = true ∧ unitKind (unitMsg 1 3) = 1 ∧ unitIndex (unitMsg 1 3) = 3 ∧ unitArg up 1 3 = true ∧ up.admits 0x800 permitR (unitMsg 1 3) = true ∧
    (upFacet { Facet.reset 3 with state := .drained }).unitIdle 1 3 = true ∧ (upFacet { Facet.reset 3 with state := .run }).bound = [] ∧ ((upFacet { Facet.reset 3 with state := .run }).facet 3).state = .run ∧
    ((upAccord { Accord.reset 3 with state := .run }).accord 3).state = .run ∧ up.hasRoom (unitMsg 2 3) = true ∧ ((upAccord { Accord.reset 3 with state := .draining }).accord 3).state ≠ .run ∧ (upAccord { Accord.reset 3 with state := .draining }).unitIdle 2 3 = false ∧
    (upPort { Port.reset 2 with state := .data } supplyOn).unitIdle 3 2 = false ∧ ((upPort { Port.reset 2 with state := .data } supplyOn).port 2).inReset = false ∧ ((upPort { Port.reset 2 with state := .data } supplyOn).port 2).drainBy = none ∧
    (up.engine 31).halted = false ∧ (up.engine 31).inReset = false ∧ (up.engine 31).forcePending = false ∧ unitArg up 4 31 = true ∧ (∀ c < 32, (up.chan 31 c).inFlight = false) ∧ (∀ r ∈ (up.engine 31).readbacks, r.issued = false) ∧ ((upChan serving (Engine.reset 0)).chan 0 0).inFlight = true ∧
    ((upRing { ring0 .run with segments := [seg0] }).ring.drive 3).state = .member ∧ ((upRing { ring0 .run with segments := [seg0] }).ring.drive 3).drained = false ∧ seg0 ∈ (upRing { ring0 .run with segments := [seg0] }).ring.segments ∧
    seg0.drive = 3 ∧ seg0.sealed = false := by decide +kernel

theorem witness_UnitsAreServiced_reset :
    up.admits 0x801 permitR (unitMsg 4 31) = true ∧ (upFacet { Facet.reset 3 with state := .run }).unitIdle 1 3 = false ∧ (upPort (Port.reset 2) (Supply.reset 2)).unitIdle 3 2 = true ∧ up.portCtxs 2 = [] ∧
    ({ up with engines := [(31, { Engine.reset 31 with halted := true })] } : State).unitIdle 4 31 = true ∧ (upRing { ring0 .run with drives := [(3, { drive0 .member with state := .spare })] }).unitIdle 5 3 = true := by decide +kernel

theorem witness_UnitsAreServiced_readmit :
    up.admits 0x802 permitR (unitMsg2 1 3) = true ∧ lenIs (unitMsg2 1 3) 2 = true ∧ zeroFld ((unitMsg2 1 3).w 0) 27 0 = true ∧ zeroFld ((unitMsg2 1 3).w 1) 35 0 = true ∧ up.unitReset? 1 3 = false ∧
    (upFacet { Facet.reset 3 with state := .inReset }).unitReset? 1 3 = true ∧ (upAccord { Accord.reset 3 with state := .inReset }).unitReset? 2 3 = true ∧ bit ((unitMsg2 2 3).w 0) 28 = false ∧
    (upPort { Port.reset 2 with inReset := true } (Supply.reset 2)).unitReset? 3 2 = true ∧ ({ up with engines := [(31, { Engine.reset 31 with halted := true, inReset := true })] } : State).unitReset? 4 31 = true ∧
    (upRing { ring0 .run with formatted := false, drives := [(3, { drive0 .member with state := .spare, inReset := true })] }).unitReset? 5 3 = true ∧ ({ ring0 .run with formatted := false } : Ring).formatted = false ∧
    (upRing { ring0 .run with drives := [(3, { drive0 .member with state := .init, inReset := true, info := none })] }).unitReset? 5 3 = true ∧ (ring0 .run).joining = none ∧
    3 < up.variant.facets ∧ ((upFacet { Facet.reset 3 with state := .inReset, testEnd := some up.now }).facet 3).testEnd = some up.now ∧ (upFacet { Facet.reset 3 with state := .inReset, testEnd := some up.now }).ownsLaunch 1 3 = false ∧ up.now < up.now + 1 := by decide +kernel

def downPort : State := { up with ports := [(2, { Port.reset 2 with state := .down })], board := { up.board with supplies := [(2, supplyOn)] }, ctxs := [(143, ctx0 .waitStart)] }

theorem witness_UnitsAreServiced_port :
    2 < downPort.variant.ports ∧ (downPort.port 2).state = .down ∧ (downPort.port 2).bondPos = 0 ∧ downPort.portCtxs 2 ≠ [] ∧ downPort.powerBusy 2 = false ∧ (downPort.port 2).inReset = false ∧ (downPort.port 2).drainBy = none ∧
    downPort.phokelStops = false ∧ downPort.ledger.pstate = .run ∧ (downPort.port 2).recovered = none ∧ up.now < up.now + 600 * cyclesPerS := by decide +kernel

/-! Ill-formed commands: one for each check of `instrWf`. -/

def longMsg : Msg := msg (List.replicate 256 0)

theorem test_wf_message_bounds : instrWf .gv9640 (.nop { msg [] with door := 4 }) = false ∧ instrWf .gv9640 (.nop longMsg) = false ∧ instrWf .gv9640 (.nop (msg (List.replicate 255 0))) = true := by decide +kernel

theorem test_wf_forms_agree_with_their_selectors :
    instrWf .gv9640 (.epochLaunch (msg [mkWord [(35, 35, 1)]])) = false ∧ instrWf .gv9640 (.epochLaunchFromSync (msg [0])) = false ∧ instrWf .gv9640 (.ctxParamWrite (msg [mkWord [(19, 19, 1)]])) = false ∧
    instrWf .gv9640 (.ctxParamWriteHost (msg [0]) []) = false ∧ instrWf .gv9640 (.ringRead (msg [0])) = false ∧ instrWf .gv9640 (.ringReadEnd (msg [mkWord [(38, 23, 1)]])) = false ∧
    instrWf .gv9640 (.powerStateLow (msg [0, 0, 0])) = false ∧ instrWf .gv9640 (.powerStateRun (msg [mkWord [(39, 38, 1)], 0, 0])) = false ∧ instrWf .gv9640 (.fwActivate (msg [0x4143545652])) = false ∧
    instrWf .gv9640 (.fwActivateAtReset (msg [0x4143545600])) = false ∧ instrWf .gv9640 (.ownerKeyInstall (msg [mkWord [(37, 37, 1)]]) []) = false ∧ instrWf .gv9640 (.ownerKeyRevoke (msg [0]) []) = false ∧
    instrWf .gv9640 (.factoryCommand 0xEFF (msg [])) = false := by decide

theorem test_wf_units_beyond_the_die :
    instrWf .gv9640 (.portLoss 96) = false ∧ instrWf .gv9640 (.axisExclude 4) = false ∧ instrWf .gv9640 (.markEdge 8 true 0 0) = false ∧ instrWf .gv9640 (.gpioEdge 16 true 0 0) = false ∧
    instrWf .gv9640 (.strobePulseStart 32) = false ∧ instrWf .gv9640 (.frameTimeout 144) = false ∧ instrWf .gv9640 (.lineMemoryTestEnd 24 true) = false ∧ instrWf .gv9640 (.accordLate 4) = false ∧
    instrWf .gv9640 (.streamAgeOut 64) = false ∧ instrWf .gv9640 (.bbLinkUp 5) = false ∧ instrWf .gv9640 (.gclEntryAdvance 4) = false ∧ instrWf .gv9640 (.driveLinkDown 8) = false ∧ instrWf .gv9640 (.windowHeld 16) = false ∧
    instrWf .gv9640 (.vectorHoldoffEnd 256) = false ∧ instrWf .gv9640 (.doorbellRing 32 0) = false ∧ instrWf .gv9640 (.doorbellStop 0 32) = false ∧ instrWf .gv9640 (.readbackComplete 32) = false := by decide

theorem test_wf_operand_ranges :
    instrWf .gv9640 (.doorPush 0 3 0) = false ∧ instrWf .gv9640 (.regWrite 0x4000000 8 0) = false ∧ instrWf .gv9640 (.rcRead 0 3) = false ∧ instrWf .gv9640 (.blockRx 0 []) = false ∧ instrWf .gv9640 (.dmaBusError 0 0) = false ∧
    instrWf .gv9640 (.dmaBusError 0 6) = false ∧ instrWf .gv9640 (.ledgerCompute [] 0) = false ∧ instrWf .gv9640 (.hostLinkUp 3 5) = false ∧ instrWf .gv9640 (.hostLinkRetrained 16 6) = false ∧ instrWf .gv9640 (.msixTableWrite 0 4 0) = false := by decide

/-! Results of the spec's own worked examples. -/

theorem test_no_row_has_bits : decodeTableWord 40 0x0000000001 = none ∧ State.reset.withFetchWord 40 1 = State.reset := ⟨rfl, rfl⟩

theorem test_step_takes_the_front : (match step { up with pending := [.travelDegraded, .timeNowRead] } with | .next t => t.pending == [.timeNowRead] | _ => false) = true := by decide +kernel

/-- 12, worked example: the response header of CTX_COMMIT that is late is 0x30_5010_A702, and frame 1001 follows. -/
theorem test_response_of_late_commit : responseWords 0x305 0x0A7 .late [1001] = [0x305010A702, 1001] := by decide

/-- 03, worked example: Cue 17 (TRIG_ID 1) 55.133 ns and Cue 912 (TRIG_ID 3) 1.800 ns after their K28.1. -/
theorem test_trigger_bytes : offsetBytes 1 1323 = [.data 0x12, .data 0x96] ∧ offsetBytes 3 43 = [.data 0x30, .data 0x16] := by decide

/-- 06, worked example: the logarithmic bins and Y of the flat field. -/
theorem test_flat_field_bins : histBin true 368640 = 230 ∧ histBin true 245760 = 222 ∧ histBin true 491520 = 238 ∧ lumaY 0 { r := 368640, g := 245760, b := 491520 } = 289629 ∧ histBin true 289629 = 225 := by decide +kernel

/-- 08, worked example: a frame of 1920 × 1080 YCC422_10, tagged, over IPv4 with MTU 1500 and TAG_EXT. -/
theorem test_stream_wire : (streamRec [mkWord [(39, 39, 1), (26, 26, 1), (25, 23, 5)], mkWord [(24, 24, 1), (15, 2, 1500)]]).groups 3 = 272 ∧
    (streamRec [mkWord [(39, 39, 1), (26, 26, 1), (25, 23, 5)], mkWord [(24, 24, 1), (15, 2, 1500)]]).wire 3 1920 1080 = 5572888 := by decide +kernel

/-- 09, worked example: F of the raw and of the coding frames. -/
theorem test_record_bounds : recordBound 12441600 = 12444864 ∧ recordBound 3110400 = 3111360 := by decide

def ledgerExample : Ledger := { up.ledger with capUf := 6800, vFloorMv := 24000, senseScale := 360, etaPm := 940, boardSealMw := 48000, eShutUj := 100000, marginPct := 25, devSealMw := 18000, sealRate := some 40000 }

/-- 10, worked example: E_AVAIL at 36 V, E_USE, P_SEAL, and E_NEED of 512 MiB; E_AVAIL with 4.7 mF, which fails its tolerance of 10 %. -/
theorem test_ledger_quantities : ledgerExample.availAt 360000000 = 2448000 ∧ ledgerExample.useOf 2448000 = 1836000 ∧ ledgerExample.pSeal = 70212 ∧ ledgerExample.needOf 40000 536870912 = some 1042370 ∧
    ({ ledgerExample with capMeasUf := 4700 } : Ledger).availAt 360000000 = 1692000 ∧ ({ ledgerExample with capMeasUf := 4700, capTolPct := 10 } : Ledger).fails = true := by decide +kernel

def fourK (port ctx cls readout : Nat) : Msg := msg [mkWord [(39, 32, ctx)], mkWord [(39, 33, port), (28, 23, 0x2C), (22, 18, 5), (17, 16, cls)], mkWord [(39, 25, 3840), (24, 9, 2160)], mkWord [(39, 20, 129600), (19, 0, readout)], mkWord [(21, 2, 20000)]]
def bindOne (readout : Nat) (s : State) (i : Nat) : State := match execCtxBind (fourK (20 + i) (20 + i) i readout) s with | .next t => t | _ => s
def upFour : State := { up with ports := (List.range 4).map fun i => (20 + i, { Port.reset (20 + i) with state := .data, rate := 2 }), facets := [(5, { Facet.reset 5 with state := .run })] }

/-- 05, worked example: with READOUT_RATE 160 000 the fourth context is refused, with 150 000 it is admitted. -/
theorem test_burst_admission :
    ((List.range 4).map fun c => (([0, 1, 2, 3].foldl (bindOne 160000) upFour).ctx (20 + c)).bind0 != 0) = [true, true, true, false] ∧
    ((List.range 4).map fun c => (([0, 1, 2, 3].foldl (bindOne 150000) upFour).ctx (20 + c)).bind0 != 0) = [true, true, true, true] := by decide +kernel

/-- The published check values: CRC-32C of "123456789", and SHAKE256 of nothing. -/
theorem test_published_functions : crc32c (ascii "123456789") = 0xE3069283 ∧ shake256 [] 4 = [0x46, 0xB9, 0xDD, 0x2B] := by decide +kernel

/-- The worked example of 17 R491: Port 57, lane 3 of Drive 2, WCK_c[1] of channel 6, ENC_Z[2], and ball 38.20. -/
theorem test_balls : (Signal.ray 57).ball = (54, 14) ∧ (Signal.sillage 11 0).ball = (40, 57) ∧ (Signal.sillage 11 3).ball = (41, 55) ∧
    (Signal.mem 6 47).ball = (24, 49) ∧ (Signal.encZ 2).ball = (51, 10) ∧ railAt 38 20 = .vdd ∧ railAt 55 14 = .vddhRay ∧ railAt 40 54 = .vddhSer := by decide

/-- Nothing is driven before the always-on domain is up, and no strobe fires before it is configured (14 Table 14-6). -/
theorem test_balls_at_reset : (List.range 32).all (fun k => State.reset.strobeBall k == .weakDown && up.strobeBall k == .low) = true ∧ up.xspiSelect = .high := by decide

/-- A burst reads back without failure at its own number and fails in all 12 slots at another (01 R36). -/
theorem test_burst_views : burstFails (burstImage [(38, 5)] 3) 3 = [] ∧ burstFails (burstImage [(38, 5)] 3) 4 = List.range 12 ∧ burstWord (burstImage [(38, 5)] 3) 2 = 5 ∧ parityBit 0x8000000000 = true := by decide +kernel

/-- An 8-byte write at 0x200 of BAR2 pushes to note queue 2 of Door 0, bits 63:40 ignored; a training frame has 32 + 64 + 160 symbols (11 Table 11-4; 02 Table 2-2). -/
theorem test_host_and_line_views : bar2Push 0x200 (2 ^ 40 + 7) = some (2, 7) ∧ bar2Push 0x300 7 = none ∧ (trainingFrame 0 true (List.replicate 13 true)).length = 256 := by decide +kernel

end Sys2Proof.Tests
end

section
/-! Blocks of a Ray port (03_ray_words.md R75 to R82): what a single port does with a good block in sequence, with a block whose replay
has not come in time, and with its oldest block once that is resolved. -/
namespace Sys2Proof.Machine.RayBlocks

/-! A port of the die that belongs to no group. -/

theorem onUnit_of_lt {limit n : Nat} (h : n < limit) (s t : State) : onUnit limit n s t = .next t := by simp [onUnit, h]

theorem group_of_single {s : State} {n : Nat} (h : (s.port n).bond = 0) : s.group n = [n] := by simp [State.group, groupPorts, h]

theorem head_of_member_zero {s : State} {n : Nat} (h : (s.port n).bondPos = 0) : s.head n = n := by simp [State.head, h]

/-- What changes the ports alone still does so after one more write of a port. -/
theorem setPort_frame {s u : State} (h : u = { s with ports := u.ports }) (n : Nat) (p : Port) :
    u.setPort n p = { s with ports := (u.setPort n p).ports } :=
  congrArg (fun v : State => { v with ports := (u.setPort n p).ports }) h

/-! A good block in sequence (R75, R78). -/

/-- The block that a port receives as its next one, with good words and a good marker. -/
def goodBlock (s : State) (n : Nat) (words : List RxWord) (marker : Nat × Nat) : Block :=
  { bsn := (s.port n).nextBsn, words := words, marker := some marker, deadline := none, marked := false, arrived := s.now, arrivedAt := s.dt }

/-- A port with one more block at the end of its reorder buffer. -/
def appendBlock (p : Port) (b : Block) : Port := { p with blocks := p.blocks ++ [b], nextBsn := (p.nextBsn + 1) % 4096 }

/-- A block without a bad word asks for no replay: it joins the buffer, and that is all. -/
theorem takeBlock_of_good (s : State) (n : Nat) {words : List RxWord} (marker : Nat × Nat) (hgood : ∀ w ∈ words, w.good = true) :
    s.takeBlock n words (some marker) = s.setPort n (appendBlock (s.port n) (goodBlock s n words marker)) := by
  have hbad : (words.any fun w => !w.good) = false := by simpa using hgood
  simp [State.takeBlock, hbad, appendBlock, goodBlock]

/-- What a good marker in sequence leaves of a port before the block itself is taken: no lock fault, no block unplaced. -/
def lockedPort (p : Port) (frameCount : Nat) : Port := { p with unplaced := 0, frameCount := frameCount, wordLock := true, lockFaults := 0 }

@[simp] theorem lockedPort_blocks (p : Port) (frameCount : Nat) : (lockedPort p frameCount).blocks = p.blocks := rfl
@[simp] theorem lockedPort_nextBsn (p : Port) (frameCount : Nat) : (lockedPort p frameCount).nextBsn = p.nextBsn := rfl

/-- A block whose good marker has the BSN expected next is taken, without a lock fault. -/
theorem placeBlock_of_next {s : State} {n fc fhp : Nat} (words : List RxWord) {last : RxWord} (hresync : (s.port n).resync = false)
    (hmarker : last.marker? = some ((s.port n).nextBsn, fc, fhp)) (hnew : ∀ b ∈ (s.port n).blocks, b.bsn ≠ (s.port n).nextBsn) :
    s.placeBlock n words last = (false, (s.setPort n (lockedPort (s.port n) fc)).takeBlock n words (some (fc, fhp))) := by
  have hnotAwaited : ((s.port n).blocks.any fun b => b.bsn == (s.port n).nextBsn && b.awaits) = false := by
    rw [List.any_eq_false]
    intro b hb
    simp [hnew b hb]
  simp [State.placeBlock, hmarker, hresync, hnotAwaited, lockedPort]

/-- Words of which none is a REPLAY_GONE mark nothing. -/
theorem actGone_of_none (s : State) (n : Nat) {words : List RxWord} (hgone : ∀ w ∈ words, ¬(w.isControl = true ∧ w.cls = 0 ∧ w.sub = 4)) :
    s.actGone n words = s := by
  have hnil : (words.filter fun w => w.good && w.isControl && w.cls == 0 && w.sub == 4) = [] := by
    rw [List.filter_eq_nil_iff]
    intro w hw
    simp only [Bool.and_eq_true, beq_iff_eq]
    rintro ⟨⟨⟨-, hcontrol⟩, hcls⟩, hsub⟩
    exact hgone w hw ⟨hcontrol, hcls, hsub⟩
  rw [State.actGone, hnil]
  rfl

/-- A port that has counted the words with bad parity among those received (R75). -/
def countBad (p : Port) (words : List RxWord) : Port := { p with rxCounts := bump p.rxCounts 39 28 (words.filter fun w => !w.good).length }

@[simp] theorem countBad_blocks (p : Port) (words : List RxWord) : (countBad p words).blocks = p.blocks := by rw [countBad]
@[simp] theorem countBad_nextBsn (p : Port) (words : List RxWord) : (countBad p words).nextBsn = p.nextBsn := by rw [countBad]
@[simp] theorem countBad_resync (p : Port) (words : List RxWord) : (countBad p words).resync = p.resync := by rw [countBad]

/-- A block that is placed without a lock fault and has no REPLAY_GONE ends with its placing. -/
theorem receiveBlock_of_placed {s t : State} {n : Nat} {words : List RxWord}
    (hplace : (s.setPort n (countBad (s.port n) words)).placeBlock n (words.take 32) (words.getD 32 { w := 0, good := false }) = (false, t))
    (hgone : ∀ w ∈ words.take 32, ¬(w.isControl = true ∧ w.cls = 0 ∧ w.sub = 4)) : s.receiveBlock n words = t := by
  unfold countBad at hplace
  simp only [State.receiveBlock, State.modPort_eq, hplace, actGone_of_none t n hgone]
  simp

/-- The receiver takes a good block in sequence into the reorder buffer, and changes its port alone. -/
theorem receiveBlock_of_next {s : State} {n fc fhp : Nat} {words : List RxWord} (hresync : (s.port n).resync = false)
    (hmarker : (words.getD 32 { w := 0, good := false }).marker? = some ((s.port n).nextBsn, fc, fhp))
    (hnew : ∀ b ∈ (s.port n).blocks, b.bsn ≠ (s.port n).nextBsn) (hgood : ∀ w ∈ words, w.good = true)
    (hgone : ∀ w ∈ words.take 32, ¬(w.isControl = true ∧ w.cls = 0 ∧ w.sub = 4)) :
    ((s.receiveBlock n words).port n).nextBsn = ((s.port n).nextBsn + 1) % 4096 ∧
      ((s.receiveBlock n words).port n).blocks = (s.port n).blocks ++ [goodBlock s n (words.take 32) (fc, fhp)] ∧
      s.receiveBlock n words = { s with ports := (s.receiveBlock n words).ports } := by
  have hgoodTaken : ∀ w ∈ words.take 32, w.good = true := fun w hw => hgood w (List.mem_of_mem_take hw)
  have hplaced := placeBlock_of_next (n := n) (s := s.setPort n (countBad (s.port n) words))
    (words.take 32) (by simpa using hresync) (by simpa using hmarker) (by simpa using hnew)
  rw [receiveBlock_of_placed hplaced hgone, takeBlock_of_good _ n _ hgoodTaken]
  refine ⟨?_, ?_, setPort_frame (setPort_frame (setPort_frame rfl n _) n _) n _⟩ <;> simp [appendBlock, goodBlock, State.now, State.dt]

/-- A port whose receiver goes on from x. -/
def receiverAt (p : Port) (x : RxLine) : Port := { p with scram := BitVec.ofNat 58 x.scram, prevP := BitVec.ofNat 2 x.prev }

@[simp] theorem receiverAt_blocks (p : Port) (x : RxLine) : (receiverAt p x).blocks = p.blocks := rfl
@[simp] theorem receiverAt_nextBsn (p : Port) (x : RxLine) : (receiverAt p x).nextBsn = p.nextBsn := rfl
@[simp] theorem receiverAt_resync (p : Port) (x : RxLine) : (receiverAt p x).resync = p.resync := rfl
@[simp] theorem receiverAt_bondPos (p : Port) (x : RxLine) : (receiverAt p x).bondPos = p.bondPos := rfl
@[simp] theorem receiverAt_patterned (p : Port) (x : RxLine) : (receiverAt p x).patterned = p.patterned := rfl

/-- BLOCK_RX in DATA, outside the pattern generator and HOLD, descrambles the levels and hands the words to the receiver. -/
theorem execBlockRx_eq {s : State} {n : Nat} {l : List Pam4} {words : List RxWord} {x : RxLine} (hn : n < s.variant.ports) (hlen : l.length = 693)
    (hpos : (s.port n).bondPos = 0) (hdata : (s.port n).state = .data) (hpattern : (s.port n).patterned = false) (hhold : s.ledger.pstate ≠ .hold)
    (hwords : rxWords (s.port n).precode 33 l { scram := (s.port n).scram.toNat, prev := (s.port n).prevP.toNat } = (words, x)) :
    execBlockRx n l s = .next ((s.setPort n (receiverAt (s.port n) x)).receiveBlock n words) := by
  have hexec : execBlockRx n l s = .next
      (if ((s.setPort n (receiverAt (s.port n) x)).port ((s.setPort n (receiverAt (s.port n) x)).head n)).patterned || s.ledger.pstate == .hold
        then s.setPort n (receiverAt (s.port n) x) else (s.setPort n (receiverAt (s.port n) x)).receiveBlock n words) := by
    have hreceives : ((s.port n).state != .data) = false := by simp [hdata]
    simp only [execBlockRx, blockLevels, hlen, onUnit_of_lt hn, hreceives, hwords]
    rfl
  rw [hexec, head_of_member_zero (by simpa using hpos)]
  simp [hpattern, hhold]

/-! A replay that has not come in time (R81). -/

/-- A block all of whose slots are marked, and which waits no more. -/
def markSlots (b : Block) : Block := { b with words := b.words.map fun w => { w with good := false }, deadline := none, marked := true }

@[simp] theorem parityError_port (s : State) (unit id code data j : Nat) : (s.parityError unit id code data).port j = s.port j := rfl

/-- Marking a block changes that block and the count of failed replays of its port. -/
theorem markBlock_port (s : State) (n bsn : Nat) :
    (s.markBlock n bsn).port n = { (s.port n).modBlock bsn markSlots with rxCounts := bump (s.port n).rxCounts 17 10 } := by
  simp [State.markBlock, State.replayFailed, Port.modBlock, markSlots]

/-- Marking a block raises REPLAY_FAIL of its port. -/
theorem markBlock_raises (s : State) (n bsn : Nat) :
    (s.markBlock n bsn).router.queue.getLast?.map (fun o => (o.id, o.code)) = some (evPort n, 0x06) := by
  simp [State.markBlock, State.replayFailed, State.parityError, raise_eq]

/-- REPLAY_DEADLINE where the one block of the buffer is past its deadline. -/
theorem execReplayDeadline_of_late {s : State} {n t : Nat} {b : Block} (hn : n < s.variant.ports) (hblocks : (s.port n).blocks = [b])
    (hdeadline : b.deadline = some t) (hlate : t ≤ s.now) : execReplayDeadline n s = .next (s.markBlock n b.bsn) := by
  simp [execReplayDeadline, onUnit_of_lt hn, hblocks, hdeadline, hlate]

/-! Release (R82). -/

/-- The oldest block of a single port, where it awaits no replay, leaves the buffer and is delivered. -/
theorem releaseBlock_of_single {s : State} {n : Nat} {b : Block} {r : List Block} (hbond : (s.port n).bond = 0)
    (hblocks : (s.port n).blocks = b :: r) (hdeadline : b.deadline = none) :
    s.releaseBlock n = (s.setPort n { s.port n with blocks := r }).deliverBlocks n [(n, b)] := by
  have hready : (s.port n).ready = some b := by simp [Port.ready, hblocks, Block.awaits, hdeadline]
  simp [State.releaseBlock, group_of_single hbond, hready, hblocks]

/-- BLOCK_RELEASE on member 0, outside the pattern generator and HOLD, is a release. -/
theorem execBlockRelease_eq {s : State} {n : Nat} (hn : n < s.variant.ports) (hpos : (s.port n).bondPos = 0)
    (hpattern : (s.port n).patterned = false) (hhold : s.ledger.pstate ≠ .hold) : execBlockRelease n s = .next (s.releaseBlock n) := by
  simp [execBlockRelease, onUnit_of_lt hn, hpos, hpattern, hhold]

/-- Settles O27, one command after the other: each command's own equation, then what the receiver, the marking or the release does. -/
theorem blocksAreReceivedAndReleased : Obligations.BlocksAreReceivedAndReleased := by
  intro s n hn hbond hpos
  refine ⟨?received, ?late, ?released⟩
  case received =>
    intro l words x fc fhp hlen hdata hpattern hhold hresync hwords hgood hmarker _ hgone hnew
    refine ⟨_, execBlockRx_eq hn hlen hpos hdata hpattern hhold hwords, ?_⟩
    obtain ⟨hnext, hblocks, hframe⟩ := receiveBlock_of_next
      (s := s.setPort n (receiverAt (s.port n) x)) (n := n) (fc := fc) (fhp := fhp)
      (by simpa using hresync) (by simpa using hmarker) (by simpa using hnew) hgood hgone
    rw [State.setPort_port, if_pos rfl] at hnext hblocks
    exact ⟨hnext, ⟨_, hblocks, rfl, rfl, rfl, rfl⟩, hframe⟩
  case late =>
    intro b t hblocks hdeadline hlate
    refine ⟨_, execReplayDeadline_of_late hn hblocks hdeadline hlate, ?_, ?_, markBlock_raises s n b.bsn⟩
    · simp [markBlock_port, Port.modBlock, hblocks, markSlots]
    · rw [markBlock_port]
  case released =>
    intro b r hblocks hdeadline hpattern hhold
    exact (execBlockRelease_eq hn hpos hpattern hhold).trans (congrArg _ (releaseBlock_of_single hbond hblocks hdeadline))

end Sys2Proof.Machine.RayBlocks
end

section
/-! Stages 5 and 8 of the pixel pipeline (06_facet_pipeline.md R182, R184): each stage as a function of a place and a sample or pixel. -/
namespace Sys2Proof.Machine.PixelStages

/-! An image mapped place by place keeps its shape. -/

theorem mapImg_length {α β : Type} (f : Nat → Nat → α → β) (im : List (List α)) : (mapImg f im).length = im.length := by simp [mapImg]

/-- Row y of a mapped image. -/
theorem mapImg_row {α β : Type} (f : Nat → Nat → α → β) {im : List (List α)} {y : Nat} (hy : y < im.length) :
    (mapImg f im).getD y [] = (im.getD y []).zipIdx.map fun v => f v.2 y v.1 := by
  simp [mapImg, hy]

theorem mapImg_row_length {α β : Type} (f : Nat → Nat → α → β) {im : List (List α)} {y : Nat} (hy : y < im.length) :
    ((mapImg f im).getD y []).length = (im.getD y []).length := by
  rw [mapImg_row f hy, List.length_map, List.length_zipIdx]

/-- The value in column x of row y is that of the function there. -/
theorem mapImg_at {α β : Type} (f : Nat → Nat → α → β) {im : List (List α)} {x y : Nat} (hy : y < im.length)
    (hx : x < (im.getD y []).length) (a : α) (b : β) :
    ((mapImg f im).getD y []).getD x b = f x y ((im.getD y []).getD x a) := by
  rw [mapImg_row f hy]
  generalize im.getD y [] = row at hx ⊢
  simp [hx]

theorem map_mapImg {α β γ : Type} (g : β → γ) (f : Nat → Nat → α → β) (im : List (List α)) :
    (mapImg f im).map (fun r => r.map g) = mapImg (fun x y v => g (f x y v)) im := by
  simp [mapImg]

theorem mapImg_mapImg {α β γ : Type} (g : β → γ) (f : Nat → Nat → α → β) (im : List (List α)) :
    mapImg (fun _ _ v => g v) (mapImg f im) = mapImg (fun x y v => g (f x y v)) im := by
  rw [← map_mapImg]
  simp [mapImg]

/-! Rounding and clamping (R175). -/

theorem clamp20_eq (v : Int) : ((clamp20 v).1 : Int) = max 0 (min 1048575 v) := by
  unfold clamp20 maxSample
  split
  · dsimp only; omega
  · split <;> dsimp only <;> omega

/-- Rounding to 16 fraction bits less: half of the last place is added, and what is below it is cut off. -/
theorem roundDiv_u16 (n : Int) : roundDiv n 65536 = (n + 32768).fdiv 65536 := by
  unfold roundDiv
  rw [Int.fdiv_eq_ediv_of_nonneg _ (by omega), Int.fdiv_eq_ediv_of_nonneg _ (by omega)]
  omega

theorem clamp20_roundDiv_u16 (n : Nat) : (clamp20 (roundDiv (n : Int) 65536)).1 = min 1048575 ((n + 32768) / 65536) := by
  have h := clamp20_eq (roundDiv (n : Int) 65536)
  rw [roundDiv_u16, Int.fdiv_eq_ediv_of_nonneg _ (by omega)] at h
  rw [roundDiv_u16, Int.fdiv_eq_ediv_of_nonneg _ (by omega)]
  omega

/-! Stage 5 (R182). -/

/-- What stage 5 makes of the sample v in column x of row y. -/
def whiteBalanced (p : ParamSet) (x y v : Nat) : Nat := min 1048575 ((v * paramPair p 4 (y % 2 * 2 + x % 2) + 32768) / 65536)

theorem stage5_of_disabled {p : ParamSet} (h : stageEn p 5 = false) (im : Img) : (stage5 p im).1 = im := by simp [stage5, h]

theorem stage5_of_enabled {p : ParamSet} (h : stageEn p 5 = true) (im : Img) : (stage5 p im).1 = mapImg (whiteBalanced p) im := by
  simp only [stage5, h, unzipClip, Bool.not_true, Bool.false_eq_true, if_false, map_mapImg, clamp20_roundDiv_u16]
  rfl

/-! Stage 8 (R184). -/

/-- Component i that stage 8 makes of a pixel. -/
def matrixOut (p : ParamSet) (i : Nat) (q : Px) : Nat :=
  (clamp20 (roundDiv (matrixC p i 0 * q.r + matrixC p i 1 * q.g + matrixC p i 2 * q.b + signed 20 (paramPair p 16 i) * 65536) 65536)).1

/-- The pixel that stage 8 makes of a pixel. -/
def matrixPx (p : ParamSet) (q : Px) : Px := { r := matrixOut p 0 q, g := matrixOut p 1 q, b := matrixOut p 2 q }

theorem matrixOut_eq (p : ParamSet) (i : Nat) (q : Px) :
    (matrixOut p i q : Int) = max 0 (min 1048575 ((matrixC p i 0 * q.r + matrixC p i 1 * q.g + matrixC p i 2 * q.b +
      signed 20 (paramPair p 16 i) * 65536 + 32768).fdiv 65536)) := by
  rw [matrixOut, clamp20_eq, roundDiv_u16]

theorem stage8_of_disabled {p : ParamSet} (h : stageEn p 8 = false) (im : PxImg) : (stage8 p im).1 = im := by simp [stage8, h]

theorem stage8_of_enabled {p : ParamSet} (h : stageEn p 8 = true) (im : PxImg) :
    (stage8 p im).1 = mapImg (fun _ _ q => matrixPx p q) im := by
  simp only [stage8, h, Bool.not_true, Bool.false_eq_true, if_false]
  exact mapImg_mapImg (fun v : (Nat × Bool) × (Nat × Bool) × (Nat × Bool) => ({ r := v.1.1, g := v.2.1.1, b := v.2.2.1 } : Px)) _ im

/-- Settles O41: an enabled stage maps the image place by place, with the rounding and the clamp of R175 at each. -/
theorem pixelStagesCompute : Obligations.PixelStagesCompute := by
  refine ⟨fun p im x y hy hx => ⟨fun h => stage5_of_disabled h im, fun h => ?balance⟩,
    fun p im x y hy hx => ⟨fun h => stage8_of_disabled h im, fun h => ?matrix⟩⟩
  case balance =>
    rw [stage5_of_enabled h]
    exact ⟨mapImg_length _ im, mapImg_row_length _ hy, mapImg_at _ hy hx 0 0⟩
  case matrix =>
    rw [stage8_of_enabled h]
    refine ⟨mapImg_length _ im, mapImg_row_length _ hy, ?_⟩
    dsimp only
    rw [mapImg_at _ hy hx Px.zero Px.zero]
    exact ⟨matrixOut_eq p 0 _, matrixOut_eq p 1 _, matrixOut_eq p 2 _⟩

end Sys2Proof.Machine.PixelStages
end

section
/-! The shadow and the set in force of a context (06_facet_pipeline.md R193 to R198): writes of the shadow, commits, frame starts and
table loads. -/
namespace Sys2Proof.Machine.ParamShadow

/-! What setting one context leaves. -/

theorem setCtx_same (s : State) (c : Nat) (x : Context) : (s.setCtx c x).ctx c = x := by simp

theorem setCtx_others (s : State) (c : Nat) (x : Context) : ∀ d, d ≠ c → (s.setCtx c x).ctx d = s.ctx d := by
  intro d hd
  simp [hd]

theorem setCtx_frame (s : State) (c : Nat) (x : Context) : s.setCtx c x = { s with ctxs := (s.setCtx c x).ctxs } := rfl

/-! Words of a parameter set. -/

theorem paramGet_paramSet (p : ParamSet) (k i : Nat) (w : Word) : paramGet (paramSet p k w) i = if i = k then w else paramGet p i :=
  bankGet_bankSet _ _ _ _ _

/-- The words of a run are written one after the other. -/
theorem writeParams_cons (p : ParamSet) (first : Nat) (w : Word) (ws : List Word) :
    writeParams p first (w :: ws) = writeParams (paramSet p first w) (first + 1) ws := by
  simp [writeParams, List.zipIdx_succ, List.foldl_map, Nat.add_assoc, Nat.add_comm 1]

/-- A run of words reads back where it was written, and every other word reads as before. -/
theorem paramGet_writeParams (ws : List Word) : ∀ (p : ParamSet) (first i : Nat),
    paramGet (writeParams p first ws) i = if first ≤ i ∧ i < first + ws.length then pw ws (i - first) else paramGet p i := by
  induction ws with
  | nil => intro p first i; rw [if_neg (by simp)]; rfl
  | cons w ws ih =>
    intro p first i
    rw [writeParams_cons, ih, paramGet_paramSet, List.length_cons]
    by_cases hlater : first + 1 ≤ i ∧ i < first + 1 + ws.length
    · obtain ⟨k, rfl⟩ : ∃ k, i = first + 1 + k := ⟨i - (first + 1), by omega⟩
      rw [if_pos hlater, if_pos (by omega), show first + 1 + k - (first + 1) = k by omega, show first + 1 + k - first = k + 1 by omega]
      rfl
    · rw [if_neg hlater]
      by_cases hfirst : i = first
      · subst hfirst
        rw [if_pos rfl, if_pos (by omega), Nat.sub_self]
        rfl
      · rw [if_neg hfirst, if_neg (by omega)]

/-! The words of a payload, and a load that Engine 28 carries. -/

theorem msgW_of_payload {m : Msg} {l : List Word} (h : m.payload = l) (i : Nat) : m.w i = pw l i := by rw [Msg.w, h]

theorem loaded_of_open {s : State} {host : List Byte} {need : Nat} (hopen : s.loadsOpen = true) (hlen : need ≤ host.length) (v : Verdict) :
    loaded host need s v = v := by
  simp [loaded, hopen, hlen]

/-! Writes of the shadow (R193, R198). -/

/-- A context whose shadow has words written from word `first` onward. -/
def withParams (s : State) (c first : Nat) (ws : List Word) : State :=
  s.setCtx c { s.ctx c with shadow := writeParams (s.ctx c).shadow first ws }

theorem paramWrite_of_bound {s : State} {c : Nat} (hbound : (s.ctx c).state ≠ .unbound) (hcommit : (s.ctx c).commitPending = false)
    (hawb : (s.ctx c).loop.awbEn = false) (m : Msg) (first : Nat) (ws : List Word) :
    s.paramWrite m c first ws = .done .ok [] (withParams s c first ws) := by
  simp [State.paramWrite, hbound, hcommit, hawb, okNext, withParams]

/-- Of all that a state holds, the words written are new and the rest stands. -/
theorem withParams_frame (s : State) (c first : Nat) (ws : List Word) :
    (∀ i, paramGet ((withParams s c first ws).ctx c).shadow i =
      if first ≤ i ∧ i < first + ws.length then pw ws (i - first) else paramGet (s.ctx c).shadow i) ∧
    ((withParams s c first ws).ctx c).inForce = (s.ctx c).inForce ∧ (∀ d, d ≠ c → (withParams s c first ws).ctx d = s.ctx d) ∧
    withParams s c first ws = { s with ctxs := (withParams s c first ws).ctxs } := by
  refine ⟨fun i => ?_, ?_, setCtx_others _ _ _, setCtx_frame _ _ _⟩
  · rw [withParams, setCtx_same, paramGet_writeParams]
  · rw [withParams, setCtx_same]

/-- CTX_PARAM_WRITE is no long command: the 64 incomplete messages of its door do not hold it back (R369). -/
theorem overfull_paramWrite {m : Msg} (hhost : bit (m.w 0) 19 = false) (s : State) (st : Status) (p : List Word) (u : State) :
    s.overfull 0x304 m (.done st p u) = false := by
  simp [State.overfull, longForm, hhost]

section
variable {s : State} {m : Msg} {w : Word} (hc : fld w 39 32 < s.variant.contexts) (hbound : (s.ctx (fld w 39 32)).state ≠ .unbound)
  (hcommit : (s.ctx (fld w 39 32)).commitPending = false) (hawb : (s.ctx (fld w 39 32)).loop.awbEn = false)
  (hadm : s.admits 0x304 permitR m = true) (hres : fld w 18 0 = 0)
include hc hbound hcommit hawb hadm hres

theorem exec_ctxParamWrite {ws : List Word} (hp : m.payload = w :: ws) (hne : ws ≠ []) (hlen : ws.length ≤ 254)
    (hhost : bit w 19 = false) (hfit : fld w 31 20 + ws.length ≤ 2456) :
    exec (.ctxParamWrite m) s = .next (mailDone 0x304 m .ok [] (withParams s (fld w 39 32) (fld w 31 20) ws)) := by
  have hw : m.w 0 = w := msgW_of_payload hp 0
  have hpos : 1 ≤ ws.length := List.length_pos_iff.mpr hne
  have hargs : (within 2 255 m.payload.length && ctxArg s (fld w 39 32) && zeroFld w 18 0 &&
      decide (fld w 31 20 + (m.payload.length - 1) ≤ 2456)) = true := by
    simp only [hp, List.length_cons, within, ctxArg, zeroFld, hres, Bool.and_eq_true, decide_eq_true_eq, beq_self_eq_true, and_true]
    exact ⟨⟨⟨by omega, by omega⟩, hc⟩, by omega⟩
  show execCtxParamWrite m s = _
  simp only [execCtxParamWrite, hw, hhost, Bool.false_eq_true, if_false]
  rw [mailRun_done hadm rfl hargs (paramWrite_of_bound hbound hcommit hawb _ _ _) (overfull_paramWrite (by rw [hw, hhost]) _ _ _ _), hp]
  rfl

theorem exec_ctxParamWriteHost {lo hi n : Word} {host : List Byte} (hroom : s.hasRoom m = true) (hopen : s.loadsOpen = true)
    (hp : m.payload = [w, lo, hi, n]) (hhost : bit w 19 = true) (haddr : fld hi 39 24 = 0) (hcount : fld n 39 12 = 0)
    (hfit : fld w 31 20 + fld n 11 0 + 1 ≤ 2456) (hlen : 8 * (fld n 11 0 + 1) ≤ host.length) :
    exec (.ctxParamWriteHost m host) s =
      .next (mailDone 0x304 m .ok [] (withParams s (fld w 39 32) (fld w 31 20) (wordsOfHost (fld n 11 0 + 1) host))) := by
  have hw : m.w 0 = w := msgW_of_payload hp 0
  have hw2 : m.w 2 = hi := msgW_of_payload hp 2
  have hw3 : m.w 3 = n := msgW_of_payload hp 3
  have hargs : (lenIs m 4 && ctxArg s (fld w 39 32) && zeroFld w 18 0 && hostAddrOk hi && zeroFld n 39 12 &&
      decide (fld w 31 20 + (fld n 11 0 + 1) ≤ 2456)) = true := by
    simp only [hp, List.length_cons, List.length_nil, lenIs, ctxArg, zeroFld, hostAddrOk, hres, haddr, hcount, Bool.and_eq_true,
      decide_eq_true_eq, beq_self_eq_true, and_true, true_and]
    exact ⟨hc, by omega⟩
  show execCtxParamWriteHost m host s = _
  simp only [execCtxParamWriteHost, hw, hw2, hw3, hhost, Bool.not_true, Bool.false_eq_true, if_false]
  exact congrArg _ (mailRun_done hadm rfl hargs
    ((loaded_of_open hopen hlen _).trans (paramWrite_of_bound hbound hcommit hawb _ _ _)) (overfull_hasRoom hroom _ _))

end

/-! Commits (R195, R196). -/

/-- What CTX_COMMIT does once its arguments stand: the checks of R195 come ahead of BUSY. -/
def commitBody (c : Nat) (target : Option Nat) (parityBad : Bool) (s : State) : Verdict :=
  let x := s.ctx c
  if x.state = .unbound then .done (if x.shadowOk then .state else .badArg) [] s
  else if !parityBad && !x.shadowOk then .done .badArg [] (s.setCtx c { x with result := 4 })
  else if x.commitPending || x.unbindPending then .done .busy [] s
  else if parityBad then .done .fault [] ((s.setCtx c { x with result := 3 }).parityError (evCtx c) (evCtx c) 9 0)
  else .wait (.commit c) (s.acceptCommit c target)

/-- CTX_COMMIT for the next frame. -/
theorem exec_ctxCommit_next {s : State} {m : Msg} {w : Word} (hflag : m.flags.getLsbD 1 = false) (hp : m.payload = [w])
    (hc : fld w 39 32 < s.variant.contexts) (hres : fld w 31 0 = 0) (parityBad : Bool) :
    exec (.ctxCommit m parityBad) s = .next (mailRun 0x305 permitR m s false true (commitBody (fld w 39 32) none parityBad)) := by
  have hargs : (lenIs m 1 && ctxArg s (fld w 39 32) && zeroFld w 31 0) = true := by simp [lenIs, hp, ctxArg, zeroFld, hc, hres]
  show execCtxCommit m parityBad s = _
  rw [← hargs]
  simp only [execCtxCommit, hflag, msgW_of_payload hp 0, Bool.false_eq_true, if_false]
  rfl

/-- CTX_COMMIT with AT_FRAME: a frame number stands ahead of its word. -/
theorem exec_ctxCommit_at {s : State} {m : Msg} {no w : Word} (hflag : m.flags.getLsbD 1 = true) (hp : m.payload = [no, w])
    (hc : fld w 39 32 < s.variant.contexts) (hres : fld w 31 0 = 0) (parityBad : Bool) :
    exec (.ctxCommit m parityBad) s =
      .next (mailRun 0x305 permitR m s false true (commitBody (fld w 39 32) (some no.toNat) parityBad)) := by
  have hargs : (lenIs m 2 && ctxArg s (fld w 39 32) && zeroFld w 31 0) = true := by simp [lenIs, hp, ctxArg, zeroFld, hc, hres]
  show execCtxCommit m parityBad s = _
  rw [← hargs]
  simp only [execCtxCommit, hflag, msgW_of_payload hp, if_true]
  rfl

section
variable {s : State} {c : Nat} (hbound : (s.ctx c).state ≠ .unbound)
include hbound

theorem commitBody_of_refused (hbad : (s.ctx c).shadowOk = false) (target : Option Nat) :
    commitBody c target false s = .done .badArg [] (s.setCtx c { s.ctx c with result := 4 }) := by
  simp [commitBody, hbound, hbad]

variable (hcommit : (s.ctx c).commitPending = false) (hunbind : (s.ctx c).unbindPending = false)
include hcommit hunbind

theorem commitBody_of_allowed (hok : (s.ctx c).shadowOk = true) (target : Option Nat) :
    commitBody c target false s = .wait (.commit c) (s.acceptCommit c target) := by
  simp [commitBody, hbound, hok, hcommit, hunbind]

theorem commitBody_of_parityBad (target : Option Nat) :
    commitBody c target true s = .done .fault [] ((s.setCtx c { s.ctx c with result := 3 }).parityError (evCtx c) (evCtx c) 9 0) := by
  simp [commitBody, hbound, hcommit, hunbind]

end

/-- A commit accepted is pending with its target; both sets are as they were. -/
theorem acceptCommit_ctx (s : State) (c : Nat) (target : Option Nat) :
    (s.acceptCommit c target).ctx c = { s.ctx c with
      target := BitVec.ofNat 40 (target.getD 0), commitPending := true, commitAt := s.now, atFrame := target.isSome, result := 0,
      frames := ((s.acceptCommit c target).ctx c).frames } := by
  rw [State.acceptCommit, State.modCtx, setCtx_same]

theorem acceptCommit_others (s : State) (c : Nat) (target : Option Nat) : ∀ d, d ≠ c → (s.acceptCommit c target).ctx d = s.ctx d :=
  setCtx_others _ _ _

theorem acceptCommit_frame (s : State) (c : Nat) (target : Option Nat) :
    s.acceptCommit c target = { s with ctxs := (s.acceptCommit c target).ctxs } := rfl

/-- A parity error changes no context. -/
theorem parityError_ctx (s : State) (unit id code data c : Nat) : (s.parityError unit id code data).ctx c = s.ctx c := rfl

/-- A parity error leaves one event more to the router. -/
theorem parityError_queue_ne (s : State) (unit id code data : Nat) : (s.parityError unit id code data).router.queue ≠ s.router.queue := by
  rw [State.parityError, raise_eq]
  simp

/-! Frame starts (R196, R197). -/

/-- The commit of a context is for a frame after frame `no`: its target lies ahead, modulo 2^40. -/
def isAhead (x : Context) (no : Nat) : Bool := x.atFrame && decide (2 ^ 39 ≤ (no + 2 ^ 40 - x.target.toNat) % 2 ^ 40)

theorem isAhead_iff (x : Context) (no : Nat) :
    isAhead x no = true ↔ x.atFrame = true ∧ 2 ^ 39 ≤ (no + 2 ^ 40 - x.target.toNat) % 2 ^ 40 := by
  simp only [isAhead, Bool.and_eq_true, decide_eq_true_eq]

/-- The commit of a context takes force after the frame that it names. -/
def isLate (x : Context) (no : Nat) : Bool := x.atFrame && no != x.target.toNat

theorem isLate_iff (x : Context) (no : Nat) : isLate x no = true ↔ x.atFrame = true ∧ no ≠ x.target.toNat := by simp [isLate]

/-- A context whose commit takes force at frame `no`. -/
def swapped (x : Context) (no : Nat) : Context :=
  { x with inForce := x.shadow, shadow := x.inForce, commitPending := false, paramFrame := BitVec.ofNat 40 no
           result := if isLate x no then 2 else 1, pipeCounts := if isLate x no then bump x.pipeCounts 7 4 else x.pipeCounts }

/-- A commit waits on in the cycle of its acceptance and where its frame lies ahead; otherwise it takes force and is answered. -/
theorem applyCommit_eq (s : State) (c no : Nat) :
    s.applyCommit c no =
      if !(s.ctx c).commitPending || decide ((s.ctx c).commitAt = s.now) || isAhead (s.ctx c) no then s
      else (s.setCtx c (swapped (s.ctx c) no)).finishWait (.commit c) (if isLate (s.ctx c) no then .late else .ok) [BitVec.ofNat 40 no] := rfl

theorem applyCommit_of_sameCycle {s : State} {c : Nat} (h : (s.ctx c).commitAt = s.now) (no : Nat) : s.applyCommit c no = s := by
  simp [applyCommit_eq, h]

theorem applyCommit_of_ahead {s : State} {c no : Nat} (h : isAhead (s.ctx c) no = true) : s.applyCommit c no = s := by
  simp [applyCommit_eq, h]

/-- What waits for the commit is answered, which changes no context. -/
theorem finishWait_ctx (s : State) (w : Wait) (st : Status) (p : List Word) (c : Nat) : (s.finishWait w st p).ctx c = s.ctx c := by
  rw [finishWait_same s w st p]
  rfl

theorem applyCommit_of_due {s : State} {c no : Nat} (hpending : (s.ctx c).commitPending = true) (hearlier : (s.ctx c).commitAt ≠ s.now)
    (hdue : isAhead (s.ctx c) no = false) : (s.applyCommit c no).ctx c = swapped (s.ctx c) no := by
  simp [applyCommit_eq, hpending, hearlier, hdue, finishWait_ctx]

/-! Loads of a shading table (R194). -/

/-- A context with a shading table in slot A or B. -/
def withShade (x : Context) (slotB : Bool) (l : List Word) : Context := if slotB then { x with shadeB := some l } else { x with shadeA := some l }

theorem withShade_slot (x : Context) (slotB : Bool) (l : List Word) :
    (if slotB then (withShade x slotB l).shadeB else (withShade x slotB l).shadeA) = some l := by
  cases slotB <;> rfl

theorem withShade_inForce (x : Context) (slotB : Bool) (l : List Word) : (withShade x slotB l).inForce = x.inForce := by
  cases slotB <;> rfl

/-- Neither the set in force nor a set on its way names the slot for its shading table. -/
def shadeSlotFree (x : Context) (slotB : Bool) : Prop :=
  bit (paramGet x.inForce 1) 39 ≠ slotB ∧ (x.commitPending = true → bit (paramGet x.shadow 1) 39 ≠ slotB)

theorem exec_ctxTableLoad_shade {s : State} {m : Msg} {w lo hi : Word} {host : List Byte} (hc : fld w 39 32 < s.variant.contexts)
    (hbound : (s.ctx (fld w 39 32)).state ≠ .unbound) (hadm : s.admits 0x306 permitR m = true) (hroom : s.hasRoom m = true)
    (hopen : s.loadsOpen = true) (hp : m.payload = [w, lo, hi]) (hres : fld w 12 0 = 0) (haddr : fld hi 39 24 = 0)
    (hkind : bit w 31 = false) (hcount : fld w 29 13 = 6370) (hslot : shadeSlotFree (s.ctx (fld w 39 32)) (bit w 30))
    (hlen : 8 * 6370 ≤ host.length) :
    exec (.ctxTableLoad m host) s = .next (mailDone 0x306 m .ok []
      (s.setCtx (fld w 39 32) (withShade (s.ctx (fld w 39 32)) (bit w 30) (wordsOfHost 6370 host)))) := by
  have hw : m.w 0 = w := msgW_of_payload hp 0
  have hw2 : m.w 2 = hi := msgW_of_payload hp 2
  have hfree : ¬ ((decide ((s.ctx (fld w 39 32)).state = .unbound) || bit (paramGet (s.ctx (fld w 39 32)).inForce 1) 39 == bit w 30 ||
      ((s.ctx (fld w 39 32)).commitPending && bit (paramGet (s.ctx (fld w 39 32)).shadow 1) 39 == bit w 30)) = true) := by
    simpa [hbound, hslot.1] using hslot.2
  show execCtxTableLoad m host s = _
  simp only [execCtxTableLoad, hw, hw2, hkind, hcount]
  refine congrArg _ (mailRun_done hadm rfl ?args ?body (overfull_hasRoom hroom _ _))
  case args => simp [hp, lenIs, ctxArg, zeroFld, hostAddrOk, hc, hres, haddr]
  case body =>
    simp only [Bool.false_eq_true, if_false]
    rw [if_neg hfree, loaded_of_open hopen hlen, okNext]
    cases bit w 30 <;> rfl

/-! The obligation. -/

/-- Settles O39, one command after the other, and the frame start: each one's own equation, then what the state that it names holds. -/
theorem parametersAreShadowed : Obligations.ParametersAreShadowed := by
  intro s m c hc hbound
  refine ⟨?writes, ?commitNext, ?commitAt, ?sameCycle, ?frameStart, ?tableLoad⟩
  case writes =>
    intro hcommit hawb
    refine ⟨?words, ?host⟩
    case words =>
      rintro w ws hadm hp hne hlen rfl hhost hres hfit
      exact ⟨_, exec_ctxParamWrite hc hbound hcommit hawb hadm hres hp hne hlen hhost hfit, _, rfl, withParams_frame _ _ _ _⟩
    case host =>
      rintro w lo hi n host hadm hroom hopen hp rfl hhost hres haddr hcount hfit hlen
      exact ⟨_, exec_ctxParamWriteHost hc hbound hcommit hawb hadm hres hroom hopen hp hhost haddr hcount hfit hlen, _, rfl,
        withParams_frame _ _ _ _⟩
  case commitNext =>
    rintro w hadm hflag hp rfl hres hcommit hunbind
    have hexec := exec_ctxCommit_next hflag hp hc hres
    refine ⟨?allowed, ?refused, ?parity⟩
    case allowed =>
      intro hok hroom
      refine ⟨_, (hexec false).trans (congrArg _ (mailRun_wait hadm rfl rfl (commitBody_of_allowed hbound hcommit hunbind hok none) hroom)),
        _, rfl, ?_⟩
      dsimp only
      rw [acceptCommit_ctx]
      exact ⟨rfl, rfl, rfl, rfl, rfl, acceptCommit_others _ _ _, acceptCommit_frame _ _ _⟩
    case refused =>
      intro hbad
      exact ⟨_, (hexec false).trans (congrArg _ (mailRun_done hadm rfl rfl (commitBody_of_refused hbound hbad none) rfl)),
        _, rfl, setCtx_same _ _ _, setCtx_others _ _ _, setCtx_frame _ _ _⟩
    case parity =>
      intro hroom
      exact ⟨_, (hexec true).trans (congrArg _ (mailRun_done hadm rfl rfl (commitBody_of_parityBad hbound hcommit hunbind none)
        (overfull_hasRoom hroom _ _))), _, rfl, (parityError_ctx _ _ _ _ _ _).trans (setCtx_same _ _ _), parityError_queue_ne _ _ _ _ _⟩
  case commitAt =>
    rintro no w hadm hflag hp rfl hres hcommit hunbind hok hroom
    refine ⟨_, (exec_ctxCommit_at hflag hp hc hres false).trans
      (congrArg _ (mailRun_wait hadm rfl rfl (commitBody_of_allowed hbound hcommit hunbind hok _) hroom)), _, rfl, ?_⟩
    dsimp only
    rw [acceptCommit_ctx]
    exact ⟨rfl, rfl, BitVec.ofNat_toNat 40 no, rfl⟩
  case sameCycle => exact fun _ hcycle no => applyCommit_of_sameCycle hcycle no
  case frameStart =>
    intro hpending hearlier no hno
    refine ⟨fun hdue => ?_, fun hat hahead => applyCommit_of_ahead ((isAhead_iff _ _).mpr ⟨hat, hahead⟩)⟩
    have hnotAhead : isAhead (s.ctx c) no = false := by
      rw [Bool.eq_false_iff, Ne, isAhead_iff]
      rintro ⟨hat, hahead⟩
      rcases hdue with hnext | hbehind
      · exact Bool.false_ne_true (hnext.symm.trans hat)
      · omega
    rw [applyCommit_of_due hpending hearlier hnotAhead, ← isLate_iff]
    exact ⟨rfl, rfl, rfl, (BitVec.toNat_ofNat no 40).trans (Nat.mod_eq_of_lt hno), fun h => if_pos h, fun h => if_neg h⟩
  case tableLoad =>
    rintro w lo hi host hadm hroom hopen hp rfl hres haddr hkind hcount hforce hshadow hlen
    refine ⟨_, exec_ctxTableLoad_shade hc hbound hadm hroom hopen hp hres haddr hkind hcount ⟨hforce, hshadow⟩ hlen, _, rfl, ?_⟩
    dsimp only
    rw [setCtx_same]
    exact ⟨withShade_slot _ _ _, withShade_inForce _ _ _, setCtx_others _ _ _, setCtx_frame _ _ _⟩

end Sys2Proof.Machine.ParamShadow
end
